-- ==== Sys2Proof/Word.lean ====
section
/-! DEFINITION. The word types of the SB-440 model: bytes of the link, lanes, profile slots, and fixed families indexed by them. -/

namespace Sys2Proof

/-- One byte on a serial link (R187). -/
abbrev Byte := BitVec 8

/-- Lanes are numbered 0 to 3; each head carries the number of its lane (00_scope, Numbering). -/
abbrev Lane := Fin 4

/-- Profile slots are numbered 0 to 15 (00_scope, Numbering). -/
abbrev Slot := Fin 16

/-- One value for each lane or head. -/
abbrev PerLane (α : Type) := Vector α 4

/-- One value for each profile slot. -/
abbrev PerSlot (α : Type) := Vector α 16

/-- A timer: stopped, or running with so many milliseconds left. -/
abbrev Timer := Option Nat

/-- The four lanes in order. -/
def lanes : List Lane := [0, 1, 2, 3]

/-- The sixteen profile slots in order. -/
def profileSlots : List Slot := [0, 1, 2, 3, 4, 5, 6, 7, 8, 9, 10, 11, 12, 13, 14, 15]

end Sys2Proof
end

