-- ==== Sys2Proof/Config.lean ====
section
/-! DEFINITION. The constants the manual fixes for every SB-440, and the free values it leaves open (opaque, without a body). -/

namespace Sys2Proof.Config

/-- Places of the tracking table (R26). -/
def tableSize : Nat := 96

/-- Position units in one track unit: the fraction is in 1/65536 tu (R8). -/
def tu : Nat := 65536

/-- The greatest line position, 2^40 - 1 tu and 65535/65536 (R9), in 1/65536 tu. -/
def posMax : Nat := 2 ^ 56 - 1

/-- A 32-bit count stops here (00_scope, Arithmetic). -/
def count32 : Nat := 2 ^ 32 - 1

/-- The greatest speed along the line, tu/s (00_scope, Units). -/
def speedMax : Nat := 8000

/-- A window's pulse count saturates here (R2). -/
def pulseMax : Nat := 65535

/-- A line monitor's history holds the counts of up to this many windows (R2). -/
def historyMax : Nat := 8

/-- The bag supply's greatest value (R106). -/
def bagMax : Nat := 9999

/-- The clip supply's greatest value (R113). -/
def clipMax : Nat := 20000

/-- Crumb estimates saturate here, mg (R131). -/
def crumbMax : Nat := 4000000

/-- The weigh interface reports no load above this, mg (R140). -/
def weighMax : Nat := 2000000

/-- Loaves since purge saturate here (R131). -/
def loavesMax : Nat := 65535

/-- The greatest value of the calendar clock, seconds (R172). -/
def clockMax : Nat := 3155759999

/-- The greatest length a record can carry, tu (R37). -/
def lengthMax : Nat := 65535

/-- The weigh timeout, ms, and the settle time, ms (R130). -/
def weighMs : Nat := 200
def settleMs : Nat := 1000

/-- FREE VALUE (log entry 14): the five bytes by which a position of 2^40 tu or more is reported; R204 gives a position five bytes and states nothing for one that does not fit. -/
opaque overlongPosition : Nat → Nat

/-- FREE VALUE (log entry 15): the count of 100 ms units by which a time remaining that is no multiple of 100 ms is reported; R198 states no rounding. -/
opaque tenthsOf : Nat → Nat

/-- FREE VALUE (log entry 16): the "number of sections written" of a STORE_DONE notice when so many sections failed; R170 does not say whether a failed section counts as written. -/
opaque sectionsWritten : Nat → Nat

/-- FREE VALUE (log entry 31): the snapshot of a VERIFIER_BLIND that a warm restart raises again; R194 gives it a loaf number and two codes of the blind read, which the part no longer holds. Applied to the clock at the restart. -/
opaque blindSnapshot : Nat → Vector Byte 20

end Sys2Proof.Config
end

