-- ==== Sys2Proof/Syntax.lean ====
section
/-! DEFINITION. The commands of the SB-440: one constructor for each row of spec/opcode_table.json. -/

namespace Sys2Proof

/-- The two line encoders: the measuring wheel and the main drive motor shaft (R1). -/
inductive LineSource | w | m
deriving DecidableEq, Repr

/-- What can be purged and weighed: one of the heads, or the merge belt (R134, R140). -/
inductive Target
  | head (lane : Lane)
  | belt
deriving DecidableEq, Repr

/-- A command that the block takes from outside. The pin and timer events carry what the pin or timer
says; the requests of the host carry the tag and the payload bytes of their frame (R187). -/
inductive Instr
  /-- POWER_ON (R171): power comes; `estop` is the E-stop input as read at that instant (R186). -/
  | powerOn (estop : Bool)
  /-- LINE_ENCODER_PULSE (R8): one pulse of W or M. -/
  | lineEncoderPulse (source : LineSource)
  /-- PACER_ADVANCE (R10): `ms` milliseconds of the pacer's running. -/
  | pacerAdvance (ms : Nat)
  /-- BLADE_ENCODER_PULSE (R2): one pulse of a head's blade encoder. -/
  | bladeEncoderPulse (head : Lane)
  /-- WINDOW_END (R2). -/
  | windowEnd
  /-- INFEED_LEADING_EDGE (R35). -/
  | infeedLeadingEdge (lane : Lane)
  /-- INFEED_TRAILING_EDGE (R37). -/
  | infeedTrailingEdge (lane : Lane)
  /-- POCKET_ARRIVAL (R41). -/
  | pocketArrival (lane : Lane)
  /-- MERGE_RELEASE_EDGE (R98). -/
  | mergeReleaseEdge
  /-- EXIT_ARRIVAL (R46). -/
  | exitArrival
  /-- CHUTE_ARRIVAL (R47). -/
  | chuteArrival
  /-- BAG_OPEN_SIGNAL (R104). -/
  | bagOpenSignal
  /-- ESTOP_ASSERTED (R181). -/
  | estopAsserted
  /-- ESTOP_RELEASED (R181). -/
  | estopReleased
  /-- CODE_READER_ANSWER (R118): the bytes of the answer as they came. -/
  | codeReaderAnswer (bytes : List Byte)
  /-- WEIGH_ANSWER (R140): the tray named and its load in mg. -/
  | weighAnswer (tray : Target) (load : Nat)
  /-- FRAME_RECEIVED (R188): bytes on the receive line, a complete frame or a part of one. -/
  | frameReceived (bytes : List Byte)
  /-- INTERBYTE_TIMEOUT (R188). -/
  | interbyteTimeout
  /-- FRAME_SENT (R192). -/
  | frameSent
  /-- CLOCK_TICK (R172). -/
  | clockTick
  /-- DEMAND_RAMP (R183): `ms` milliseconds of the demand's ramp. -/
  | demandRamp (ms : Nat)
  /-- HOLDOVER_TIMER_EXPIRY (R21). -/
  | holdoverTimerExpiry
  /-- SPINUP_TIMER_EXPIRY (R73). -/
  | spinupTimerExpiry (head : Lane)
  /-- RETRIAL_TIMER_EXPIRY (R81). -/
  | retrialTimerExpiry (lane : Lane)
  /-- BAG_CONFIRM_TIMER_EXPIRY (R104). -/
  | bagConfirmTimerExpiry
  /-- CHANGEOVER_TIMER_EXPIRY (R96). -/
  | changeoverTimerExpiry
  /-- REINDEX_TIMER_EXPIRY (R126). -/
  | reindexTimerExpiry
  /-- PURGE_TIMER_EXPIRY (R141). -/
  | purgeTimerExpiry
  /-- SETTLE_TIMER_EXPIRY (R141). -/
  | settleTimerExpiry
  /-- WEIGH_TIMER_EXPIRY (R140). -/
  | weighTimerExpiry
  /-- START_LIMIT_EXPIRY (R177). -/
  | startLimitExpiry
  /-- SILENCE_TIMER_EXPIRY (R184). -/
  | silenceTimerExpiry
  /-- STORE_COMPLETE (R170): the set of sections whose read-back failed, bit 0 the settings, bits 1 to 16 the slots. -/
  | storeComplete (failed : BitVec 17)
  /-- UNKNOWN_KIND_REQUEST (R191). -/
  | unknownKindRequest (kind tag : Byte) (payload : List Byte)
  /-- IDENTIFY (R198). -/
  | identify (tag : Byte) (payload : List Byte)
  /-- READ_STATUS (R198). -/
  | readStatus (tag : Byte) (payload : List Byte)
  /-- SET_LINK (R189). -/
  | setLink (tag : Byte) (payload : List Byte)
  /-- SET_NOTICE_MASK (R196). -/
  | setNoticeMask (tag : Byte) (payload : List Byte)
  /-- CLEAR (R197). -/
  | clear (tag : Byte) (payload : List Byte)
  /-- SET_CLOCK (R173). -/
  | setClock (tag : Byte) (payload : List Byte)
  /-- READ_CLOCK (R173). -/
  | readClock (tag : Byte) (payload : List Byte)
  /-- PUT_PROFILE (R164). -/
  | putProfile (tag : Byte) (payload : List Byte)
  /-- GET_PROFILE (R165). -/
  | getProfile (tag : Byte) (payload : List Byte)
  /-- SET_LINE (R168). -/
  | setLine (tag : Byte) (payload : List Byte)
  /-- GET_LINE (R169). -/
  | getLine (tag : Byte) (payload : List Byte)
  /-- STORE (R170). -/
  | store (tag : Byte) (payload : List Byte)
  /-- START (R176). -/
  | start (tag : Byte) (payload : List Byte)
  /-- STOP (R178). -/
  | stop (tag : Byte) (payload : List Byte)
  /-- HALT (R181). -/
  | halt (tag : Byte) (payload : List Byte)
  /-- CLEAR_TRACK (R51). -/
  | clearTrack (tag : Byte) (payload : List Byte)
  /-- RESTART (R185). -/
  | restart (tag : Byte) (payload : List Byte)
  /-- SET_SPEED (R182). -/
  | setSpeed (tag : Byte) (payload : List Byte)
  /-- SET_REFERENCE (R15). -/
  | setReference (tag : Byte) (payload : List Byte)
  /-- SET_LANES (R86). -/
  | setLanes (tag : Byte) (payload : List Byte)
  /-- SET_LANE_PROFILE (R167). -/
  | setLaneProfile (tag : Byte) (payload : List Byte)
  /-- CLEAR_LANE (R87). -/
  | clearLane (tag : Byte) (payload : List Byte)
  /-- LOAD_BAGS (R107). -/
  | loadBags (tag : Byte) (payload : List Byte)
  /-- LOAD_CLIPS (R114). -/
  | loadClips (tag : Byte) (payload : List Byte)
  /-- SET_CHALLENGE (R127). -/
  | setChallenge (tag : Byte) (payload : List Byte)
  /-- READ_CODECHECK (R128). -/
  | readCodecheck (tag : Byte) (payload : List Byte)
  /-- RESET_CODECHECK (R128). -/
  | resetCodecheck (tag : Byte) (payload : List Byte)
  /-- PURGE (R134). -/
  | purge (tag : Byte) (payload : List Byte)
  /-- READ_CRUMB (R146). -/
  | readCrumb (tag : Byte) (payload : List Byte)
  /-- OPEN_SHIFT (R150). -/
  | openShift (tag : Byte) (payload : List Byte)
  /-- CLOSE_SHIFT (R151). -/
  | closeShift (tag : Byte) (payload : List Byte)
  /-- READ_TOTALS (R158). -/
  | readTotals (tag : Byte) (payload : List Byte)
  /-- READ_TRACK (R52). -/
  | readTrack (tag : Byte) (payload : List Byte)
  /-- REJECT_LOAF (R50). -/
  | rejectLoaf (tag : Byte) (payload : List Byte)
  /-- POWER_LOSS (R170): power goes; of a store in progress `written` sections had been written whole, and `damaged` says whether the section then being written is left with a bad CRC. -/
  | powerLoss (written : Nat) (damaged : Bool)
deriving DecidableEq, Repr

end Sys2Proof
end

