-- ==== Sys2Proof/Machine/State.lean ====
section
/-! DEFINITION. The state of the SB-440, block by block as the manual gives it, as plain data; the stops; and the state after power-on. -/

namespace Sys2Proof.Machine

/-! ### Link Port (chapter 11) -/

/-- The 24 notice kinds in the order of R194. -/
inductive Kind
  | lineState | refState | slip | laneChange | bladeFault | tableReserve | trackOverrun | lostLoaf
  | phantomLoaf | escape | divertFail | baggerDown | bagsLow | clipsLow | tyerReindex | codeMismatch
  | verifierBlind | purgeDone | crumbForced | crumbModel | shiftClosed | storeDone | storeFault | linkSilent
deriving DecidableEq, Repr

/-- The receiver (R188): HUNT, or a frame with the bytes so far after its start byte. -/
inductive Receiver
  | hunt
  | receiving (bytes : List Byte)
deriving DecidableEq, Repr

/-- A request as its valid frame carries it (R187). -/
structure Req where
  kind : Byte
  tag : Byte
  payload : List Byte
deriving DecidableEq, Repr

/-- The link rates (R189). -/
inductive LinkRate | b115200 | b230400 | b460800
deriving DecidableEq, Repr

/-- A reply frame, with the link rate to take at its end where it answers an accepted SET_LINK (R189). -/
structure Reply where
  frame : List Byte
  newRate : Option LinkRate
deriving DecidableEq, Repr

/-- The transmitter (R192). -/
inductive Transmitter
  | idle
  | sendingReply (reply : Reply)
  | sendingNotice (frame : List Byte)
deriving DecidableEq, Repr

/-- A queued notice (R193). -/
structure Notice where
  kind : Kind
  time : Nat
  snapshot : List Byte
deriving DecidableEq, Repr

/-- The link counters, 32-bit and saturating. -/
structure LinkCounters where
  framesTaken : Nat
  badCrc : Nat
  badLength : Nat
  truncated : Nat
  overrun : Nat
  noticesSent : Nat
deriving DecidableEq, Repr

/-- The Link Port. `flags` and `mask` hold kind n at bit n - 1 (R196). -/
structure Lp where
  receiver : Receiver
  hand : Option Req
  waiting : Option Req
  reply : Option Reply
  tx : Transmitter
  rate : LinkRate
  flags : BitVec 24
  mask : BitVec 24
  queue : List Notice
  counters : LinkCounters
  attn : Bool
deriving DecidableEq, Repr

/-! ### Speed Reference Unit (chapter 1) -/

/-- A window monitor (R1, R5, R6): its qualification, its runs, and the count of the window in progress. -/
structure Monitor where
  qualified : Bool
  acceptRun : Nat
  rejectRun : Nat
  count : Nat
deriving DecidableEq, Repr

/-- A count of a line monitor's history, with the window length it was counted over (R2, R11). -/
structure WindowCount where
  count : Nat
  ms : Nat
deriving DecidableEq, Repr

/-- A line monitor, with the counts of up to 8 recent windows, oldest first (R2). -/
structure LineMonitor where
  mon : Monitor
  history : List WindowCount
deriving DecidableEq, Repr

/-- AUTO or FIXED (R12). -/
inductive RefMode | auto | fixed
deriving DecidableEq, Repr

/-- The reference settings (R12). -/
structure RefSettings where
  mode : RefMode
  fixedSource : LineSource
  revertive : Bool
  hitless : Bool
deriving DecidableEq, Repr

/-- The selected source: an encoder, or the pacer (R8, R10). -/
inductive Source
  | encoder (source : LineSource)
  | pacer
deriving DecidableEq, Repr

/-- The reference states (section 1.5). -/
inductive RefState | idle | acquire | track | holdover | crawl
deriving DecidableEq, Repr

/-- The Speed Reference Unit. `pos` is the line position in 1/65536 tu (R8); `pacerCarry` is the model's own (log entry 6). The loss-of-track count lives in its nonvolatile cell (R22). -/
structure Sru where
  w : LineMonitor
  m : LineMonitor
  windowMs : Nat
  windowLeft : Nat
  settings : RefSettings
  selected : Source
  state : RefState
  pacerSpeed : Nat
  frozen : Nat
  holdover : Timer
  slipActive : Bool
  pos : Nat
  pacerCarry : Nat
  incW : Nat
  incM : Nat
  estimate : Nat
deriving DecidableEq, Repr

/-! ### Line Control (chapter 10) -/

/-- The line states (R175). -/
inductive LineState | ready | starting | running | draining | halted
deriving DecidableEq, Repr

/-- The start origin: the state from which the line entered STARTING (R176). -/
inductive Origin | ready | halted
deriving DecidableEq, Repr

/-- The stop causes of chapter 10, in their order of listing. -/
inductive StopCause
  | none | stop | halt | estop | positionLimit | startFail | laneFault | noLanes | verifierBlind
  | shiftClose | linkSilent | restart
deriving DecidableEq, Repr

/-- Line Control. `demand` is also the line drive output (R183); `rampCarry` is the model's own (log entry 6). -/
structure Lc where
  state : LineState
  origin : Origin
  cause : StopCause
  setSpeed : Nat
  ceiling : Nat
  target : Nat
  demand : Nat
  rampCarry : Nat
  held : Option Nat
  startLimit : Timer
  silence : Timer
  estop : Bool
deriving DecidableEq, Repr

/-! ### Tracking Unit (chapter 2) -/

/-- The classes PLN gives (R55). -/
inductive LoafClass | normal | short | long | tailgate
deriving DecidableEq, Repr

/-- A plan: interior count, reported pitch in 1/256 tu, and the THICK flag (R60). -/
structure Plan where
  k : Nat
  p256 : Nat
  thick : Bool
deriving DecidableEq, Repr

/-- The bag results (R104). -/
inductive BagResult | bagged | baggedOnRetry | notBagged
deriving DecidableEq, Repr

/-- The read results (R120, R121); a MISMATCH carries the text read. -/
inductive ReadResult
  | match
  | mismatch (actual : List Byte)
  | noClip
  | noRead
deriving DecidableEq, Repr

/-- The twelve reject reasons, in the order of their codes (R201). -/
inductive Reason
  | short | long | tailgate | overspeed | suspect | blade | bagMiss | noClip | mismatch | noRead
  | operator | challenge
deriving DecidableEq, Repr

/-- PASS or DIVERT (R43, R44). -/
inductive Decision | pass | divert
deriving DecidableEq, Repr

/-- The record states in their order (R29). -/
inductive RecState
  | measuring | planned | slicing | queued | merged | bagged | tied | checked | decided
deriving DecidableEq, Repr

/-- A loaf record (R27). `pocket` holds the in-pocket flag and the arrival position together; `slicingEnded`
marks a record whose slicing has ended while it is still SLICING (R71, R75, R77; log entry 26). -/
structure Rec where
  loaf : Nat
  lane : Lane
  slot : Slot
  tag : Nat
  bagClass : Nat
  lead : Nat
  length : Option Nat
  cls : Option LoafClass
  plan : Option Plan
  cutsDone : Nat
  slicingEnded : Bool
  pocket : Option Nat
  retries : Nat
  mergeLead : Option Nat
  seq : Option Nat
  bagResult : Option BagResult
  expected : Option (List Byte)
  challenge : Bool
  read : Option ReadResult
  reasons : List Reason
  suspect : Bool
  late : Bool
  decision : Option Decision
  state : RecState
deriving DecidableEq, Repr

/-- The Tracking Unit. The records of the table stand in the lane queues and the post-merge queue, oldest
first (section 2.2; log entry 23). `closedBy` holds condition c of R33 at bit c - 1; a gate is open when no bit is set. -/
structure Trk where
  queues : PerLane (List Rec)
  post : List Rec
  closedBy : PerLane (BitVec 8)
  reserveHeld : Bool
  nextLoaf : Nat
  nextSeq : Nat
  rejectGate : Decision
deriving DecidableEq, Repr

/-! ### Slicer Heads and Lane Control (chapter 4) -/

/-- The blade states (R70). -/
inductive BladeState | stopped | spinup | running | parked | fault
deriving DecidableEq, Repr

/-- The lane states (R78). -/
inductive LaneState | idle | running | trial | down | parked
deriving DecidableEq, Repr

/-- The six lane faults (R79). -/
inductive LaneFault | eyeBlocked | blade | pocketPhantom | pocketLost | trackOverrun | crumbOverflow
deriving DecidableEq, Repr

/-- One head: blade, monitor, rate demand in 1/256 cuts/s, spin-up timer. The servo output is `State.servo` (R70). -/
structure Head where
  blade : BladeState
  mon : Monitor
  demand : Nat
  spinup : Timer
deriving DecidableEq, Repr

/-- One lane as HD holds it. `trialRan` marks that the blade has been RUNNING in the current TRIAL (R82; log entry 26). -/
structure LaneCtl where
  state : LaneState
  target : Bool
  trialLeft : Nat
  trialList : List Nat
  trialRan : Bool
  trialFails : Nat
  retrial : Timer
  lastFault : Option (LaneFault × Nat)
deriving DecidableEq, Repr

/-- Slicer Heads and Lane Control. -/
structure Hd where
  heads : PerLane Head
  lanes : PerLane LaneCtl
deriving DecidableEq, Repr

/-! ### Merge Arbiter and Bagger (chapter 5) -/

/-- The withhold set (R91), one flag for each holder. -/
structure Withhold where
  changeover : Bool
  bagger : Bool
  tyer : Bool
  purge : Bool
  line : Bool
deriving DecidableEq, Repr

/-- The grant in flight (R97). -/
structure Grant where
  loaf : Nat
  lane : Lane
deriving DecidableEq, Repr

/-- The spacing reference: merge lead and length of the last confirmed grant (R98). -/
structure Spacing where
  lead : Nat
  length : Nat
deriving DecidableEq, Repr

/-- The changeover (R96): waiting, or running with so many ms left, with the class it changes to. -/
inductive Changeover
  | none
  | waiting (cls : Nat)
  | running (cls : Nat) (left : Nat)
deriving DecidableEq, Repr

/-- The Merge Arbiter. -/
structure Arb where
  withhold : Withhold
  bagClass : Nat
  rotation : Lane
  bypass : PerLane Nat
  flight : Option Grant
  spacing : Option Spacing
  changeover : Changeover
  pushers : PerLane Bool
deriving DecidableEq, Repr

/-- The bagger states (R102). -/
inductive BaggerState | ready | cycle | down | empty
deriving DecidableEq, Repr

/-- The attempt in progress: the record and the attempt number (R104). -/
structure Attempt where
  loaf : Nat
  number : Nat
deriving DecidableEq, Repr

/-- The Bagger Unit. -/
structure Bag where
  supply : Nat
  state : BaggerState
  misses : Nat
  attempt : Option Attempt
  confirm : Timer
  cycleOut : Bool
deriving DecidableEq, Repr

/-! ### Tyer and Code Check Unit (chapter 6) -/

/-- The tyer states (R111). -/
inductive TyerState | ready | reindexPending | reindex | empty
deriving DecidableEq, Repr

/-- A read awaiting its answer (R118). -/
structure OpenRead where
  trigger : Nat
  loaf : Nat
  windowEnd : Nat
deriving DecidableEq, Repr

/-- An entry of the burst window (R124). -/
structure BurstEntry where
  loaf : Nat
  bad : Bool
deriving DecidableEq, Repr

/-- The last-mismatch capture (R120). -/
structure Capture where
  loaf : Nat
  expected : List Byte
  actual : List Byte
deriving DecidableEq, Repr

/-- The code-check counters (R123). -/
structure CodeCounters where
  mismatches : Nat
  reads : Nat
  caught : Nat
  noReads : Nat
  strays : Nat
deriving DecidableEq, Repr

/-- The motion last commanded on the tyer stroke output (log entry 22). -/
inductive TyerOut | none | stroke | reindex
deriving DecidableEq, Repr

/-- The Tyer and Code Check Unit. `printed` is the code last sent to the printer, `readerTrigger` the two bytes last sent to the reader (log entry 22). -/
structure Tie where
  supply : Nat
  state : TyerState
  owed : Bool
  reindex : Timer
  challengeCount : Nat
  openReads : List OpenRead
  nextTrigger : Nat
  burst : List BurstEntry
  counters : CodeCounters
  capture : Option Capture
  blind : Bool
  tyerOut : TyerOut
  printed : Option (List Byte)
  readerTrigger : Option (List Byte)
deriving DecidableEq, Repr

/-! ### Crumb Unit (chapter 7) -/

/-- What CRM keeps of one head. -/
structure HeadCrumb where
  estimate : Nat
  correction : Nat
  loaves : Nat
deriving DecidableEq, Repr

/-- FORCED or SOFT (R135). -/
inductive Group | forced | soft
deriving DecidableEq, Repr

/-- An entry of the purge queue; whether it holds its gap follows from its group and place (R136). -/
structure PurgeEntry where
  target : Target
  group : Group
deriving DecidableEq, Repr

/-- The purge states (R135). -/
inductive PurgeState | idle | wait | purging | settle
deriving DecidableEq, Repr

/-- The cycle record (chapter 7, state table). -/
structure Cycle where
  target : Target
  start : Nat
  before : Option Nat
  after : Option Nat
deriving DecidableEq, Repr

/-- The last purge of a target (R142); `correction` is 0 for the belt (R194, R204). -/
structure LastPurge where
  before : Option Nat
  after : Option Nat
  removed : Option Nat
  start : Nat
  correction : Nat
deriving DecidableEq, Repr

/-- The Crumb Unit. A reading is being asked for while the weigh timer runs (R140); `air` is the valve or scraper that is open (R141). -/
structure Crm where
  heads : PerLane HeadCrumb
  belt : Nat
  queue : List PurgeEntry
  state : PurgeState
  cycle : Option Cycle
  purge : Timer
  settle : Timer
  weigh : Timer
  air : Option Target
  last : PerLane (Option LastPurge)
  lastBelt : Option LastPurge
deriving DecidableEq, Repr

/-! ### Totals Unit (chapter 8) -/

/-- The nine counts kept for each lane and each slot (R148). -/
structure Counts where
  admitted : Nat
  good : Nat
  rejected : Nat
  challenge : Nat
  escape : Nat
  lost : Nat
  cleared : Nat
  sliced : Nat
  thick : Nat
deriving DecidableEq, Repr

/-- A shift record (R148); its state is the place that holds it (R149). -/
structure Shift where
  seq : Nat
  digit : Nat
  openTime : Nat
  closeTime : Option Nat
  inTable : Nat
  perLane : PerLane Counts
  perSlot : PerSlot Counts
  reasons : Vector Nat 12
  bags : Nat
  clips : Nat
  purges : PerLane Nat
  beltPurges : Nat
  crumb : PerLane Nat
  lossEvents : Nat
  phantoms : Nat
  divertFails : Nat
  caught : Nat
deriving DecidableEq, Repr

/-- The Totals Unit: one place for each shift state (R149). The next shift sequence lives in its nonvolatile cell. -/
structure Tot where
  opened : Option Shift
  closing : Option Shift
  closed : Option Shift
deriving DecidableEq, Repr

/-! ### Profile Store and Clock (chapter 9) -/

/-- A profile (R162). -/
structure Profile where
  code : Nat
  name : List Byte
  t : Nat
  e : Nat
  lmin : Nat
  lmax : Nat
  nmin : Nat
  nmax : Nat
  crumb : Nat
  shelf : Nat
  bagClass : Nat
deriving DecidableEq, Repr

/-- The line settings in the order of section 9.3; durations in ms or s as the manual's tables give them. -/
structure LineSettings where
  windowMs : Nat
  acceptPct : Nat
  rejectPct : Nat
  q : Nat
  f : Nat
  scaleW : Nat
  scaleM : Nat
  crawl : Nat
  holdoverMs : Nat
  slipPct : Nat
  laneWindow : Nat
  dHead : PerLane Nat
  dPocket : PerLane Nat
  dBag : Nat
  dTie : Nat
  dVerify : Nat
  dReject : Nat
  dExit : Nat
  dChute : Nat
  tolerance : Nat
  gateLead : Nat
  readWindow : Nat
  releaseWindow : Nat
  rmax : PerLane Nat
  lineMax : Nat
  configured : Nat
  pulsesPerRev : PerLane Nat
  idleRate : Nat
  spinupS : Nat
  narrowing : Bool
  retrialS : Nat
  trialLoaves : Nat
  trialLimit : Nat
  mergeTravel : Nat
  minGap : Nat
  bypassLimit : Nat
  changeoverMs : Nat
  confirmMs : Nat
  missLimit : Nat
  bagsLow : Nat
  letter : Nat
  dayBoundary : Nat
  clipsLow : Nat
  challengeInterval : Nat
  burstLimit : Nat
  burstWindow : Nat
  reindexMs : Nat
  headPurge : Nat
  headHard : Nat
  beltPurge : Nat
  beltHard : Nat
  skip : Nat
  purgeMs : Nat
  mismatchPct : Nat
  residual : Nat
  clearance : Nat
  rampRate : Nat
  startLimitS : Nat
  linkTimeoutS : Nat
deriving DecidableEq, Repr

/-- The snapshot a store writes (R170). -/
structure Snapshot where
  settings : LineSettings
  assign : PerLane (Option Slot)
  slots : PerSlot (Option Profile)
deriving DecidableEq, Repr

/-- The store state (R170); while WRITING, with the sections whose working content has changed since the snapshot (bit 0 the settings, bits 1 to 16 the slots). -/
inductive StoreState
  | idle
  | writing (snapshot : Snapshot) (changed : BitVec 17)
deriving DecidableEq, Repr

/-- The Profile Store and Clock. -/
structure Pst where
  slots : PerSlot (Option Profile)
  slotUnsaved : PerSlot Bool
  assign : PerLane (Option Slot)
  refs : PerSlot Nat
  settings : LineSettings
  unsaved : Bool
  defaulted : Bool
  store : StoreState
  clock : Nat
  clockValid : Bool
deriving DecidableEq, Repr

/-- A section of the nonvolatile image: its CRC is bad, or it holds its content (R171). -/
inductive Section (α : Type)
  | bad
  | good (content : α)
deriving DecidableEq, Repr

/-- What survives a loss of power: the image (R170), the loss-of-track cell (R22) and the next-shift-sequence cell (R149); a cell that fails its check is none. -/
structure Nonvolatile where
  settings : Section (LineSettings × PerLane (Option Slot))
  slots : PerSlot (Section (Option Profile))
  lossCell : Option Nat
  seqCell : Option Nat
deriving DecidableEq, Repr

/-! ### The whole machine -/

/-- The state of the SB-440: its twelve blocks (PLN keeps nothing), its nonvolatile memory, whether it has power, and the queue of waiting commands. -/
structure State where
  pending : List Instr
  powered : Bool
  lp : Lp
  sru : Sru
  lc : Lc
  trk : Trk
  hd : Hd
  arb : Arb
  bag : Bag
  tie : Tie
  crm : Crm
  tot : Tot
  pst : Pst
  nv : Nonvolatile
deriving DecidableEq, Repr

/-- Why a command could fault: the manual gives every event and request an outcome, so there is no fault. -/
inductive Fault
deriving DecidableEq, Repr

/-- Why a command is refused. -/
inductive Refusal
  /-- Raised by the dispatch for a command that has no meaning in the model yet; safe: the model stops where the part goes on. -/
  | notModelled (mnemonic : String)
deriving DecidableEq, Repr

/-! ### Named updates -/

def State.onLp (s : State) (f : Lp → Lp) : State := { s with lp := f s.lp }
def State.onSru (s : State) (f : Sru → Sru) : State := { s with sru := f s.sru }
def State.onLc (s : State) (f : Lc → Lc) : State := { s with lc := f s.lc }
def State.onTrk (s : State) (f : Trk → Trk) : State := { s with trk := f s.trk }
def State.onHd (s : State) (f : Hd → Hd) : State := { s with hd := f s.hd }
def State.onArb (s : State) (f : Arb → Arb) : State := { s with arb := f s.arb }
def State.onBag (s : State) (f : Bag → Bag) : State := { s with bag := f s.bag }
def State.onTie (s : State) (f : Tie → Tie) : State := { s with tie := f s.tie }
def State.onCrm (s : State) (f : Crm → Crm) : State := { s with crm := f s.crm }
def State.onTot (s : State) (f : Tot → Tot) : State := { s with tot := f s.tot }
def State.onPst (s : State) (f : Pst → Pst) : State := { s with pst := f s.pst }
def State.onNv (s : State) (f : Nonvolatile → Nonvolatile) : State := { s with nv := f s.nv }

/-! ### Power-on values -/

/-- The default of every line setting, from the tables of chapters 1 to 7 and 10; the W and M scales have no
default in the manual and take those of its worked cases (DESIGN CHOICE, log entry 30). -/
def LineSettings.default : LineSettings where
  windowMs := 20
  acceptPct := 5
  rejectPct := 12
  q := 4
  f := 3
  scaleW := 20000
  scaleM := 40000
  crawl := 300
  holdoverMs := 1000
  slipPct := 3
  laneWindow := 6
  dHead := Vector.replicate 4 7000
  dPocket := Vector.replicate 4 14000
  dBag := 2000
  dTie := 4000
  dVerify := 6000
  dReject := 8000
  dExit := 11000
  dChute := 10500
  tolerance := 150
  gateLead := 200
  readWindow := 400
  releaseWindow := 300
  rmax := Vector.replicate 4 40
  lineMax := 6000
  configured := 4
  pulsesPerRev := Vector.replicate 4 100
  idleRate := 6
  spinupS := 3
  narrowing := true
  retrialS := 10
  trialLoaves := 3
  trialLimit := 4
  mergeTravel := 500
  minGap := 400
  bypassLimit := 8
  changeoverMs := 2000
  confirmMs := 300
  missLimit := 3
  bagsLow := 100
  letter := 0x41
  dayBoundary := 300
  clipsLow := 500
  challengeInterval := 500
  burstLimit := 3
  burstWindow := 50
  reindexMs := 3000
  headPurge := 20000
  headHard := 40000
  beltPurge := 10000
  beltHard := 20000
  skip := 0
  purgeMs := 2000
  mismatchPct := 40
  residual := 2000
  clearance := 1000
  rampRate := 4000
  startLimitS := 10
  linkTimeoutS := 10

/-- An unqualified monitor with empty runs (R7). -/
def Monitor.fresh : Monitor := ⟨false, 0, 0, 0⟩

/-- A line monitor as at power-on (R7). -/
def LineMonitor.fresh : LineMonitor := ⟨Monitor.fresh, []⟩

def Lp.powerOn : Lp where
  receiver := .hunt
  hand := none
  waiting := none
  reply := none
  tx := .idle
  rate := .b115200
  flags := 0
  mask := 0
  queue := []
  counters := ⟨0, 0, 0, 0, 0, 0⟩
  attn := false

/-- SRU's power-on values (R25) over a loaded monitor window and increments. -/
def Sru.powerOn (windowMs incW incM : Nat) : Sru where
  w := LineMonitor.fresh
  m := LineMonitor.fresh
  windowMs := windowMs
  windowLeft := windowMs
  settings := ⟨.auto, .w, true, true⟩
  selected := .pacer
  state := .idle
  pacerSpeed := 0
  frozen := 0
  holdover := none
  slipActive := false
  pos := 0
  pacerCarry := 0
  incW := incW
  incM := incM
  estimate := 0

/-- LC's power-on values (R186); the ceiling is the line maximum speed (R66). -/
def Lc.powerOn (lineMax : Nat) (estop : Bool) : Lc where
  state := .ready
  origin := .ready
  cause := .none
  setSpeed := 0
  ceiling := lineMax
  target := 0
  demand := 0
  rampCarry := 0
  held := none
  startLimit := none
  silence := none
  estop := estop

/-- TRK's power-on values (R53). At READY conditions 1, 2, 3, 4 and 8 of R33 fail for every lane. -/
def Trk.powerOn : Trk where
  queues := Vector.replicate 4 []
  post := []
  closedBy := Vector.replicate 4 0x8F
  reserveHeld := false
  nextLoaf := 1
  nextSeq := 1
  rejectGate := .pass

def Head.powerOn : Head := ⟨.stopped, Monitor.fresh, 0, none⟩

def LaneCtl.powerOn (target : Bool) : LaneCtl := ⟨.idle, target, 0, [], false, 0, none, none⟩

/-- HD's power-on values (R89): every configured lane in the target set. -/
def Hd.powerOn (configured : Nat) : Hd where
  heads := Vector.replicate 4 Head.powerOn
  lanes := Vector.ofFn fun l : Fin 4 => LaneCtl.powerOn (decide (l.val < configured))

/-- ARB's power-on values (R101). -/
def Arb.powerOn : Arb where
  withhold := ⟨false, true, true, false, true⟩
  bagClass := 1
  rotation := 3
  bypass := Vector.replicate 4 0
  flight := none
  spacing := none
  changeover := .none
  pushers := Vector.replicate 4 false

/-- BAG's power-on values (R109). -/
def Bag.powerOn : Bag := ⟨0, .empty, 0, none, none, false⟩

/-- TIE's power-on values (R129). -/
def Tie.powerOn : Tie where
  supply := 0
  state := .empty
  owed := false
  reindex := none
  challengeCount := 0
  openReads := []
  nextTrigger := 0
  burst := []
  counters := ⟨0, 0, 0, 0, 0⟩
  capture := none
  blind := false
  tyerOut := .none
  printed := none
  readerTrigger := none

/-- CRM's power-on values (R147). -/
def Crm.powerOn : Crm where
  heads := Vector.replicate 4 ⟨0, 64, 0⟩
  belt := 0
  queue := []
  state := .idle
  cycle := none
  purge := none
  settle := none
  weigh := none
  air := none
  last := Vector.replicate 4 none
  lastBelt := none

/-- TOT's power-on values (R161). -/
def Tot.powerOn : Tot := ⟨none, none, none⟩

/-- A nonvolatile memory that has never been written: every section and cell fails its check (R171, R22, R149). -/
def Nonvolatile.blank : Nonvolatile := ⟨.bad, Vector.replicate 16 .bad, none, none⟩

/-- PST as a load that finds every section bad leaves it (R171, R174). -/
def Pst.unloaded : Pst where
  slots := Vector.replicate 16 none
  slotUnsaved := Vector.replicate 16 true
  assign := Vector.replicate 4 none
  refs := Vector.replicate 16 0
  settings := LineSettings.default
  unsaved := true
  defaulted := true
  store := .idle
  clock := 0
  clockValid := false

/-- The part without power: only its nonvolatile memory means anything; every other field stands at a power-on value until POWER_ON. -/
def State.off (nv : Nonvolatile) (pending : List Instr) : State where
  pending := pending
  powered := false
  lp := Lp.powerOn
  sru := Sru.powerOn LineSettings.default.windowMs 32768 16384
  lc := Lc.powerOn LineSettings.default.lineMax false
  trk := Trk.powerOn
  hd := Hd.powerOn 4
  arb := Arb.powerOn
  bag := Bag.powerOn
  tie := Tie.powerOn
  crm := Crm.powerOn
  tot := Tot.powerOn
  pst := Pst.unloaded
  nv := nv

/-- The machine right after its first power-on, with a nonvolatile image never written (log entry 4): the
defaults are in force, STORE_FAULT is on its way to the host and BAGS_LOW and CLIPS_LOW wait (R171, R109, R129, R192, R199). -/
def State.reset : State :=
  { State.off Nonvolatile.blank [] with
    powered := true
    lp := { Lp.powerOn with
      tx := .sendingNotice
        [0x7E, 0x0A, 0x00, 0xC0, 0x00, 0x17, 0x00, 0x00, 0x00, 0x00, 0xFF, 0xFF, 0x01, 0x29, 0x84]
      flags := 0x403000
      queue := [⟨.bagsLow, 0, [0x00, 0x00, 0x64, 0x00]⟩, ⟨.clipsLow, 0, [0x00, 0x00, 0xF4, 0x01]⟩]
      attn := true } }

end Sys2Proof.Machine
end

