-- ==== Sys2Proof/Decode.lean ====
section
/-! DEFINITION. From words and requests to commands. No row of the opcode table gives bits, so no word spells a command; a request in hand is the command of its kind (section 11.5). -/

namespace Sys2Proof

/-- The command that a word spells by the opcode table's bits: none, since no row of the table has bits. -/
def decodeTableWord (_nbits _w : Nat) : Option Instr := none

/-- The command that a request in hand stands for: the row of its kind in the catalogue of section 11.5, or UNKNOWN_KIND_REQUEST for any other kind (R191; log entry 1). -/
def commandOf (r : Machine.Req) : Instr :=
  match r.kind.toNat with
  | 0x01 => .identify r.tag r.payload
  | 0x02 => .readStatus r.tag r.payload
  | 0x03 => .setLink r.tag r.payload
  | 0x04 => .setNoticeMask r.tag r.payload
  | 0x05 => .clear r.tag r.payload
  | 0x10 => .setClock r.tag r.payload
  | 0x11 => .readClock r.tag r.payload
  | 0x12 => .putProfile r.tag r.payload
  | 0x13 => .getProfile r.tag r.payload
  | 0x14 => .setLine r.tag r.payload
  | 0x15 => .getLine r.tag r.payload
  | 0x16 => .store r.tag r.payload
  | 0x20 => .start r.tag r.payload
  | 0x21 => .stop r.tag r.payload
  | 0x22 => .halt r.tag r.payload
  | 0x23 => .clearTrack r.tag r.payload
  | 0x24 => .restart r.tag r.payload
  | 0x25 => .setSpeed r.tag r.payload
  | 0x26 => .setReference r.tag r.payload
  | 0x30 => .setLanes r.tag r.payload
  | 0x31 => .setLaneProfile r.tag r.payload
  | 0x32 => .clearLane r.tag r.payload
  | 0x40 => .loadBags r.tag r.payload
  | 0x41 => .loadClips r.tag r.payload
  | 0x42 => .setChallenge r.tag r.payload
  | 0x43 => .readCodecheck r.tag r.payload
  | 0x44 => .resetCodecheck r.tag r.payload
  | 0x50 => .purge r.tag r.payload
  | 0x51 => .readCrumb r.tag r.payload
  | 0x60 => .openShift r.tag r.payload
  | 0x61 => .closeShift r.tag r.payload
  | 0x62 => .readTotals r.tag r.payload
  | 0x70 => .readTrack r.tag r.payload
  | 0x71 => .rejectLoaf r.tag r.payload
  | _ => .unknownKindRequest r.kind r.tag r.payload

end Sys2Proof
end

