-- ==== Sys2Proof/Machine/Bytes.lean ====
section
/-! DEFINITION. Bytes on the link: little-endian fields, the frame and its CRC (R187), saturating counts, and the codes of states and causes (R194, R201). -/

namespace Sys2Proof.Machine

/-- `n` little-endian bytes of `v`; higher bytes of `v` are not sent (00_scope, Numbers in layouts). -/
def leBytes : Nat → Nat → List Byte
  | 0, _ => []
  | n + 1, v => BitVec.ofNat 8 v :: leBytes n (v / 256)

/-- The number that little-endian bytes carry. -/
def leNat : List Byte → Nat
  | [] => 0
  | b :: bs => b.toNat + 256 * leNat bs

/-- One flag byte. -/
def flagByte (b : Bool) : Byte := if b then 1 else 0

/-- One byte of the CRC-16 of R187: polynomial 0x1021, most significant bit first. -/
def crcBits : Nat → Nat → Nat
  | 0, c => c
  | n + 1, c => crcBits n (if c < 0x8000 then c * 2 else (c * 2 - 0x10000) ^^^ 0x1021)

/-- The CRC-16 of R187 over some bytes, from a starting value. -/
def crcFrom : Nat → List Byte → Nat
  | c, [] => c
  | c, b :: bs => crcFrom (crcBits 8 (c ^^^ (b.toNat * 256))) bs

/-- The CRC-16 of R187: initial value 0xFFFF, no reflection, no final inversion. -/
def crc16 (bs : List Byte) : Nat := crcFrom 0xFFFF bs

/-- A frame of R187 and R200: start byte, length, kind, tag, payload, CRC high byte first. -/
def frameBytes (kind tag : Byte) (payload : List Byte) : List Byte :=
  let body := leBytes 2 (payload.length + 2) ++ kind :: tag :: payload
  let c := crc16 body
  0x7E :: body ++ [BitVec.ofNat 8 (c / 256), BitVec.ofNat 8 c]

/-- Adding `n` to a count that saturates at `top` (00_scope, Arithmetic). -/
def satAdd (top v n : Nat) : Nat := min top (v + n)

/-- Adding one to a 32-bit count. -/
def bump32 (v : Nat) : Nat := satAdd Config.count32 v 1

/-- The whole track units of a position. -/
def wholeTu (p : Nat) : Nat := p / Config.tu

/-- A line position in five bytes of whole track units (R194); one that needs more bits is reported by a free value (log entry 14). -/
def posBytes (p : Nat) : List Byte :=
  leBytes 5 (if wholeTu p < 2 ^ 40 then wholeTu p else Config.overlongPosition (wholeTu p))

/-- A position that may be absent: five bytes of 0xFF then (R204). -/
def posOrAbsent : Option Nat → List Byte
  | some p => posBytes p
  | none => List.replicate 5 0xFF

/-- A mass or reading in four bytes, 0xFFFFFFFF when absent (R194). -/
def massBytes : Option Nat → List Byte
  | some v => leBytes 4 v
  | none => List.replicate 4 0xFF

/-- The time left on a timer in 100 ms units, 0 while it is stopped (R198, R204; log entry 15). -/
def tenths : Timer → Nat
  | none => 0
  | some ms => if ms % 100 = 0 then ms / 100 else Config.tenthsOf ms

/-! ### Codes: the order of listing in the owning chapter, counted from 1 (R194) -/

def Kind.code : Kind → Nat
  | .lineState => 1 | .refState => 2 | .slip => 3 | .laneChange => 4 | .bladeFault => 5
  | .tableReserve => 6 | .trackOverrun => 7 | .lostLoaf => 8 | .phantomLoaf => 9 | .escape => 10
  | .divertFail => 11 | .baggerDown => 12 | .bagsLow => 13 | .clipsLow => 14 | .tyerReindex => 15
  | .codeMismatch => 16 | .verifierBlind => 17 | .purgeDone => 18 | .crumbForced => 19
  | .crumbModel => 20 | .shiftClosed => 21 | .storeDone => 22 | .storeFault => 23 | .linkSilent => 24

def LineState.code : LineState → Nat
  | .ready => 1 | .starting => 2 | .running => 3 | .draining => 4 | .halted => 5

/-- The start origin is a line state and takes its code (DESIGN CHOICE, log entry 17). -/
def Origin.code : Origin → Nat
  | .ready => 1 | .halted => 5

/-- NONE is the first listed cause and takes code 1 (DESIGN CHOICE, log entry 17). -/
def StopCause.code : StopCause → Nat
  | .none => 1 | .stop => 2 | .halt => 3 | .estop => 4 | .positionLimit => 5 | .startFail => 6
  | .laneFault => 7 | .noLanes => 8 | .verifierBlind => 9 | .shiftClose => 10 | .linkSilent => 11
  | .restart => 12

def RefState.code : RefState → Nat
  | .idle => 1 | .acquire => 2 | .track => 3 | .holdover => 4 | .crawl => 5

def Source.code : Source → Nat
  | .encoder .w => 1 | .encoder .m => 2 | .pacer => 3

def LaneState.code : LaneState → Nat
  | .idle => 1 | .running => 2 | .trial => 3 | .down => 4 | .parked => 5

def BladeState.code : BladeState → Nat
  | .stopped => 1 | .spinup => 2 | .running => 3 | .parked => 4 | .fault => 5

def LaneFault.code : LaneFault → Nat
  | .eyeBlocked => 1 | .blade => 2 | .pocketPhantom => 3 | .pocketLost => 4 | .trackOverrun => 5
  | .crumbOverflow => 6

def BaggerState.code : BaggerState → Nat
  | .ready => 1 | .cycle => 2 | .down => 3 | .empty => 4

def TyerState.code : TyerState → Nat
  | .ready => 1 | .reindexPending => 2 | .reindex => 3 | .empty => 4

def PurgeState.code : PurgeState → Nat
  | .idle => 1 | .wait => 2 | .purging => 3 | .settle => 4

def Group.code : Group → Nat
  | .forced => 1 | .soft => 2

def RecState.code : RecState → Nat
  | .measuring => 1 | .planned => 2 | .slicing => 3 | .queued => 4 | .merged => 5 | .bagged => 6
  | .tied => 7 | .checked => 8 | .decided => 9

def Reason.code : Reason → Nat
  | .short => 1 | .long => 2 | .tailgate => 3 | .overspeed => 4 | .suspect => 5 | .blade => 6
  | .bagMiss => 7 | .noClip => 8 | .mismatch => 9 | .noRead => 10 | .operator => 11 | .challenge => 12

def LoafClass.code : LoafClass → Nat
  | .normal => 1 | .short => 2 | .long => 3 | .tailgate => 4

def BagResult.code : BagResult → Nat
  | .bagged => 1 | .baggedOnRetry => 2 | .notBagged => 3

def ReadResult.code : ReadResult → Nat
  | .match => 1 | .mismatch _ => 2 | .noClip => 3 | .noRead => 4

def Decision.code : Decision → Nat
  | .pass => 1 | .divert => 2

def LinkRate.code : LinkRate → Nat
  | .b115200 => 0 | .b230400 => 1 | .b460800 => 2

/-- Heads are 0 to 3 and the merge belt is 4 (R194, section 11.5). -/
def targetCode : Target → Nat
  | .head l => l.val | .belt => 4

/-- One byte of a small number. -/
def byteOf (n : Nat) : Byte := BitVec.ofNat 8 n

/-- The code of a value that may be absent, 0 for none (R204). -/
def codeOrNone {α : Type} (code : α → Nat) : Option α → Nat
  | some a => code a
  | none => 0

/-- A set of lanes, bit n for lane n. -/
def laneSet (p : Lane → Bool) : Nat :=
  lanes.foldl (fun acc l => acc + if p l then 2 ^ l.val else 0) 0

end Sys2Proof.Machine
end

