-- ==== Sys2Proof/Machine/Flags.lean ====
section
/-! DEFINITION. The Link Port's conditions: latched flags, the notice queue, ATTN, the transmitter and the replies (R190 to R196). -/

namespace Sys2Proof.Machine

/-- Bit n - 1 stands for kind n (R196). -/
def Kind.bit (k : Kind) : BitVec 24 := 1#24 <<< (k.code - 1)

/-- Whether a kind stands in a kind set. -/
def kindIn (set : BitVec 24) (k : Kind) : Bool := set.getLsbD (k.code - 1)

/-- Whether the flag of a kind is latched in LP (R193). -/
def State.flag (s : State) (k : Kind) : Bool := kindIn s.lp.flags k

/-- A notice frame (R194): kind 0xC0, tag 0, the kind code, the raise time, the snapshot. -/
def noticeFrame (n : Notice) : List Byte :=
  frameBytes 0xC0 0 (byteOf n.kind.code :: leBytes 4 n.time ++ n.snapshot)

/-- ATTN stands while the notice queue holds a notice (R195). -/
def Lp.withAttn (lp : Lp) : Lp := { lp with attn := !lp.queue.isEmpty }

/-- What an idle transmitter begins next (R192): the ready reply, else the front notice. At the first byte of a reply the waiting request becomes the request in hand (R190); a notice leaves the queue at its first byte (R193). -/
def Lp.beginNext (lp : Lp) : Lp :=
  match lp.tx with
  | .idle =>
    match lp.reply with
    | some r => { lp with tx := .sendingReply r, reply := none, hand := lp.waiting, waiting := none }
    | none =>
      match lp.queue with
      | n :: rest => Lp.withAttn { lp with tx := .sendingNotice (noticeFrame n), queue := rest }
      | [] => lp
  | _ => lp

/-- A raising (R193): the flag is set; unless the kind is masked or already queued, a notice is appended. -/
def Lp.raise (lp : Lp) (k : Kind) (time : Nat) (snapshot : List Byte) : Lp :=
  let lp1 := { lp with flags := lp.flags ||| k.bit }
  if kindIn lp.mask k || lp.queue.any (fun n => n.kind == k) then lp1
  else Lp.beginNext (Lp.withAttn { lp1 with queue := lp.queue ++ [⟨k, time, snapshot⟩] })

/-- A block raises a kind; the raise time is the calendar clock (R193). -/
def raise (k : Kind) (snapshot : List Byte) (s : State) : State :=
  s.onLp fun lp => lp.raise k s.pst.clock snapshot

/-- A reply becomes ready (R190, R192). -/
def replyReady (r : Reply) (s : State) : State :=
  s.onLp fun lp => Lp.beginNext { lp with reply := some r }

/-! ### Reply statuses (R200) -/

inductive Status
  | ok | clamped | badLength | unknownKind | badField | wrongState | busy | noShift | noClock
  | tooLate | notFound
deriving DecidableEq, Repr

def Status.code : Status → Nat
  | .ok => 0 | .clamped => 1 | .badLength => 2 | .unknownKind => 3 | .badField => 4
  | .wrongState => 5 | .busy => 6 | .noShift => 7 | .noClock => 8 | .tooLate => 9 | .notFound => 10

/-- OK, CLAMPED and TOO_LATE are followed by the fields of the catalogue, any other status by nothing (R191). -/
def Status.carriesFields : Status → Bool
  | .ok => true | .clamped => true | .tooLate => true | _ => false

/-- What an owning rule answers: the state after it, the status, the reply's fields, and a link rate to take at the reply's end. -/
structure Answer where
  state : State
  status : Status
  fields : List Byte
  newRate : Option LinkRate

/-- An answer OK with fields. -/
def Answer.okay (s : State) (fields : List Byte) : Answer := ⟨s, .ok, fields, none⟩

/-- A refusal leaves the state as it was (R191). -/
def Answer.refuse (s : State) (st : Status) : Answer := ⟨s, st, [], none⟩

/-- The reply frame of R191: the request's kind plus 0x80 (0xFF for a kind of 0x80 or above), its tag, the status, the fields. -/
def replyFrame (kind tag : Byte) (st : Status) (fields : List Byte) : List Byte :=
  frameBytes (if kind.toNat < 0x80 then kind + 0x80 else 0xFF) tag
    (byteOf st.code :: if st.carriesFields then fields else [])

/-- A request is taken up when it is the request in hand and its reply is not yet ready, or when the hand is empty, and it then becomes the request in hand (R190; log entry 1). -/
def takeUp (r : Req) (s : State) : Option State :=
  match s.lp.hand with
  | none => some (s.onLp fun lp => { lp with hand := some r })
  | some h => if h = r ∧ s.lp.reply = none then some s else none

/-- Without power nothing happens (R170, log entry 5). -/
def whenPowered (s : State) (f : State → State) : Host.Outcome State Fault Refusal :=
  .next (if s.powered then f s else s)

/-- The answer of a request with its reply made ready. -/
def giveReply (kind tag : Byte) (a : Answer) : State :=
  replyReady ⟨replyFrame kind tag a.status a.fields, a.newRate⟩ a.state

/-- A catalogue request: the length check of R191, then the owning rule, then the reply. -/
def serve (kind : Byte) (len : Nat) (owner : List Byte → State → Answer)
    (tag : Byte) (payload : List Byte) (s : State) : Host.Outcome State Fault Refusal :=
  whenPowered s fun s =>
    match takeUp ⟨kind, tag, payload⟩ s with
    | none => s
    | some s1 =>
      giveReply kind tag
        (if payload.length = len then owner payload s1 else Answer.refuse s1 .badLength)

end Sys2Proof.Machine
end

