-- ==== Sys2Proof/Machine/Ops.lean ====
section
/-! DEFINITION. The named operations that the blocks share: lanes and heads, the tracking table and its records, the totals' counting, and the timers. -/

namespace Sys2Proof.Machine

/-! ### Per-lane and per-slot stores -/

/-- The family with the value of one index replaced. -/
def putAt {α : Type} {n : Nat} (v : Vector α n) (i : Fin n) (x : α) : Vector α n :=
  v.set i.val x i.isLt

/-- The family with the value of one index changed. -/
def modAt {α : Type} {n : Nat} (v : Vector α n) (i : Fin n) (f : α → α) : Vector α n :=
  putAt v i (f v[i])

def State.head (s : State) (l : Lane) : Head := s.hd.heads[l]
def State.lane (s : State) (l : Lane) : LaneCtl := s.hd.lanes[l]

/-- HD changes one head. -/
def onHead (l : Lane) (f : Head → Head) (s : State) : State :=
  s.onHd fun hd => { hd with heads := modAt hd.heads l f }

/-- HD changes one lane. -/
def onLane (l : Lane) (f : LaneCtl → LaneCtl) (s : State) : State :=
  s.onHd fun hd => { hd with lanes := modAt hd.lanes l f }

/-- Apply an operation for each lane 0 to 3 in turn: the order in which an event that reaches several lanes raises LANE_CHANGE for them (DESIGN CHOICE, log entry 43). -/
def forLanes (f : Lane → State → State) (s : State) : State :=
  lanes.foldl (fun s l => f l s) s

/-! ### Settings -/

def State.set (s : State) : LineSettings := s.pst.settings

/-- The lanes numbered below the configured count are configured (R69). -/
def State.isConfigured (s : State) (l : Lane) : Bool := decide (l.val < s.set.configured)

/-- The line position (R8). -/
def State.pos (s : State) : Nat := s.sru.pos

/-- A distance of `d` track units in position units. -/
def tuPos (d : Nat) : Nat := d * Config.tu

/-- The loss-of-track count, read from its cell; a cell that fails its check reads 0 (R22). -/
def State.lossCount (s : State) : Nat := s.nv.lossCell.getD 0

/-- The next shift sequence, read from its cell; a cell that fails its check reads 1 (R149). -/
def State.nextShiftSeq (s : State) : Nat := s.nv.seqCell.getD 1

/-- A profile of zeros: what a slot that holds no profile reads as. No record names such a slot (R163; log entry 25). -/
def Profile.zero : Profile := ⟨0, [], 0, 0, 0, 0, 0, 0, 0, 0, 0⟩

/-- The profile in a slot. -/
def State.profile (s : State) (slot : Slot) : Profile := (s.pst.slots[slot]).getD Profile.zero

/-! ### The tracking table (R26, R31, R32) -/

def Trk.records (t : Trk) : List Rec :=
  t.queues[0] ++ t.queues[1] ++ t.queues[2] ++ t.queues[3] ++ t.post

/-- Every record of the table. -/
def State.records (s : State) : List Rec := s.trk.records

/-- The number of records the table holds. -/
def State.tableCount (s : State) : Nat := s.records.length

/-- The number of free records (R26). -/
def State.free (s : State) : Nat := Config.tableSize - s.tableCount

def State.queue (s : State) (l : Lane) : List Rec := s.trk.queues[l]

/-- The record with a loaf number, where the table holds it (R30). -/
def State.find (s : State) (loaf : Nat) : Option Rec := s.records.find? fun r => r.loaf == loaf

/-- Change a lane's queue. -/
def onQueue (l : Lane) (f : List Rec → List Rec) (s : State) : State :=
  s.onTrk fun t => { t with queues := modAt t.queues l f }

/-- Change the post-merge queue. -/
def onPost (f : List Rec → List Rec) (s : State) : State :=
  s.onTrk fun t => { t with post := f t.post }

/-- Apply a function to the records that satisfy a test, in a list. -/
def mapIf (p : Rec → Bool) (f : Rec → Rec) (rs : List Rec) : List Rec :=
  rs.map fun r => if p r then f r else r

/-- Apply a function to the records of the whole table that satisfy a test. -/
def mapRecords (p : Rec → Bool) (f : Rec → Rec) (s : State) : State :=
  s.onTrk fun t => { t with queues := t.queues.map (mapIf p f), post := mapIf p f t.post }

/-- A write to the record with a loaf number; it is dropped when the table holds none (R30). -/
def onRec (loaf : Nat) (f : Rec → Rec) (s : State) : State := mapRecords (fun r => r.loaf == loaf) f s

/-- Take the record with a loaf number out of the queue that holds it (R49). -/
def removeRec (loaf : Nat) (s : State) : State :=
  s.onTrk fun t =>
    { t with
      queues := t.queues.map (List.filter fun r => r.loaf != loaf)
      post := t.post.filter fun r => r.loaf != loaf }

/-- Adding a reason (R28): a reason the list already holds leaves it; for a DECIDED record a new one is a late reason (R45). -/
def Rec.addReason (r : Rec) (x : Reason) : Rec :=
  if x ∈ r.reasons then r
  else { r with reasons := r.reasons ++ [x], late := r.late || decide (r.state = .decided) }

/-- A suspect marking (R23): every record not DECIDED. -/
def markSuspect (s : State) : State :=
  mapRecords (fun r => r.state != .decided) (fun r => { r with suspect := true }) s

/-- A head is busy while its lane has a record in MEASURING, PLANNED or SLICING (R76). -/
def Rec.busies (r : Rec) : Bool :=
  match r.state with
  | .measuring => true
  | .planned => true
  | .slicing => true
  | _ => false

def State.headBusy (s : State) (l : Lane) : Bool := (s.queue l).any Rec.busies

/-- Whether the grant in flight is of a lane's record. -/
def State.flightOf (s : State) (l : Lane) : Bool :=
  match s.arb.flight with
  | some g => decide (g.lane = l)
  | none => false

/-- A lane's pre-merge count (R31). -/
def State.preMerge (s : State) (l : Lane) : Nat :=
  (s.queue l).length + if s.flightOf l then 1 else 0

/-- A lane is admitting while RUNNING, or TRIAL with trial admissions remaining (R34). -/
def LaneCtl.admitting (c : LaneCtl) : Bool :=
  match c.state with
  | .running => true
  | .trial => decide (0 < c.trialLeft)
  | _ => false

/-- The reserve: the number of lanes admitting (R34). -/
def State.reserve (s : State) : Nat := (lanes.filter fun l => (s.lane l).admitting).length

/-- Whether any record of the table is MERGED (R96). -/
def State.anyMerged (s : State) : Bool := s.records.any fun r => r.state == .merged

/-- Whether any record of the table is MERGED or BAGGED (R126). -/
def State.anyMergedOrBagged (s : State) : Bool :=
  s.records.any fun r => r.state == .merged || r.state == .bagged

/-! ### Totals (R155, R156) -/

/-- An event of the line goes to the OPEN shift, else to the CLOSING shift, else to none (R156). -/
def lineEvent (f : Shift → Shift) (s : State) : State :=
  s.onTot fun t =>
    match t.opened with
    | some sh => { t with opened := some (f sh) }
    | none => { t with closing := t.closing.map f }

/-- A phantom is counted (R156). -/
def countPhantom (s : State) : State :=
  lineEvent (fun sh => { sh with phantoms := bump32 sh.phantoms }) s

def Counts.zero : Counts := ⟨0, 0, 0, 0, 0, 0, 0, 0, 0⟩

/-- The dispositions (R49). -/
inductive Disposition | good | rejected | challenge | escape | lost | cleared
deriving DecidableEq, Repr

/-- One retirement added to nine counts (R155). -/
def Counts.retire (c : Counts) (d : Disposition) (sliced thick : Bool) : Counts :=
  let c := match d with
    | .good => { c with good := bump32 c.good }
    | .rejected => { c with rejected := bump32 c.rejected }
    | .challenge => { c with challenge := bump32 c.challenge }
    | .escape => { c with escape := bump32 c.escape }
    | .lost => { c with lost := bump32 c.lost }
    | .cleared => { c with cleared := bump32 c.cleared }
  let c := if sliced then { c with sliced := bump32 c.sliced } else c
  if sliced && thick then { c with thick := bump32 c.thick } else c

/-- The place of a reason in the twelve reason counts. -/
def Reason.index : Reason → Fin 12
  | .short => 0 | .long => 1 | .tailgate => 2 | .overspeed => 3 | .suspect => 4 | .blade => 5
  | .bagMiss => 6 | .noClip => 7 | .mismatch => 8 | .noRead => 9 | .operator => 10 | .challenge => 11

/-- A record's retirement counted in the shift of its tag (R155). -/
def Shift.retire (sh : Shift) (r : Rec) (d : Disposition) : Shift :=
  let sliced := decide (0 < r.cutsDone)
  let thick := match r.plan with
    | some p => p.thick
    | none => false
  let count := fun c : Counts => c.retire d sliced thick
  { sh with
    inTable := sh.inTable - 1
    perLane := modAt sh.perLane r.lane count
    perSlot := modAt sh.perSlot r.slot count
    reasons := match d, r.reasons with
      | .rejected, x :: _ => modAt sh.reasons x.index bump32
      | _, _ => sh.reasons }

/-- An admission counted in the OPEN shift (R154). -/
def Shift.countAdmission (sh : Shift) (l : Lane) (slot : Slot) : Shift :=
  let count := fun c : Counts => { c with admitted := bump32 c.admitted }
  { sh with
    inTable := sh.inTable + 1
    perLane := modAt sh.perLane l count
    perSlot := modAt sh.perSlot slot count }

/-- Whether a place holds the shift with a sequence. -/
def holdsSeq (place : Option Shift) (seq : Nat) : Bool :=
  match place with
  | some sh => sh.seq == seq
  | none => false

/-- A change to the OPEN or CLOSING shift whose sequence is a tag (R155). -/
def onTagged (tag : Nat) (f : Shift → Shift) (t : Tot) : Tot :=
  if holdsSeq t.opened tag then { t with opened := t.opened.map f }
  else if holdsSeq t.closing tag then { t with closing := t.closing.map f }
  else t

/-- A CLOSING shift whose in-table count is 0 becomes CLOSED (R153). -/
def Tot.settle (t : Tot) : Tot :=
  match t.closing with
  | some sh => if sh.inTable = 0 then { t with closing := none, closed := some sh } else t
  | none => t

/-- The sum of a count over the lanes (R148). -/
def Shift.total (sh : Shift) (f : Counts → Nat) : Nat := (lanes.map fun l => f sh.perLane[l]).sum

/-- The snapshot of SHIFT_CLOSED (R194); the sums of 32-bit counts are sent as 32-bit counts, saturating (R148). -/
def shiftSnapshot (sh : Shift) : List Byte :=
  leBytes 2 sh.seq ++ byteOf sh.digit :: leBytes 4 sh.openTime ++ massBytes sh.closeTime ++
    (List.map (fun f => leBytes 4 (min Config.count32 (sh.total f)))
      [Counts.admitted, Counts.good, Counts.rejected, Counts.challenge, Counts.escape, Counts.lost,
        Counts.cleared]).flatten

/-- SHIFT_CLOSED is raised when the CLOSING place was emptied into the snapshot since `before` (R153). -/
def raiseIfClosed (before : Tot) (s : State) : State :=
  match before.closing, s.tot.closing, s.tot.closed with
  | some _, none, some sh => raise .shiftClosed (shiftSnapshot sh) s
  | _, _, _ => s

/-! ### Reads, trials and retirement -/

/-- A retiring record takes its entry out of the open reads (R118). -/
def dropRead (loaf : Nat) (s : State) : State :=
  s.onTie fun t => { t with openReads := t.openReads.filter fun o => o.loaf != loaf }

/-- PST lowers the reference count of the record's slot (R163). -/
def dropRef (slot : Slot) (s : State) : State :=
  s.onPst fun p => { p with refs := modAt p.refs slot (· - 1) }

/-- A grant in flight ends with its record (R51), its pusher returning to rest (R97). -/
def endFlightOf (loaf : Nat) (s : State) : State :=
  match s.arb.flight with
  | some g =>
    if g.loaf = loaf then
      s.onArb fun a => { a with flight := none, pushers := putAt a.pushers g.lane false }
    else s
  | none => s

/-- What every retirement does, but for raising its conditions (R49, R155, R163, R118): the record leaves its queue, is counted in the shift of its tag, and frees its place. -/
def retireQuiet (r : Rec) (d : Disposition) (s : State) : State :=
  dropRef r.slot (dropRead r.loaf (endFlightOf r.loaf
    ((removeRec r.loaf s).onTot fun t => (onTagged r.tag (·.retire r d) t).settle)))

/-- A retirement, with the SHIFT_CLOSED of a shift that it closes (R153). -/
def retireRec (r : Rec) (d : Disposition) (s : State) : State :=
  raiseIfClosed s.tot (retireQuiet r d s)

/-- The records of the table in the order in which CLEAR_TRACK and a restart retire them (R51): the post-merge queue, then lanes 0 to 3, each from head to tail. -/
def State.clearOrder (s : State) : List Rec :=
  s.trk.post ++ s.trk.queues[0] ++ s.trk.queues[1] ++ s.trk.queues[2] ++ s.trk.queues[3]

/-! ### Time -/

/-- One millisecond of a running timer. -/
def tickTimer (t : Timer) : Timer := t.map (· - 1)

end Sys2Proof.Machine
end

