-- ==== Sys2Proof/Machine/Operands.lean ====
section
/-! DEFINITION. The operands of requests and the layouts of replies: the settings set, the profile, the reported loaf record, the totals block (R200 to R204). -/

namespace Sys2Proof.Machine

/-! ### The settings set of SET_LINE and GET_LINE (section 11.5) -/

/-- One field of the settings set: its width in bytes and the range of its carried value. -/
structure Field where
  width : Nat
  lo : Nat
  hi : Nat

/-- The same field for lanes 0 to 3 in turn. -/
def fieldPerLane (f : Field) : List Field := [f, f, f, f]

/-- The 71 fields of the settings set, in the order of section 9.3, with the ranges of the tables of each chapter; a
duration with a step is carried as a count of its steps. The lower end of reject%, and of a hard limit, that names
another setting is a condition between settings (R168). -/
def settingsFields : List Field :=
  [⟨2, 1, 10⟩, ⟨2, 1, 25⟩, ⟨2, 1, 50⟩, ⟨2, 0, 15⟩, ⟨2, 0, 15⟩, ⟨4, 1000, 100000⟩, ⟨4, 1000, 100000⟩,
    ⟨2, 100, 1000⟩, ⟨2, 0, 50⟩, ⟨2, 1, 20⟩] ++
  ⟨2, 1, 12⟩ :: fieldPerLane ⟨2, 0, 60000⟩ ++ fieldPerLane ⟨2, 0, 60000⟩ ++
  [⟨2, 0, 60000⟩, ⟨2, 0, 60000⟩, ⟨2, 0, 60000⟩, ⟨2, 0, 60000⟩, ⟨2, 0, 60000⟩, ⟨2, 0, 60000⟩,
    ⟨2, 10, 500⟩, ⟨2, 0, 2000⟩, ⟨2, 50, 1000⟩, ⟨2, 50, 1000⟩] ++
  fieldPerLane ⟨2, 10, 60⟩ ++ [⟨2, 1000, 8000⟩] ++
  ⟨2, 1, 4⟩ :: fieldPerLane ⟨2, 16, 1024⟩ ++
  [⟨2, 2, 20⟩, ⟨2, 1, 10⟩, ⟨2, 0, 1⟩, ⟨2, 2, 60⟩, ⟨2, 1, 8⟩, ⟨2, 0, 15⟩] ++
  [⟨2, 0, 2000⟩, ⟨2, 100, 2000⟩, ⟨2, 1, 32⟩, ⟨2, 5, 100⟩, ⟨2, 100, 1000⟩, ⟨2, 1, 5⟩, ⟨2, 0, 999⟩] ++
  [⟨2, 0x41, 0x5A⟩, ⟨2, 0, 1439⟩, ⟨2, 0, 1999⟩, ⟨2, 0, 5000⟩, ⟨2, 1, 15⟩, ⟨2, 8, 255⟩, ⟨2, 10, 100⟩] ++
  [⟨4, 1000, 100000⟩, ⟨4, 1000, 150000⟩, ⟨4, 1000, 100000⟩, ⟨4, 1000, 150000⟩, ⟨2, 0, 5000⟩,
    ⟨2, 5, 100⟩, ⟨2, 10, 90⟩, ⟨2, 100, 20000⟩, ⟨2, 0, 10000⟩] ++
  [⟨2, 500, 20000⟩, ⟨2, 2, 30⟩, ⟨2, 0, 60⟩]

/-- The values that consecutive little-endian fields carry. -/
def readFields : List Field → List Byte → List Nat
  | [], _ => []
  | f :: fs, bs => leNat (bs.take f.width) :: readFields fs (bs.drop f.width)

/-- The bytes of consecutive little-endian fields. -/
def writeFields : List Field → List Nat → List Byte
  | f :: fs, v :: vs => leBytes f.width v ++ writeFields fs vs
  | _, _ => []

/-- Every carried value lies in its field's range. -/
def inRanges : List Field → List Nat → Bool
  | [], [] => true
  | f :: fs, v :: vs => decide (f.lo ≤ v ∧ v ≤ f.hi) && inRanges fs vs
  | _, _ => false

/-- The settings that a list of carried values names. -/
def settingsOf (vs : List Nat) : LineSettings :=
  let v := fun i => vs.getD i 0
  let four := fun i => (#v[v i, v (i + 1), v (i + 2), v (i + 3)] : PerLane Nat)
  { windowMs := 10 * v 0, acceptPct := v 1, rejectPct := v 2, q := v 3, f := v 4
    scaleW := v 5, scaleM := v 6, crawl := v 7, holdoverMs := 100 * v 8, slipPct := v 9
    laneWindow := v 10, dHead := four 11, dPocket := four 15
    dBag := v 19, dTie := v 20, dVerify := v 21, dReject := v 22, dExit := v 23, dChute := v 24
    tolerance := v 25, gateLead := v 26, readWindow := v 27, releaseWindow := v 28
    rmax := four 29, lineMax := v 33
    configured := v 34, pulsesPerRev := four 35, idleRate := v 39, spinupS := v 40
    narrowing := decide (v 41 = 1), retrialS := v 42, trialLoaves := v 43, trialLimit := v 44
    mergeTravel := v 45, minGap := v 46, bypassLimit := v 47, changeoverMs := 100 * v 48
    confirmMs := v 49, missLimit := v 50, bagsLow := v 51
    letter := v 52, dayBoundary := v 53, clipsLow := v 54, challengeInterval := v 55
    burstLimit := v 56, burstWindow := v 57, reindexMs := 100 * v 58
    headPurge := v 59, headHard := v 60, beltPurge := v 61, beltHard := v 62, skip := v 63
    purgeMs := 100 * v 64, mismatchPct := v 65, residual := v 66, clearance := v 67
    rampRate := v 68, startLimitS := v 69, linkTimeoutS := v 70 }

/-- The carried values of the settings (section 11.5). -/
def settingsValues (x : LineSettings) : List Nat :=
  [x.windowMs / 10, x.acceptPct, x.rejectPct, x.q, x.f, x.scaleW, x.scaleM, x.crawl,
    x.holdoverMs / 100, x.slipPct, x.laneWindow] ++ x.dHead.toList ++ x.dPocket.toList ++
  [x.dBag, x.dTie, x.dVerify, x.dReject, x.dExit, x.dChute, x.tolerance, x.gateLead, x.readWindow,
    x.releaseWindow] ++ x.rmax.toList ++ [x.lineMax, x.configured] ++ x.pulsesPerRev.toList ++
  [x.idleRate, x.spinupS, if x.narrowing then 1 else 0, x.retrialS, x.trialLoaves, x.trialLimit,
    x.mergeTravel, x.minGap, x.bypassLimit, x.changeoverMs / 100, x.confirmMs, x.missLimit, x.bagsLow,
    x.letter, x.dayBoundary, x.clipsLow, x.challengeInterval, x.burstLimit, x.burstWindow,
    x.reindexMs / 100, x.headPurge, x.headHard, x.beltPurge, x.beltHard, x.skip, x.purgeMs / 100,
    x.mismatchPct, x.residual, x.clearance, x.rampRate, x.startLimitS, x.linkTimeoutS]

/-- The 154 bytes of the settings set. -/
def settingsBytes (x : LineSettings) : List Byte := writeFields settingsFields (settingsValues x)

/-- The challenge interval is 0 or 50 to 5000 strokes (R110, R127). -/
def challengeOk (n : Nat) : Bool := n == 0 || decide (50 ≤ n ∧ n ≤ 5000)

/-- The geometry conditions of R40. -/
def geometryOk (x : LineSettings) : Bool :=
  lanes.all (fun l => !decide (l.val < x.configured) ||
    (decide (6000 < x.dHead[l]) && decide (x.dHead[l] + 6000 ≤ x.dPocket[l]))) &&
  decide (x.releaseWindow < x.dBag ∧ x.dBag < x.dTie ∧ x.dTie < x.dVerify ∧ x.dVerify < x.dReject ∧
    x.dVerify + x.readWindow + x.gateLead < x.dReject ∧ x.dReject < x.dExit ∧ x.dReject < x.dChute)

/-- The nominal count of a blade at the idle rate (R69, R72). -/
def idleCount (idleRate pulsesPerRev windowMs : Nat) : Nat := idleRate * pulsesPerRev * windowMs / 1000

/-- The conditions between settings of R168: R1, R40, R69, R130. -/
def settingsAgree (x : LineSettings) : Bool :=
  decide (x.acceptPct ≤ x.rejectPct) && geometryOk x &&
  lanes.all (fun l => !decide (l.val < x.configured) ||
    decide (8 ≤ idleCount x.idleRate x.pulsesPerRev[l] x.windowMs)) &&
  decide (x.headPurge ≤ x.headHard ∧ x.beltPurge ≤ x.beltHard)

/-- Durations lie on the steps their ranges name (R168). -/
def onSteps (x : LineSettings) : Bool :=
  decide (x.windowMs % 10 = 0 ∧ x.holdoverMs % 100 = 0 ∧ x.changeoverMs % 100 = 0 ∧
    x.purgeMs % 100 = 0 ∧ x.reindexMs % 100 = 0)

/-- Settings that SET_LINE accepts, and that the power-on load takes from a good section (R168, R171). -/
def settingsValid (x : LineSettings) : Bool :=
  inRanges settingsFields (settingsValues x) && challengeOk x.challengeInterval && onSteps x &&
    settingsAgree x

/-- The settings a SET_LINE payload names, where each value lies in its range (R168). -/
def parseSettings (bs : List Byte) : Option LineSettings :=
  let vs := readFields settingsFields bs
  if inRanges settingsFields vs && challengeOk (settingsOf vs).challengeInterval then
    some (settingsOf vs)
  else none

/-! ### Profiles (R162, R203) -/

/-- A profile's validity (R162). -/
def profileValid (p : Profile) : Bool :=
  decide (p.code ≤ 65535 ∧ p.name.length ≤ 12) &&
  p.name.all (fun b => decide (0x20 ≤ b.toNat ∧ b.toNat ≤ 0x7E)) &&
  decide (60 ≤ p.t ∧ p.t ≤ 300 ∧ p.e ≤ 300 ∧ 500 ≤ p.lmin ∧ p.lmin ≤ 6000 ∧ p.lmin ≤ p.lmax ∧
    p.lmax ≤ 6000 ∧ 3 ≤ p.nmin ∧ p.nmin ≤ 60 ∧ p.nmin ≤ p.nmax ∧ p.nmax ≤ 60 ∧ p.crumb ≤ 255 ∧
    1 ≤ p.shelf ∧ p.shelf ≤ 60 ∧ 1 ≤ p.bagClass ∧ p.bagClass ≤ 4 ∧ 2 * p.e + p.t < p.lmin)

/-- The profile that the 28 bytes of R203 carry, its valid flag apart. The name ends at the first zero byte. -/
def parseProfile (bs : List Byte) : Profile :=
  let num := fun at_ n => leNat ((bs.drop at_).take n)
  { code := num 0 2, name := ((bs.drop 2).take 12).takeWhile (· != 0), t := num 14 2, e := num 16 2
    lmin := num 18 2, lmax := num 20 2, nmin := num 22 1, nmax := num 23 1, crumb := num 24 1
    shelf := num 25 1, bagClass := num 26 1 }

/-- Text padded with zero bytes to a width. -/
def padTo (n : Nat) (bs : List Byte) : List Byte := bs.take n ++ List.replicate (n - bs.length) 0

/-- The 28 bytes of a slot (R203); an empty slot is all zero bytes. -/
def profileBytes : Option Profile → List Byte
  | none => List.replicate 28 0
  | some p =>
    leBytes 2 p.code ++ padTo 12 p.name ++ leBytes 2 p.t ++ leBytes 2 p.e ++ leBytes 2 p.lmin ++
      leBytes 2 p.lmax ++
      [byteOf p.nmin, byteOf p.nmax, byteOf p.crumb, byteOf p.shelf, byteOf p.bagClass, 1]

/-! ### The reported loaf record (R201) -/

/-- Eight characters of a code, zero bytes when absent (R201). -/
def codeBytes : Option (List Byte) → List Byte
  | some c => padTo 8 c
  | none => List.replicate 8 0

/-- A position of a record, zero bytes when absent (R201). -/
def recPos : Option Nat → List Byte
  | some p => posBytes p
  | none => List.replicate 5 0

/-- The presence and flags byte of R201. -/
def presence (r : Rec) : Nat :=
  (if r.suspect then 1 else 0) + (if r.late then 2 else 0) + (if r.pocket.isSome then 4 else 0) +
  (if r.challenge then 8 else 0) + (if r.plan.any Plan.thick then 16 else 0) +
  (if r.plan.isSome then 32 else 0) + (if r.length.isSome then 64 else 0) +
  (if r.mergeLead.isSome then 128 else 0)

/-- The text of a MISMATCH. -/
def ReadResult.actual : ReadResult → Option (List Byte)
  | .mismatch a => some a
  | _ => none

/-- The 72 bytes of the reported loaf record (R201). -/
def recordBytes (r : Rec) : List Byte :=
  leBytes 4 r.loaf ++ [byteOf r.lane.val, byteOf r.slot.val, byteOf r.state.code,
    byteOf (codeOrNone LoafClass.code r.cls)] ++
  leBytes 2 r.tag ++ [byteOf r.bagClass, byteOf (presence r)] ++ posBytes r.lead ++
  leBytes 2 (r.length.getD 0) ++ byteOf (codeOrNone Plan.k r.plan) ::
  leBytes 4 (codeOrNone Plan.p256 r.plan) ++ byteOf r.cutsDone :: recPos r.pocket ++
  byteOf r.retries :: recPos r.mergeLead ++ leBytes 4 (r.seq.getD 0) ++
  byteOf (codeOrNone BagResult.code r.bagResult) :: codeBytes r.expected ++
  byteOf (codeOrNone ReadResult.code r.read) :: codeBytes (r.read.bind ReadResult.actual) ++
  byteOf r.reasons.length :: padTo 12 (r.reasons.map fun x => byteOf x.code) ++
  [byteOf (codeOrNone Decision.code r.decision)]

/-! ### The totals block (R202) -/

/-- The place of a shift (R149). -/
inductive Place | opened | closing | closed
deriving DecidableEq, Repr

def Place.code : Place → Nat
  | .opened => 1 | .closing => 2 | .closed => 3

def countsBytes (c : Counts) : List Byte :=
  ([c.admitted, c.good, c.rejected, c.challenge, c.escape, c.lost, c.cleared, c.sliced, c.thick].map
    (leBytes 4)).flatten

/-- The heading of R202: the shift's state is its place. -/
def headingBytes (p : Place) (sh : Shift) : List Byte :=
  leBytes 2 sh.seq ++ [byteOf sh.digit, byteOf p.code] ++ leBytes 4 sh.openTime ++
    massBytes sh.closeTime ++ [byteOf sh.inTable]

/-- LANES: nine counts for each lane in turn. -/
def lanesSection (sh : Shift) : List Byte := (sh.perLane.toList.map countsBytes).flatten

/-- PROFILES: nine counts for the four slots of a group in turn. -/
def profilesSection (sh : Shift) (group : Nat) : List Byte :=
  (((sh.perSlot.toList.drop (4 * group)).take 4).map countsBytes).flatten

/-- REASONS: the counts of R202 in their order. -/
def reasonsSection (sh : Shift) : List Byte :=
  ((sh.reasons.toList ++ [sh.bags, sh.clips] ++ sh.purges.toList ++ [sh.beltPurges] ++
    sh.crumb.toList ++ [sh.lossEvents, sh.phantoms, sh.divertFails, sh.caught]).map
    (leBytes 4)).flatten

/-! ### Small operands -/

/-- The payload byte at an offset, as a number. -/
def byteAt (bs : List Byte) (i : Nat) : Nat := (bs.getD i 0).toNat

/-- The number in `n` payload bytes from an offset. -/
def numAt (bs : List Byte) (i n : Nat) : Nat := leNat ((bs.drop i).take n)

/-- A number as a lane, where it is 0 to 3. -/
def asLane (n : Nat) : Option Lane := if h : n < 4 then some ⟨n, h⟩ else none

/-- A number as a profile slot, where it is 0 to 15. -/
def asSlot (n : Nat) : Option Slot := if h : n < 16 then some ⟨n, h⟩ else none

/-- A number as a purge target (section 11.5), where it is 0 to 4. -/
def asTarget (n : Nat) : Option Target :=
  if n = 4 then some .belt else (asLane n).map .head

/-- A flag byte is 0 or 1 (section 11.5). -/
def asFlag (n : Nat) : Option Bool := if n = 0 then some false else if n = 1 then some true else none

/-- A kind set of three bytes (R196). -/
def kindSet (bs : List Byte) : BitVec 24 := BitVec.ofNat 24 (leNat bs)

end Sys2Proof.Machine
end

