-- ==== Sys2Proof/Machine/Calendar.lean ====
section
/-! DEFINITION. The calendar as the part keeps it, the dates of a stroke, and the printed code (R115, R116, R117, R172, R173). -/

namespace Sys2Proof.Machine

/-- A calendar date. -/
structure Date where
  year : Nat
  month : Nat
  day : Nat
deriving DecidableEq, Repr

/-- February has 29 days in each year divisible by 4 (R116). -/
def leap (year : Nat) : Bool := year % 4 == 0

def yearDays (year : Nat) : Nat := if leap year then 366 else 365

/-- The days of the twelve months (R116). -/
def monthDays (year : Nat) : List Nat :=
  [31, if leap year then 29 else 28, 31, 30, 31, 30, 31, 31, 30, 31, 30, 31]

/-- The month and day of a day number within a year, counting months from `month`. -/
def inMonths : Nat → List Nat → Nat → Nat × Nat
  | month, [], d => (month, d + 1)
  | month, n :: rest, d => if d < n then (month, d + 1) else inMonths (month + 1) rest (d - n)

/-- The date of a day number counted from January 1 of a year; the first argument bounds the years passed. -/
def dateFrom : Nat → Nat → Nat → Date
  | 0, year, d => ⟨year, (inMonths 1 (monthDays year) d).1, (inMonths 1 (monthDays year) d).2⟩
  | fuel + 1, year, d =>
    if d < yearDays year then
      ⟨year, (inMonths 1 (monthDays year) d).1, (inMonths 1 (monthDays year) d).2⟩
    else dateFrom fuel (year + 1) (d - yearDays year)

/-- The date of a day number from 2000-01-01; the clock's days and any shelf days lie within 200 years (R172). -/
def dateOf (d : Nat) : Date := dateFrom 200 2000 d

/-- Seconds of one day. -/
def daySeconds : Nat := 86400

/-- The day number of the production date (R116): the clock less the day boundary, a result below 0 being 2000-01-01. -/
def productionDay (clock boundary : Nat) : Nat := (clock - boundary * 60) / daySeconds

/-- The best-before date: the production date plus the shelf days (R116). -/
def bestBefore (clock boundary shelf : Nat) : Date := dateOf (productionDay clock boundary + shelf)

/-- Two decimal digits. -/
def twoDigits (n : Nat) : List Byte := [byteOf (0x30 + n / 10 % 10), byteOf (0x30 + n % 10)]

/-- The eight printed characters of R115. -/
def codeText (day month letter digit : Nat) : List Byte :=
  twoDigits day ++ 0x20 :: twoDigits month ++ [0x20, byteOf letter, byteOf (0x30 + digit)]

/-- The challenge day (R117). -/
def challengeDay (day : Nat) : Nat := (day + 9) % 31 + 1

/-- The best-before day that a code's text prints. -/
def dayOfCode (code : List Byte) : Nat := (byteAt code 0 - 0x30) * 10 + (byteAt code 1 - 0x30)

/-- The challenge code of a true code (R117): the day replaced, the rest as it is. -/
def challengeCode (code : List Byte) : List Byte :=
  twoDigits (challengeDay (dayOfCode code)) ++ code.drop 2

/-- The reply fields of READ_CLOCK (R173). -/
def clockFields (clock boundary : Nat) (valid : Bool) : List Byte :=
  let d := dateOf (clock / daySeconds)
  let t := clock % daySeconds
  let p := dateOf (productionDay clock boundary)
  leBytes 4 clock ++ flagByte valid :: leBytes 2 d.year ++
    [byteOf d.month, byteOf d.day, byteOf (t / 3600), byteOf (t / 60 % 60), byteOf (t % 60)] ++
    leBytes 2 p.year ++ [byteOf p.month, byteOf p.day]

end Sys2Proof.Machine
end

