-- ==== Sys2Proof/Machine/Planner.lean ====
section
/-! DEFINITION. The Slice Planner's arithmetic (chapter 3): classes, plans, cut positions, crumb shares, ceilings. -/

namespace Sys2Proof.Machine

/-- The class of a length (R55). -/
def classify (p : Profile) (len : Nat) : LoafClass :=
  if len < p.lmin then .short
  else if p.lmax < len ∧ 2 * p.lmin ≤ len then .tailgate
  else if p.lmax < len then .long
  else .normal

/-- The reason a class adds (R55). -/
def LoafClass.reason : LoafClass → Option Reason
  | .short => some .short
  | .tailgate => some .tailgate
  | .long => some .long
  | .normal => none

/-- The sliceable span S = L - 2E (R57). -/
def span (p : Profile) (len : Nat) : Nat := len - 2 * p.e

/-- The interior count, S / T rounded to nearest (R57), clamped to nmin - 2 .. nmax - 2 (R58). -/
def interiorCount (p : Profile) (len : Nat) : Nat :=
  max (p.nmin - 2) (min (p.nmax - 2) ((span p len + p.t / 2) / p.t))

/-- What the rate check of R59 makes of a clamped count: the plan's k with THICK, or none for OVERSPEED. -/
def rateCheck (p : Profile) (len rmax v : Nat) : Option (Nat × Bool) :=
  let k := interiorCount p len
  let s := span p len
  if v = 0 ∨ k * v ≤ rmax * s then some (k, false)
  else if p.nmin - 2 ≤ rmax * s / v then some (rmax * s / v, true)
  else none

/-- The plan of a count (R60). -/
def planOf (p : Profile) (len : Nat) (kt : Nat × Bool) : Plan :=
  ⟨kt.1, span p len * 256 / kt.1, kt.2⟩

/-- PLN classes and plans a record at its trailing edge (R55 to R60); its state becomes PLANNED. -/
def planRecord (p : Profile) (rmax v : Nat) (r : Rec) : Rec :=
  let len := r.length.getD 0
  let c := classify p len
  let r1 := { r with cls := some c, state := .planned }
  match c.reason with
  | some x => r1.addReason x
  | none =>
    if r.suspect ∨ Reason.blade ∈ r.reasons then r1
    else match rateCheck p len rmax v with
      | some kt => { r1 with plan := some (planOf p len kt) }
      | none => r1.addReason .overspeed

/-- The offset of cut i from the leading edge (R61). -/
def cutOffset (p : Profile) (len k i : Nat) : Nat := p.e + i * span p len / k

/-- The head share (R63). -/
def headShare (cuts factor correction : Nat) : Nat := cuts * factor * correction / 64

/-- The merge share (R63). -/
def mergeShare (head : Nat) : Nat := head / 8

/-- The lane ceiling of an assigned profile (R64). -/
def laneCeiling (rmax t : Nat) : Nat := rmax * t * 15 / 16

/-- The profile of a lane's assignment. -/
def State.laneProfile (s : State) (l : Lane) : Profile :=
  match s.pst.assign[l] with
  | some slot => s.profile slot
  | none => Profile.zero

/-- The line speed ceiling (R65): the least of the lane ceilings of the admitting lanes and the line maximum. -/
def State.lineCeiling (s : State) : Nat :=
  lanes.foldl (fun c l =>
    if (s.lane l).admitting then min c (laneCeiling s.set.rmax[l] (s.laneProfile l).t) else c)
    s.set.lineMax

/-- A record whose slicing has not ended and that has a plan: PLANNED with a plan, or SLICING (R71). -/
def Rec.toBeCut (r : Rec) : Bool :=
  match r.state with
  | .planned => r.plan.isSome
  | .slicing => r.plan.isSome && !r.slicingEnded
  | _ => false

/-- The lane's next record to be cut (R71). -/
def State.nextCut (s : State) (l : Lane) : Option Rec := (s.queue l).find? Rec.toBeCut

/-- The pitch the lane's next cut asks for, where there is one. -/
def State.nextPitch (s : State) (l : Lane) : Option Nat :=
  (s.nextCut l).bind fun r => r.plan.map Plan.p256

/-- The blade rate demand in 1/256 cuts/s (R70, R71). -/
def State.bladeDemand (s : State) (l : Lane) : Nat :=
  match (s.head l).blade with
  | .spinup => s.set.idleRate * 256
  | .running =>
    match s.nextPitch l with
    | some p => s.sru.estimate * 65536 / p
    | none => s.set.idleRate * 256
  | _ => 0

/-- A head's blade servo demand output (R70): a rate in 1/256 cuts/s, and whether the guard command goes with it. -/
structure ServoOutput where
  rate : Nat
  guard : Bool
deriving DecidableEq, Repr

/-- The servo output of a head: its rate demand, with the guard command while the blade is PARKED (R70). -/
def State.servo (s : State) (l : Lane) : ServoOutput :=
  ⟨(s.head l).demand, decide ((s.head l).blade = .parked)⟩

/-- The nominal count of a blade monitor at a window end (R72). -/
def State.bladeNominal (s : State) (l : Lane) : Nat :=
  let ppr := s.set.pulsesPerRev[l]
  match (s.head l).blade with
  | .spinup => idleCount s.set.idleRate ppr s.sru.windowMs
  | .running =>
    match s.nextPitch l with
    | some p => s.sru.estimate * 256 * ppr * s.sru.windowMs / (p * 1000)
    | none => idleCount s.set.idleRate ppr s.sru.windowMs
  | _ => 0

end Sys2Proof.Machine
end

