-- ==== Sys2Proof/Machine/Speed.lean ====
section
/-! DEFINITION. The Speed Reference Unit (chapter 1): window monitors, increments, the estimate, selection, the slip check, the reference states. -/

namespace Sys2Proof.Machine

/-! ### The window monitor (R1 to R7) -/

/-- One more pulse in the window in progress (R2). -/
def Monitor.pulse (m : Monitor) : Monitor := { m with count := satAdd Config.pulseMax m.count 1 }

/-- The class of a window (R4). -/
inductive WindowClass | accepted | neutral | rejected
deriving DecidableEq, Repr

/-- The distance of two counts. -/
def distance (a b : Nat) : Nat := (a - b) + (b - a)

/-- The class of a count against a nominal count (R3, R4); none with N below 8, when the window is suspended. -/
def classWindow (acceptPct rejectPct n c : Nat) : Option WindowClass :=
  if n < 8 then none
  else if distance c n ≤ n * acceptPct / 100 then some .accepted
  else if n * rejectPct / 100 < distance c n then some .rejected
  else some .neutral

/-- A run limit of 0 acts as 1 (R1). -/
def runLimit (n : Nat) : Nat := max 1 n

/-- The effect of a class on the runs and the qualification (R5, R6). -/
def Monitor.take (m : Monitor) (q f : Nat) : WindowClass → Monitor
  | .neutral => m
  | .accepted =>
    if m.qualified then { m with rejectRun := 0 }
    else if runLimit q ≤ m.acceptRun + 1 then
      { m with qualified := true, acceptRun := 0, rejectRun := 0 }
    else { m with acceptRun := m.acceptRun + 1 }
  | .rejected =>
    if m.qualified then
      if runLimit f ≤ m.rejectRun + 1 then
        { m with qualified := false, acceptRun := 0, rejectRun := 0 }
      else { m with rejectRun := m.rejectRun + 1 }
    else { m with acceptRun := 0 }

/-- A window end of one monitor (R4): the count is classed against N, and a new window begins. -/
def Monitor.windowEnd (m : Monitor) (x : LineSettings) (n : Nat) : Monitor :=
  let m1 := match classWindow x.acceptPct x.rejectPct n m.count with
    | some c => m.take x.q x.f c
    | none => m
  { m1 with count := 0 }

/-- The history with a count joined, the oldest dropped when a ninth joins (R2). -/
def joinHistory (h : List WindowCount) (c : WindowCount) : List WindowCount :=
  (h ++ [c]).drop ((h ++ [c]).length - Config.historyMax)

/-- The nominal count of a line monitor (R3). -/
def lineNominal (demand windowMs scale : Nat) : Nat := demand * windowMs * scale / 10000000

/-- A window end of a line monitor (R2, R3); the count joins the history with the length `ms` of the window that ends (R11). -/
def LineMonitor.windowEnd (m : LineMonitor) (x : LineSettings) (n ms : Nat) : LineMonitor :=
  ⟨m.mon.windowEnd x n, joinHistory m.history ⟨m.mon.count, ms⟩⟩

/-- The pulses of some held counts. -/
def pulsesOf (h : List WindowCount) : Nat := (h.map WindowCount.count).sum

/-- The milliseconds that some held counts were counted over. -/
def msOf (h : List WindowCount) : Nat := (h.map WindowCount.ms).sum

/-- Unqualified, runs 0, history empty (R7); the count of the window in progress goes on (R2). -/
def LineMonitor.requalify (m : LineMonitor) : LineMonitor := ⟨⟨false, 0, 0, m.mon.count⟩, []⟩

/-! ### Increments, pacer and estimate (R8, R10, R11) -/

/-- A source's increment: round(10,000 × 65,536 / scale), a half going up (R8). -/
def increment (scale : Nat) : Nat := (2 * (10000 * Config.tu) + scale) / (2 * scale)

def Sru.line (x : Sru) : LineSource → LineMonitor
  | .w => x.w
  | .m => x.m

def Sru.inc (x : Sru) : LineSource → Nat
  | .w => x.incW
  | .m => x.incM

/-- The mean speed over a source's held counts, each over the window length it was counted in (R11; counts of two
lengths together: log entry 40). A selected source holds at least one count, since it qualified on counted windows (log entry 25). -/
def Sru.mean (x : Sru) (src : LineSource) : Nat :=
  let h := (x.line src).history
  min Config.speedMax (pulsesOf h * x.inc src * 1000 / (msOf h * 65536))

/-- The pacer speed of R10. -/
def pacerOf (st : RefState) (demand frozen : Nat) : Nat :=
  match st with
  | .idle => 0
  | .acquire => demand
  | .track => demand
  | .holdover => frozen
  | .crawl => demand

/-- The pacer speed follows R10, and the estimate the pacer speed while the pacer is selected (R11). -/
def refreshPacer (s : State) : State :=
  s.onSru fun x =>
    let p := pacerOf x.state s.lc.demand x.frozen
    { x with
      pacerSpeed := p
      estimate := match x.selected with
        | .pacer => p
        | .encoder _ => x.estimate }

/-- The estimate renewed at a window end or at a change of source (R11). -/
def refreshEstimate (s : State) : State :=
  refreshPacer (s.onSru fun x =>
    { x with estimate := match x.selected with
        | .encoder src => x.mean src
        | .pacer => x.estimate })

/-! ### Reference states (R17 to R24) -/

/-- The snapshot of REF_STATE (R194). -/
def refSnapshot (s : State) : List Byte :=
  [byteOf s.sru.state.code, byteOf s.sru.selected.code, flagByte s.sru.w.mon.qualified,
    flagByte s.sru.m.mon.qualified] ++ leBytes 2 s.sru.estimate ++ posBytes s.pos

/-- One change of reference state, selected source, or both (R24; log entry 10): the pacer and the estimate follow
at once (R11), LC makes the held demand absent or, at HOLDOVER, takes it (R183), and REF_STATE is raised. -/
def setReferenceState (st : RefState) (src : Source) (s : State) : State :=
  let changed := decide (s.sru.state ≠ st)
  let s1 := s.onSru fun x => { x with state := st, selected := src }
  let s2 := s1.onLc fun lc =>
    { lc with held := if changed then (if st = .holdover then some lc.demand else none) else lc.held }
  let s3 := refreshEstimate s2
  raise .refState (refSnapshot s3) s3

/-- Entry to IDLE (R17). -/
def enterIdle (s : State) : State :=
  if s.sru.state = .idle then s
  else setReferenceState .idle .pacer (s.onSru fun x => { x with holdover := none, frozen := 0 })

/-- Entry to ACQUIRE (R18, R7). -/
def enterAcquire (s : State) : State :=
  setReferenceState .acquire .pacer (s.onSru fun x =>
    { x with w := x.w.requalify, m := x.m.requalify, slipActive := false })

/-- A switch to an encoder source (R14), taking the reference to TRACK (R13). -/
def switchTo (src : LineSource) (s : State) : State :=
  let s1 := if s.sru.settings.hitless ∧ s.flag .slip = false then s else markSuspect s
  setReferenceState .track (.encoder src) (s1.onSru fun x => { x with holdover := none })

/-- Entry to CRAWL (R21). -/
def enterCrawl (s : State) : State :=
  setReferenceState .crawl .pacer ((markSuspect s).onSru fun x => { x with holdover := none })

/-- Entry to HOLDOVER with the estimate that stood before the event (R20). -/
def enterHoldover (est : Nat) (s : State) : State :=
  setReferenceState .holdover .pacer (s.onSru fun x =>
    { x with frozen := est, holdover := some s.set.holdoverMs })

/-- A departure from TRACK is counted (R22). -/
def countLoss (s : State) : State :=
  lineEvent (fun sh => { sh with lossEvents := bump32 sh.lossEvents })
    (s.onNv fun nv => { nv with lossCell := some (bump32 (nv.lossCell.getD 0)) })

/-- A loss of track (R19, R22). -/
def lossOfTrack (est : Nat) (s : State) : State :=
  if s.set.holdoverMs = 0 then enterCrawl (countLoss s) else enterHoldover est (countLoss s)

/-- The source R13 chooses. -/
def Sru.choose (x : Sru) : Option LineSource :=
  let wq := x.w.mon.qualified
  let mq := x.m.mon.qualified
  match x.settings.mode with
  | .fixed => if (x.line x.settings.fixedSource).mon.qualified then some x.settings.fixedSource else none
  | .auto =>
    if !x.settings.revertive && decide (x.selected = .encoder .m) && mq then some .m
    else if wq then some .w
    else if mq then some .m
    else none

/-- SRU evaluates its selection (R13), with the estimate that stood before the event (R20). -/
def evaluateSelection (est : Nat) (s : State) : State :=
  match s.sru.state with
  | .idle => s
  | st =>
    match s.sru.choose with
    | some src => if s.sru.selected = .encoder src then s else switchTo src s
    | none => if st = .track then lossOfTrack est s else s

/-- Both sums of the slip check in 1/65536 tu (R16). -/
def Sru.travel (x : Sru) (src : LineSource) : Nat := pulsesOf (x.line src).history * x.inc src

/-- The sources disagree (R16). -/
def slipDisagrees (tw tm slipPct : Nat) : Bool := decide (slipPct * tw < distance tw tm * 100)

/-- The slip check of a window end (R16). -/
def slipCheck (s : State) : State :=
  let x := s.sru
  if x.w.mon.qualified ∧ x.m.mon.qualified then
    if x.w.history.length = Config.historyMax ∧ x.m.history.length = Config.historyMax then
      if slipDisagrees (x.travel .w) (x.travel .m) s.set.slipPct then
        if x.slipActive then s
        else
          let s1 := s.onSru fun x => { x with slipActive := true }
          raise .slip (leBytes 5 (wholeTu (x.travel .w)) ++ leBytes 5 (wholeTu (x.travel .m)) ++
            byteOf x.selected.code :: posBytes s.pos) s1
      else s.onSru fun x => { x with slipActive := false }
    else s
  else s.onSru fun x => { x with slipActive := false }

end Sys2Proof.Machine
end

