-- ==== Sys2Proof/Machine/Heads.lean ====
section
/-! DEFINITION. Blades and lanes (chapter 4): blade changes, lane changes, trial lists, and how they follow the line's entries. -/

namespace Sys2Proof.Machine

/-! ### Blades (R70 to R76) -/

/-- Entry to SPINUP (R73): the monitor unqualified with runs 0, the spin-up timer at its limit. -/
def spinUp (l : Lane) (s : State) : State :=
  onHead l (fun h =>
    { h with
      blade := .spinup
      mon := ⟨false, 0, 0, h.mon.count⟩
      spinup := some (1000 * s.set.spinupS) }) s

/-- A blade PARKED for a purge stays PARKED until the purge ends; any other enters SPINUP (R73), a blade in SPINUP already being spun up anew (DESIGN CHOICE, log entry 45). -/
def spinUpUnlessParked (l : Lane) (s : State) : State :=
  if (s.head l).blade = .parked then s else spinUp l s

/-- A blade's change to a state other than SPINUP; the spin-up timer stops (R70). -/
def setBlade (b : BladeState) (l : Lane) (s : State) : State :=
  onHead l (fun h => { h with blade := b, spinup := none }) s

/-- A blade in one of some states becomes STOPPED (R84, R86). -/
def stopBladeIf (p : BladeState → Bool) (l : Lane) (s : State) : State :=
  if p (s.head l).blade then setBlade .stopped l s else s

/-- The snapshot of BLADE_FAULT (R194). -/
def bladeFaultSnapshot (l : Lane) (loaf given : Nat) (s : State) : List Byte :=
  byteOf l.val :: posBytes s.pos ++ leBytes 4 loaf ++ [byteOf given]

/-! ### Lanes (R78, R79) -/

/-- The snapshot of LANE_CHANGE (R194, R78); a lane that has had no lane fault sends 0 for it (DESIGN CHOICE, log entry 39), and the trial-fail count and the blade state are those that stand where the event raises it (DESIGN CHOICE, log entry 47). -/
def laneSnapshot (l : Lane) (s : State) : List Byte :=
  let c := s.lane l
  [byteOf l.val, byteOf c.state.code, byteOf (codeOrNone (fun f => LaneFault.code f.1) c.lastFault),
    byteOf c.trialFails, byteOf (s.head l).blade.code]

/-- LANE_CHANGE is raised for a lane. -/
def raiseLane (l : Lane) (s : State) : State := raise .laneChange (laneSnapshot l s) s

/-- A change of a lane's state raises LANE_CHANGE (R78); no change raises nothing. -/
def setLaneState (st : LaneState) (l : Lane) (s : State) : State :=
  if (s.lane l).state = st then s else raiseLane l (onLane l (fun c => { c with state := st }) s)

/-- The trial list emptied, trial admissions remaining 0, the retrial timer stopped (R84, R86). -/
def endTrial (l : Lane) (s : State) : State :=
  onLane l (fun c => { c with trialLeft := 0, trialList := [], trialRan := false, retrial := none }) s

/-- At an entry to READY or HALTED a RUNNING, TRIAL or DOWN lane becomes IDLE (R84). -/
def laneOutOfMotion (l : Lane) (s : State) : State :=
  let s1 := endTrial l s
  match (s.lane l).state with
  | .running => setLaneState .idle l s1
  | .trial => setLaneState .idle l s1
  | .down => setLaneState .idle l s1
  | _ => s1

/-- HD at the line's entry to READY (R84), lanes 0 to 3 in turn (log entry 43), each blade before its lane (log entry 47). -/
def headsAtReady (s : State) : State :=
  forLanes (fun l s => laneOutOfMotion l
    (stopBladeIf (fun b => b == .spinup || b == .running) l s)) s

/-- HD at the line's entry to HALTED (R84), lanes 0 to 3 in turn (log entry 43), each blade before its lane (log entry 47). -/
def headsAtHalted (s : State) : State :=
  forLanes (fun l s => laneOutOfMotion l
    (stopBladeIf (fun b => b == .spinup || b == .running || b == .parked) l s)) s

/-- HD at the line's entry to STARTING (R84): the blade of each IDLE lane in the target set spins up. -/
def headsAtStarting (s : State) : State :=
  forLanes (fun l s =>
    if (s.lane l).state = .idle ∧ (s.lane l).target ∧ s.isConfigured l then spinUpUnlessParked l s
    else s) s

/-- The line states in which an IDLE lane in the target set comes into service when its blade runs (R84). -/
def LineState.takesLanes : LineState → Bool
  | .starting => true | .running => true | .draining => true | _ => false

/-- The line states in which a blade of the target set spins up: STARTING and RUNNING (R76, R86). -/
def LineState.spinsUp : LineState → Bool
  | .starting => true | .running => true | _ => false

/-- A blade in SPINUP qualifies (R73): RUNNING; an IDLE lane in the target set becomes RUNNING (R84), and a TRIAL lane gets its trial admissions the first time (R82). -/
def bladeQualified (l : Lane) (s : State) : State :=
  let s1 := setBlade .running l s
  match (s1.lane l).state with
  | .idle =>
    if (s1.lane l).target ∧ s1.lc.state.takesLanes then setLaneState .running l s1 else s1
  | .trial =>
    if (s1.lane l).trialRan then s1
    else onLane l (fun c => { c with trialLeft := s1.set.trialLoaves, trialRan := true }) s1
  | _ => s1

/-- A lane's entry to TRIAL (R82): the list emptied, no admissions remaining, the blade spinning up before LANE_CHANGE is raised (DESIGN CHOICE, log entry 47). -/
def enterTrial (l : Lane) (s : State) : State :=
  setLaneState .trial l (spinUpUnlessParked l (endTrial l s))

/-- A record leaves its lane's trial list (R82); when that was the last one with no admissions remaining and the lane still TRIAL, the trial succeeds. Its LANE_CHANGE is raised after the trial-fail count has returned to 0, and so carries 0 (DESIGN CHOICE, log entry 47). -/
def offTrialList (l : Lane) (loaf : Nat) (s : State) : State :=
  let c := s.lane l
  if loaf ∈ c.trialList then
    let left := c.trialList.filter (· != loaf)
    let s1 := onLane l (fun c => { c with trialList := left }) s
    if left.isEmpty ∧ c.trialLeft = 0 ∧ c.state = .trial then
      setLaneState .running l (onLane l (fun c => { c with trialFails := 0 }) s1)
    else s1
  else s

/-- The blade leaves PARKED at the end of a purge of its head (R76). -/
def unpark (l : Lane) (s : State) : State :=
  if (s.head l).blade = .parked then
    let c := s.lane l
    match c.state with
    | .running => spinUp l s
    | .trial => spinUp l s
    | .idle => if c.target ∧ s.lc.state.spinsUp then spinUp l s else setBlade .stopped l s
    | _ => setBlade .stopped l s
  else s

/-- A RUNNING blade whose lane is not RUNNING or TRIAL becomes STOPPED when its head is not busy (R76). -/
def stopIdleBlade (l : Lane) (s : State) : State :=
  match (s.lane l).state with
  | .running => s
  | .trial => s
  | _ => if (s.head l).blade = .running ∧ s.headBusy l = false then setBlade .stopped l s else s

/-- The conditions under which a lane's retrial timer runs (R81). -/
def State.mayRetry (s : State) (l : Lane) : Bool :=
  decide ((s.lane l).state = .down ∧ s.lc.state = .running) && (s.lane l).target &&
    (decide ((s.head l).blade = .stopped) || decide ((s.head l).blade = .fault)) && !s.headBusy l

/-- The retrial timer starts at full delay when its conditions hold, and stops when one does not (R81). -/
def settleRetrial (l : Lane) (s : State) : State :=
  onLane l (fun c =>
    { c with retrial :=
        if s.mayRetry l then some (c.retrial.getD (1000 * s.set.retrialS)) else none }) s

/-- Reason BLADE for a record; a PLANNED record's plan is withdrawn (R62, R77). -/
def Rec.withdraw (r : Rec) : Rec := { r.addReason .blade with plan := none }

end Sys2Proof.Machine
end

