-- ==== Sys2Proof/Machine/Crumb.lean ====
section
/-! DEFINITION. The Crumb Unit (chapter 7): estimates, triggers, the purge queue, the start and abort of a cycle. -/

namespace Sys2Proof.Machine

/-- CRM changes what it keeps of one head. -/
def onCrumb (l : Lane) (f : HeadCrumb → HeadCrumb) (s : State) : State :=
  s.onCrm fun c => { c with heads := modAt c.heads l f }

/-- The live estimate of a target (R131). -/
def Crm.estimate (c : Crm) : Target → Nat
  | .head l => c.heads[l].estimate
  | .belt => c.belt

/-- Whether a cycle is running, with its entry at the front (R135). -/
def Crm.running (c : Crm) : Bool :=
  match c.state with
  | .purging => true
  | .settle => true
  | _ => false

/-- The target whose cycle is running, where one is. -/
def Crm.cycleTarget (c : Crm) : Option Target := if c.running then c.queue.head?.map (·.target) else none

def PurgeEntry.isForced (e : PurgeEntry) : Bool := e.group == .forced

/-- The entries up to the last FORCED one, and the SOFT entries behind it. -/
def splitForced (q : List PurgeEntry) : List PurgeEntry × List PurgeEntry :=
  ((q.reverse.dropWhile fun e => !e.isForced).reverse, (q.reverse.takeWhile fun e => !e.isForced).reverse)

/-- An entry joined to the tail of the FORCED group of a queue whose front may be running (R135; log entry 32). -/
def joinForced (running : Bool) (q : List PurgeEntry) (t : Target) : List PurgeEntry :=
  let join := fun q : List PurgeEntry => (splitForced q).1 ++ ⟨t, .forced⟩ :: (splitForced q).2
  match running, q with
  | true, e :: rest => e :: join rest
  | _, q => join q

/-- The place of a target's entry in the queue, the front being 0. -/
def placeOf (q : List PurgeEntry) (t : Target) : Nat := q.findIdx fun e => e.target == t

/-- The entry a queue holds for a target. -/
def entryOf (q : List PurgeEntry) (t : Target) : Option PurgeEntry := q.find? fun e => e.target == t

/-- A queue that has gained an entry is at least in WAIT (R135). -/
def Crm.wake (c : Crm) : Crm :=
  { c with state := match c.state with
      | .idle => if c.queue.isEmpty then .idle else .wait
      | st => st }

/-- A soft request (R133, R134): a SOFT entry at the tail for a target with none. -/
def softRequest (t : Target) (s : State) : State :=
  s.onCrm fun c =>
    match entryOf c.queue t with
    | some _ => c
    | none => Crm.wake { c with queue := c.queue ++ [⟨t, .soft⟩] }

/-- A forced request (R133): an entry is appended or promoted to the tail of the FORCED group, raising CRUMB_FORCED; a FORCED entry stays. -/
def forcedRequest (t : Target) (s : State) : State :=
  match entryOf s.crm.queue t with
  | some ⟨_, .forced⟩ => s
  | _ =>
    let s1 := s.onCrm fun c =>
      Crm.wake { c with queue := joinForced c.running (c.queue.filter fun e => e.target != t) t }
    raise .crumbForced (byteOf (targetCode t) :: leBytes 4 (s1.crm.estimate t) ++
      [byteOf (placeOf s1.crm.queue t)]) s1

/-- A head of an unconfigured lane takes no entry (R133). -/
def State.targetConfigured (s : State) : Target → Bool
  | .head l => s.isConfigured l
  | .belt => true

/-- Whether a target's triggers call for a forced purge (R133). -/
def State.forcedDue (s : State) : Target → Bool
  | .head l => decide (s.set.headHard ≤ s.crm.heads[l].estimate)
  | .belt => decide (s.set.beltHard ≤ s.crm.belt)

/-- Whether a target's triggers call for a soft purge (R133). -/
def State.softDue (s : State) : Target → Bool
  | .head l => decide (s.set.headPurge ≤ s.crm.heads[l].estimate) ||
      decide (1 ≤ s.set.skip ∧ s.set.skip ≤ s.crm.heads[l].loaves)
  | .belt => decide (s.set.beltPurge ≤ s.crm.belt)

/-- CRM evaluates the triggers of a target (R133); a forced request overrides a soft one. -/
def evalTriggers (t : Target) (s : State) : State :=
  if s.crm.cycleTarget = some t ∨ s.targetConfigured t = false then s
  else if s.forcedDue t then forcedRequest t s
  else if s.softDue t then softRequest t s
  else s

/-- The triggers of every target, heads 0 to 3 and then the belt (R130; order: log entry 20), no front starting between them (log entry 48). -/
def evalAllTriggers (s : State) : State :=
  evalTriggers .belt (forLanes (fun l s => evalTriggers (.head l) s) s)

/-- The end of a record's slicing (R63, R131): its shares are added, the loaf counted, and the triggers of its head and of the belt evaluated, no front starting between the two (log entry 48). -/
def endSlicing (r : Rec) (s : State) : State :=
  let share := headShare r.cutsDone (s.profile r.slot).crumb s.crm.heads[r.lane].correction
  let s1 := onCrumb r.lane (fun h =>
    { h with
      estimate := satAdd Config.crumbMax h.estimate share
      loaves := satAdd Config.loavesMax h.loaves 1 }) s
  let s2 := s1.onCrm fun c => { c with belt := satAdd Config.crumbMax c.belt (mergeShare share) }
  evalTriggers .belt (evalTriggers (.head r.lane) s2)

/-- An entry that is the front in its turn; a head entry holds its gap when FORCED, or when SOFT and at the front (R136). -/
def Crm.gapHeld (c : Crm) (l : Lane) : Bool :=
  (entryOf c.queue (.head l)).any fun e =>
    e.isForced || decide (c.queue.head?.map (·.target) = some (.head l))

/-- The belt clearance point (R139), none when it is taken as reached. -/
def State.clearancePoint (s : State) : Option Nat :=
  s.arb.spacing.map fun sp => sp.lead + tuPos (sp.length + s.set.clearance)

/-- Whether a position has been reached, no position being reached always. -/
def reachedBy (h : Nat) : Option Nat → Bool
  | some p => decide (p ≤ h)
  | none => true

/-- Whether the front entry in WAIT may start (R138, R139); `h` is the position up to which events have been taken. -/
def State.mayPurge (s : State) (h : Nat) : Target → Bool
  | .head l => decide (s.lc.state ≠ .halted) && !s.headBusy l
  | .belt => decide (s.lc.state ≠ .halted) && s.arb.flight.isNone && reachedBy h s.clearancePoint

/-- The start of a cycle (R138, R139): the head's blade parks, the estimate is copied, the before-reading is asked for. -/
def startCycle (t : Target) (s : State) : State :=
  let s1 := match t with
    | .head l => setBlade .parked l s
    | .belt => s
  s1.onCrm fun c =>
    { c with
      state := .purging
      cycle := some ⟨t, c.estimate t, none, none⟩
      weigh := some Config.weighMs }

/-- The front entry in WAIT starts its cycle when it may (R138, R139). It is looked at once, when every block has taken the event: a front that could start at some point inside the event gives way to a FORCED entry which a later evaluation of the same event puts ahead of it (DESIGN CHOICE, log entry 48). -/
def settlePurge (h : Nat) (s : State) : State :=
  match s.crm.state, s.crm.queue with
  | .wait, e :: _ => if s.mayPurge h e.target then startCycle e.target s else s
  | _, _ => s

/-- A running cycle is aborted (R144): the air closed, the timers stopped, the cycle record discarded, the entry back in WAIT. The target's triggers, not evaluated while its cycle ran, are not evaluated at the abort itself but at the next event that R133 names (DESIGN CHOICE, log entry 46). -/
def abortCycle (s : State) : State :=
  s.onCrm fun c =>
    if c.running then
      { c with state := .wait, cycle := none, purge := none, settle := none, weigh := none, air := none }
    else c

/-- The before-reading is settled, present or absent, and the air opens (R141). -/
def openAir (reading : Option Nat) (s : State) : State :=
  s.onCrm fun c =>
    { c with
      cycle := c.cycle.map fun y => { y with before := reading }
      weigh := none
      purge := some s.set.purgeMs
      air := c.cycle.map (·.target) }

/-- The removed mass (R142). -/
def removedMass : Option Nat → Option Nat → Option Nat
  | some b, some a => some (b - a)
  | _, _ => none

/-- The correction factor after a purge (R142). -/
def corrected (correction start : Nat) : Option Nat → Nat
  | some removed =>
    if start = 0 then correction else max 32 (min 128 (correction * removed / start))
  | none => correction

/-- The model check of R143. -/
def modelDisagrees (pct start : Nat) : Option Nat → Bool
  | some removed => decide (pct * start < distance removed start * 100)
  | none => true

/-- The entry at the front leaves the queue, and the purge state follows (R143). -/
def Crm.endCycle (c : Crm) : Crm :=
  { c with
    queue := c.queue.tail
    state := if c.queue.tail.isEmpty then .idle else .wait
    cycle := none, purge := none, settle := none, weigh := none, air := none }

/-- The absent readings of CRUMB_MODEL: 1 before, 2 after, 3 both, 0 none (R194). -/
def absentCode (before after : Option Nat) : Nat :=
  (if before.isNone then 1 else 0) + (if after.isNone then 2 else 0)

/-- What a completed cycle updates (R142), with the last purge it leaves. -/
def settleCycle (y : Cycle) (s : State) : State × LastPurge :=
  let removed := removedMass y.before y.after
  match y.target with
  | .head l =>
    let f := corrected s.crm.heads[l].correction y.start removed
    let last : LastPurge := ⟨y.before, y.after, removed, y.start, f⟩
    let s1 := onCrumb l (fun h => ⟨h.estimate - y.start, f, 0⟩) s
    let s2 := s1.onCrm fun c => { c with last := putAt c.last l (some last) }
    (lineEvent (fun sh =>
      { sh with
        purges := modAt sh.purges l bump32
        crumb := modAt sh.crumb l fun v => satAdd Config.count32 v (removed.getD 0) }) s2, last)
  | .belt =>
    let last : LastPurge := ⟨y.before, y.after, removed, y.start, 0⟩
    let s1 := s.onCrm fun c => { c with belt := c.belt - y.start, lastBelt := some last }
    (lineEvent (fun sh => { sh with beltPurges := bump32 sh.beltPurges }) s1, last)

/-- The model check of a completed cycle (R143). -/
def checkModel (y : Cycle) (s : State) : State :=
  if 0 < y.start ∧ modelDisagrees s.set.mismatchPct y.start (removedMass y.before y.after) then
    raise .crumbModel (byteOf (targetCode y.target) :: leBytes 4 y.start ++
      massBytes (removedMass y.before y.after) ++ [byteOf (absentCode y.before y.after)]) s
  else s

/-- The snapshot of PURGE_DONE (R194). -/
def purgeSnapshot (t : Target) (p : LastPurge) : List Byte :=
  byteOf (targetCode t) :: massBytes p.before ++ massBytes p.after ++ massBytes p.removed ++
    leBytes 4 p.start ++ [byteOf p.correction]

/-- The end of a completed cycle (R143): the entry leaves, the blade leaves PARKED, PURGE_DONE is raised, the target's triggers are evaluated; only then is the new front looked at (DESIGN CHOICE, log entry 48). -/
def finishCycle (y : Cycle) (last : LastPurge) (s : State) : State :=
  let s1 := s.onCrm Crm.endCycle
  let s2 := match y.target with
    | .head l => unpark l s1
    | .belt => s1
  evalTriggers y.target (raise .purgeDone (purgeSnapshot y.target last) s2)

end Sys2Proof.Machine
end

