-- ==== Sys2Proof/Machine/Bagger.lean ====
section
/-! DEFINITION. The Bagger Unit and the Tyer and Code Check Unit (chapters 5 and 6), but for the blind verifier's drain request. -/

namespace Sys2Proof.Machine

/-! ### The bagger (R102 to R109) -/

/-- BAGS_LOW is raised when the supply has come below the threshold since it stood at `before` (R106). -/
def raiseBagsLow (before : Nat) (s : State) : State :=
  if s.set.bagsLow ≤ before ∧ s.bag.supply < s.set.bagsLow then
    raise .bagsLow (leBytes 2 s.bag.supply ++ leBytes 2 s.set.bagsLow) s
  else s

/-- An attempt of a bag cycle begins by taking one bag (R104). -/
def beginAttempt (loaf number : Nat) (s : State) : State :=
  let before := s.bag.supply
  let s1 := s.onBag fun b =>
    { b with
      supply := b.supply - 1
      state := .cycle
      attempt := some ⟨loaf, number⟩
      confirm := some s.set.confirmMs
      cycleOut := true }
  raiseBagsLow before (lineEvent (fun sh => { sh with bags := bump32 sh.bags }) s1)

/-- The bag station's or cycle's result written: NOT_BAGGED brings reason BAG_MISS, and a MERGED record moves to BAGGED (R103, R104). -/
def Rec.bagDone (r : Rec) (x : BagResult) : Rec :=
  let r1 := if x = .notBagged then r.addReason .bagMiss else r
  { r1 with
    bagResult := some x
    state := if r.state = .merged then .bagged else r.state }

/-- How a cycle ends (R105). -/
inductive CycleEnd | confirmed | missed | halted
deriving DecidableEq, Repr

/-- The miss count after a cycle (R105). -/
def missesAfter (misses : Nat) : CycleEnd → Nat
  | .confirmed => 0
  | .missed => misses + 1
  | .halted => misses

/-- The bagger's next state after a cycle (R104, R105): DOWN at the miss limit, else EMPTY, else READY; a halted cycle never takes it DOWN. -/
def baggerAfter (e : CycleEnd) (misses limit supply : Nat) : BaggerState :=
  if e = .missed ∧ limit ≤ misses then .down else if supply = 0 then .empty else .ready

/-- The end of a bag cycle (R104, R105). The bagger cycle output, driven at each attempt, stays on through both and drops here (DESIGN CHOICE, log entry 22). -/
def endCycle (e : CycleEnd) (x : BagResult) (s : State) : State :=
  match s.bag.attempt with
  | none => s
  | some a =>
    let m := missesAfter s.bag.misses e
    let st := baggerAfter e m s.set.missLimit s.bag.supply
    let s1 := onRec a.loaf (·.bagDone x) s
    let s2 := s1.onBag fun b =>
      { b with state := st, misses := m, attempt := none, confirm := none, cycleOut := false }
    if st = .down then
      raise .baggerDown (leBytes 2 s2.bag.supply ++ [byteOf s2.bag.misses]) s2
    else s2

/-- The bag-open sensor ends the attempt in progress (R104). -/
def bagConfirmed (s : State) : State :=
  match s.bag.attempt with
  | none => s
  | some a => endCycle .confirmed (if a.number = 1 then .bagged else .baggedOnRetry) s

/-- The bag confirm timer ends the attempt in progress (R104). -/
def bagMissed (s : State) : State :=
  match s.bag.attempt with
  | none => s
  | some a =>
    if a.number = 1 ∧ 0 < s.bag.supply then beginAttempt a.loaf 2 s
    else endCycle .missed .notBagged s

/-- A record reaches the bag station (R103). -/
def bagStation (r : Rec) (s : State) : State :=
  match s.bag.state with
  | .ready => beginAttempt r.loaf 1 s
  | _ => onRec r.loaf (·.bagDone .notBagged) s

/-- A halt ends an attempt in progress at once (R104). -/
def bagAtHalted (s : State) : State := endCycle .halted .notBagged s

/-- BAG returns a DOWN bagger to service (R108). -/
def baggerCleared (s : State) : State :=
  if s.bag.state = .down ∧ 0 < s.bag.supply then
    s.onBag fun b => { b with state := .ready, misses := 0 }
  else s

/-- The bagger's state under a loaded supply (R107). -/
def baggerLoaded (st : BaggerState) (n : Nat) : BaggerState :=
  match st with
  | .empty => if 0 < n then .ready else .empty
  | .ready => if n = 0 then .empty else .ready
  | st => st

/-! ### The tyer (R110 to R129) -/

/-- CLIPS_LOW is raised when the supply has come below the threshold since it stood at `before` (R113). -/
def raiseClipsLow (before : Nat) (s : State) : State :=
  if s.set.clipsLow ≤ before ∧ s.tie.supply < s.set.clipsLow then
    raise .clipsLow (leBytes 2 s.tie.supply ++ leBytes 2 s.set.clipsLow) s
  else s

/-- The digit of the shift whose sequence is a tag; a record's shift is always found (R157; log entry 25). -/
def Tot.digitOf (t : Tot) (tag : Nat) : Nat :=
  match t.opened, t.closing with
  | some a, some b => if a.seq = tag then a.digit else if b.seq = tag then b.digit else 0
  | some a, none => if a.seq = tag then a.digit else 0
  | none, some b => if b.seq = tag then b.digit else 0
  | none, none => 0

/-- The true code of a stroke (R115, R116). -/
def State.strokeCode (s : State) (r : Rec) : List Byte :=
  let d := bestBefore s.pst.clock s.set.dayBoundary (s.profile r.slot).shelf
  codeText d.day d.month s.set.letter (s.tot.digitOf r.tag)

/-- The challenge counter after a stroke, and whether the stroke is a challenge stroke (R117). -/
def countStroke (interval count : Nat) : Nat × Bool :=
  if interval = 0 then (0, false)
  else if interval ≤ count + 1 then (0, true)
  else (count + 1, false)

/-- The burst window after a stroke, the oldest entries dropped beyond its length (R124, R110). -/
def joinBurst (len : Nat) (w : List BurstEntry) (loaf : Nat) : List BurstEntry :=
  let w1 := w ++ [⟨loaf, false⟩]
  w1.drop (w1.length - len)

/-- The tyer's state and owed mark after a stroke that leaves a supply (R113). -/
def tyerAfterStroke (supply : Nat) (st : TyerState) (owed : Bool) : TyerState × Bool :=
  if supply = 0 then
    match st with
    | .ready => (.empty, owed)
    | .reindexPending => (.empty, true)
    | st => (st, owed)
  else (st, owed)

/-- A record that the tie station has acted on (R112, R117). -/
def Rec.tied (r : Rec) (code : Option (List Byte)) (challenge : Bool) : Rec :=
  let r1 := if challenge then r.addReason .challenge else r
  { r1 with
    expected := code
    challenge := challenge
    state := .tied }

/-- A tie stroke (R112, R113, R117, R124). -/
def stroke (r : Rec) (s : State) : State :=
  let before := s.tie.supply
  let code := s.strokeCode r
  let cc := countStroke s.set.challengeInterval s.tie.challengeCount
  let ts := tyerAfterStroke (before - 1) s.tie.state s.tie.owed
  let s1 := onRec r.loaf (·.tied (some code) cc.2) s
  let s2 := s1.onTie fun t =>
    { t with
      supply := before - 1
      state := ts.1
      owed := ts.2
      challengeCount := cc.1
      burst := joinBurst s.set.burstWindow t.burst r.loaf
      tyerOut := .stroke
      printed := some (if cc.2 then challengeCode code else code) }
  raiseClipsLow before (lineEvent (fun sh => { sh with clips := bump32 sh.clips }) s2)

/-- The tyer ties in READY and REINDEX_PENDING (R111, R112). -/
def TyerState.ties : TyerState → Bool
  | .ready => true | .reindexPending => true | _ => false

/-- The bag results that a stroke follows (R112). -/
def bagTies : Option BagResult → Bool
  | some .bagged => true | some .baggedOnRetry => true | _ => false

/-- A record reaches the tie station (R112). -/
def tieStation (r : Rec) (s : State) : State :=
  if bagTies r.bagResult ∧ s.tie.state.ties then stroke r s
  else onRec r.loaf (fun r => { r with state := .tied }) s

/-- The verify position and the read window's end of a record (R39, R118). -/
def State.readEnd (s : State) (r : Rec) : Nat :=
  r.mergeLead.getD 0 + tuPos (s.set.dVerify + s.set.readWindow)

/-- A record reaches its verify station (R118, R119). -/
def verifyStation (r : Rec) (s : State) : State :=
  match r.expected with
  | some _ =>
    s.onTie fun t =>
      { t with
        openReads := t.openReads ++ [⟨t.nextTrigger, r.loaf, s.readEnd r⟩]
        nextTrigger := (t.nextTrigger + 1) % 256
        readerTrigger := some [0x54, byteOf t.nextTrigger] }
  | none =>
    onRec r.loaf (fun r =>
      if r.bagResult = some .notBagged then { r with state := .checked }
      else { r.addReason .noClip with read := some .noClip, state := .checked }) s

/-- The snapshot of TYER_REINDEX (R194). -/
def reindexSnapshot (s : State) : List Byte :=
  [byteOf s.tie.state.code, flagByte s.tie.owed, byteOf s.tie.burst.length,
    byteOf (s.tie.burst.filter (·.bad)).length]

/-- A burst is found (R125). -/
def burstFound (s : State) : State :=
  match s.tie.state with
  | .ready =>
    let s1 := s.onTie fun t => { t with state := .reindexPending }
    raise .tyerReindex (reindexSnapshot s1) s1
  | .empty =>
    if s.tie.owed then s
    else
      let s1 := s.onTie fun t => { t with owed := true }
      raise .tyerReindex (reindexSnapshot s1) s1
  | _ => s

/-- A bad read of a record without the challenge mark (R124): its entry is marked where it still stands, and the marks are counted. -/
def markBad (loaf : Nat) (s : State) : State :=
  if s.tie.burst.any (fun e => e.loaf == loaf) then
    let s1 := s.onTie fun t =>
      { t with burst := t.burst.map fun e => if e.loaf = loaf then { e with bad := true } else e }
    if s1.set.burstLimit ≤ (s1.tie.burst.filter (·.bad)).length then burstFound s1 else s1
  else s

/-- What a reader can answer (R118): eight characters, or the no-clip mark. -/
inductive Answered
  | text (chars : List Byte)
  | noClip
deriving DecidableEq, Repr

/-- The reader's answer form (R118): 0x52, the trigger number, and eight characters or eight zero bytes. -/
def parseAnswer (bs : List Byte) : Option (Nat × Answered) :=
  match bs with
  | start :: trig :: body =>
    if start = 0x52 ∧ body.length = 8 then
      if body.all (· == 0) then some (trig.toNat, .noClip)
      else if body.all (fun b => decide (0x20 ≤ b.toNat ∧ b.toNat ≤ 0x7E)) then
        some (trig.toNat, .text body)
      else none
    else none
  | _ => none

/-- TIE counts in its code-check counters (R123). -/
def onCounters (f : CodeCounters → CodeCounters) (s : State) : State :=
  s.onTie fun t => { t with counters := f t.counters }

/-- The read result and its reason, written into the record, which moves to CHECKED (R120, R121). -/
def Rec.readDone (r : Rec) (x : ReadResult) (reason : Option Reason) : Rec :=
  let r1 := match reason with
    | some y => r.addReason y
    | none => r
  { r1 with read := some x, state := if r.state = .tied then .checked else r.state }

/-- A read of a record without the challenge mark is resolved (R120). -/
def resolvePlain (r : Rec) (a : Option Answered) (s : State) : State :=
  let code := r.expected.getD []
  match a with
  | some (.text t) =>
    if t = code then
      onCounters (fun c => { c with reads := bump32 c.reads }) (onRec r.loaf (·.readDone .match none) s)
    else
      let s1 := onRec r.loaf (·.readDone (.mismatch t) (some .mismatch)) s
      let s2 := (onCounters (fun c =>
        { c with reads := bump32 c.reads, mismatches := satAdd 255 c.mismatches 1 }) s1).onTie
        fun x => { x with capture := some ⟨r.loaf, code, t⟩ }
      let s3 := raise .codeMismatch (leBytes 4 r.loaf ++ padTo 8 code ++ padTo 8 t ++
        [byteOf s2.tie.counters.mismatches]) s2
      markBad r.loaf s3
  | some .noClip =>
    onCounters (fun c => { c with reads := bump32 c.reads })
      (onRec r.loaf (·.readDone .noClip (some .noClip)) s)
  | none =>
    markBad r.loaf (onCounters (fun c => { c with noReads := bump32 c.noReads })
      (onRec r.loaf (·.readDone .noRead (some .noRead)) s))

/-- The reindex starts (R126): the motion is commanded and the timer started. -/
def startReindex (s : State) : State :=
  s.onTie fun t => { t with state := .reindex, reindex := some s.set.reindexMs, tyerOut := .reindex }

/-- A tyer in REINDEX_PENDING enters REINDEX when no record is MERGED or BAGGED and the line is not HALTED (R126). -/
def settleReindex (s : State) : State :=
  if s.tie.state = .reindexPending ∧ s.anyMergedOrBagged = false ∧ s.lc.state ≠ .halted then
    startReindex s
  else s

/-- A halt during REINDEX returns the tyer to REINDEX_PENDING (R126). -/
def tyerAtHalted (s : State) : State :=
  s.onTie fun t =>
    if t.state = .reindex then
      { t with state := .reindexPending, reindex := none, tyerOut := .none }
    else t

/-- The end of a reindex (R126). -/
def endReindex (s : State) : State :=
  s.onTie fun t =>
    { t with
      burst := []
      owed := false
      reindex := none
      tyerOut := .none
      state := if 0 < t.supply then .ready else .empty }

/-- The tyer's state and owed mark under a loaded supply (R114). -/
def tyerLoaded (st : TyerState) (owed : Bool) (n : Nat) : TyerState × Bool :=
  match st with
  | .empty => if 0 < n then (if owed then (.reindexPending, false) else (.ready, owed)) else (.empty, owed)
  | .ready => if n = 0 then (.empty, owed) else (.ready, owed)
  | .reindexPending => if n = 0 then (.empty, true) else (.reindexPending, owed)
  | .reindex => (.reindex, owed)

/-- The code-check counters at 0 and the capture absent (R123, R127, R128). -/
def resetCounters (s : State) : State :=
  s.onTie fun t => { t with counters := ⟨0, 0, 0, 0, 0⟩, capture := none }

/-- The cause of TYER_REINDEX (R111). -/
def Tie.reindexCause (t : Tie) : Bool :=
  decide (t.state = .reindexPending) || decide (t.state = .reindex) || t.owed

end Sys2Proof.Machine
end

