-- ==== Sys2Proof/Machine/LineControl.lean ====
section
/-! DEFINITION. Line Control (chapter 10): the line's entries, drain requests, the demand target; and lane faults, which can ask for a drain (R79 to R85). -/

namespace Sys2Proof.Machine

/-! ### Line states (R175) -/

/-- The snapshot of LINE_STATE (R194). -/
def lineSnapshot (left : LineState) (s : State) : List Byte :=
  [byteOf s.lc.state.code, byteOf left.code, byteOf s.lc.cause.code] ++ leBytes 2 s.lc.setSpeed ++
    leBytes 2 s.lc.demand ++ leBytes 2 s.lc.ceiling ++ posBytes s.pos

/-- A change of line state raises LINE_STATE (R175). -/
def setLine (st : LineState) (s : State) : State :=
  let left := s.lc.state
  let s1 := s.onLc fun lc => { lc with state := st }
  raise .lineState (lineSnapshot left s1) s1

/-- The silence timer at a full timeout, stopped when supervision is off (R184). -/
def State.fullSilence (s : State) : Timer :=
  if s.set.linkTimeoutS = 0 then none else some (1000 * s.set.linkTimeoutS)

/-- Entry to READY (R175, R180): the reference goes IDLE and HD stops blades and lanes (R84). -/
def enterReady (cause : StopCause) (s : State) : State :=
  headsAtReady (enterIdle (setLine .ready (s.onLc fun lc =>
    { lc with cause := cause, startLimit := none, silence := none })))

/-- The merge pushers at rest (R100). -/
def restPushers (s : State) : State :=
  s.onArb fun a => { a with pushers := Vector.replicate 4 false }

/-- Entry to HALTED (R181): the demand is 0 at once and each block takes the halt. -/
def enterHalted (cause : StopCause) (s : State) : State :=
  let s1 := setLine .halted (s.onLc fun lc =>
    { lc with cause := cause, demand := 0, target := 0, rampCarry := 0, startLimit := none, silence := none })
  tyerAtHalted (abortCycle (restPushers (bagAtHalted (headsAtHalted (enterIdle s1)))))

/-- Entry to DRAINING (R178, R179). -/
def enterDraining (cause : StopCause) (s : State) : State :=
  setLine .draining (s.onLc fun lc =>
    { lc with cause := cause, startLimit := none, silence := none })

/-- Entry to RUNNING (R177): the start limit timer stops and the silence timer starts (R184). -/
def enterRunning (s : State) : State :=
  setLine .running (s.onLc fun lc =>
    { lc with startLimit := none, silence := s.fullSilence })

/-- Entry to STARTING from READY or HALTED at an accepted START (R176). -/
def enterStarting (s : State) : State :=
  let origin : Origin := if s.lc.state = .halted then .halted else .ready
  let s1 := if origin = .halted then markSuspect s else s
  headsAtStarting (enterAcquire (setLine .starting (s1.onLc fun lc =>
    { lc with origin := origin, cause := .none, startLimit := some (1000 * s.set.startLimitS) })))

/-- The states in which the part asks the conveyor to move (R181). -/
def LineState.moving : LineState → Bool
  | .starting => true | .running => true | .draining => true | _ => false

/-- The effect of HALT, of the E-stop and of the position limit on a moving line (R181). In READY they change nothing, so a purge, a bag attempt and a reindex still going on there go on (DESIGN CHOICE, log entry 36). -/
def haltLine (cause : StopCause) (s : State) : State :=
  if s.lc.state.moving then enterHalted cause s else s

/-- A drain request with its cause (R179). -/
def requestDrain (cause : StopCause) (s : State) : State :=
  match s.lc.state with
  | .running => enterDraining cause s
  | .starting => if s.tableCount = 0 then enterReady cause s else enterDraining cause s
  | _ => s

/-- The demand target (R183). -/
def State.demandTarget (s : State) : Nat :=
  match s.lc.state with
  | .ready => 0
  | .halted => 0
  | .starting => s.set.crawl
  | _ =>
    match s.sru.state with
    | .track => min s.lc.setSpeed s.lc.ceiling
    | .holdover => min (s.lc.held.getD 0) (min s.lc.setSpeed s.lc.ceiling)
    | .idle => 0
    | _ => s.set.crawl

/-! ### Lane faults (R79, R80, R83) -/

/-- With narrowing off, a lane that goes out of service asks for a drain (R80). -/
def askNarrowing (s : State) : State :=
  if s.set.narrowing then s else requestDrain .laneFault s

/-- A lane goes to a state at a fault, LANE_CHANGE is raised, and narrowing applies (R79, R80). -/
def faultTo (st : LaneState) (l : Lane) (s : State) : State :=
  askNarrowing (raiseLane l (onLane l (fun c => { c with state := st }) s))

/-- The state of a lane after a failed trial (R83). -/
def afterTrial (limit fails : Nat) : LaneState :=
  if limit ≠ 0 ∧ limit ≤ fails then .parked else .down

/-- A lane fault (R79). `spinning` says that it is the fault BLADE of a blade in SPINUP. -/
def laneFault (fault : LaneFault) (spinning : Bool) (l : Lane) (s : State) : State :=
  let c := s.lane l
  let s1 := onLane l (fun c => { c with lastFault := some (fault, s.pos) }) s
  match c.state with
  | .running => faultTo .down l s1
  | .trial =>
    let fails := satAdd 15 c.trialFails 1
    faultTo (afterTrial s.set.trialLimit fails) l
      (onLane l (fun c => { c with trialFails := fails, trialList := [], trialLeft := 0, trialRan := false }) s1)
  | .down => raiseLane l (onLane l (fun c => { c with retrial := none }) s1)
  | .parked => raiseLane l s1
  | .idle =>
    if spinning ∧ c.target ∧ s.lc.state.spinsUp then faultTo .down l s1 else raiseLane l s1

/-- Whether a lane holds the line: RUNNING, TRIAL or DOWN (R85). -/
def LaneCtl.inService (c : LaneCtl) : Bool :=
  match c.state with
  | .running => true | .trial => true | .down => true | _ => false

/-- No configured lane is RUNNING, TRIAL or DOWN (R85). -/
def State.noLanes (s : State) : Bool :=
  lanes.all fun l => !(s.isConfigured l && (s.lane l).inService)

/-- Whether any lane's state differs between two states. -/
def lanesChanged (before s : State) : Bool :=
  lanes.any fun l => decide ((before.lane l).state ≠ (s.lane l).state)

/-- The check of R85, made once for the lanes that an event has changed (log entry 19). -/
def checkNoLanes (before s : State) : State :=
  if s.lc.state = .running ∧ lanesChanged before s ∧ s.noLanes then requestDrain .noLanes s else s

/-! ### Retirements and the trial list -/

/-- A retirement of a record that may stand on a trial list (R49, R82). -/
def retire (r : Rec) (d : Disposition) (s : State) : State :=
  offTrialList r.lane r.loaf (retireRec r d s)

/-- The causes of LOST_LOAF (R194). -/
inductive LostCause | deadline | window | retraction
deriving DecidableEq, Repr

def LostCause.code : LostCause → Nat
  | .deadline => 1 | .window => 2 | .retraction => 3

/-- A record retires LOST, and LOST_LOAF is raised (R49). -/
def retireLost (r : Rec) (cause : LostCause) (s : State) : State :=
  raise .lostLoaf (leBytes 4 r.loaf ++ byteOf r.lane.val :: leBytes 2 r.tag ++ [byteOf cause.code])
    (retire r .lost s)

/-- The eyes of PHANTOM_LOAF (R194). -/
inductive Eye
  | pocket (lane : Lane)
  | release
  | exit
  | chute
deriving DecidableEq, Repr

def Eye.code : Eye → Nat
  | .pocket l => l.val | .release => 4 | .exit => 5 | .chute => 6

/-- A phantom: PHANTOM_LOAF is raised and the phantom counted (R41, R46, R47, R100). -/
def phantom (eye : Eye) (s : State) : State :=
  countPhantom (raise .phantomLoaf (byteOf eye.code :: posBytes s.pos) s)

/-! ### A read of a challenge record (R121, R122) -/

/-- The reader has reported a code that is not on the bag (R122). -/
def blindRead (r : Rec) (s : State) : State :=
  let code := r.expected.getD []
  let s1 := s.onTie fun t => { t with blind := true }
  requestDrain .verifierBlind
    (raise .verifierBlind (leBytes 4 r.loaf ++ padTo 8 code ++ padTo 8 (challengeCode code)) s1)

/-- A read of a record with the challenge mark is resolved against both codes (R121). -/
def resolveChallenge (r : Rec) (a : Option Answered) (s : State) : State :=
  let code := r.expected.getD []
  match a with
  | some (.text t) =>
    let s0 := onCounters (fun c => { c with reads := bump32 c.reads }) s
    if t = challengeCode code then
      lineEvent (fun sh => { sh with caught := bump32 sh.caught })
        (onCounters (fun c => { c with caught := bump32 c.caught })
          (onRec r.loaf (·.readDone (.mismatch t) none) s0))
    else if t = code then blindRead r (onRec r.loaf (·.readDone .match none) s0)
    else onRec r.loaf (·.readDone (.mismatch t) none) s0
  | some .noClip =>
    onCounters (fun c => { c with reads := bump32 c.reads })
      (onRec r.loaf (·.readDone .noClip (some .noClip)) s)
  | none =>
    onCounters (fun c => { c with noReads := bump32 c.noReads })
      (onRec r.loaf (·.readDone .noRead (some .noRead)) s)

/-- An open read is resolved with an answer, or with none at its window's end, and leaves the open reads (R118). -/
def resolveRead (o : OpenRead) (a : Option Answered) (s : State) : State :=
  let s1 := s.onTie fun t => { t with openReads := t.openReads.filter fun x => x.trigger != o.trigger }
  match s.find o.loaf with
  | some r => if r.challenge then resolveChallenge r a s1 else resolvePlain r a s1
  | none => s1

end Sys2Proof.Machine
end

