-- ==== Sys2Proof/Machine/Arbiter.lean ====
section
/-! DEFINITION. The Merge Arbiter (chapter 5) and the settling of an event: what the blocks do at the event that makes their conditions true. -/

namespace Sys2Proof.Machine

/-! ### Gates (R33, R34) -/

/-- The eight conditions of R33 for a lane, in their order. -/
def State.gateConditions (s : State) (l : Lane) : List Bool :=
  [decide (s.lc.state = .running),
    decide (s.sru.state = .track),
    (s.lane l).admitting,
    s.tot.opened.isSome,
    decide (s.preMerge l < s.set.laneWindow),
    decide (s.reserve < s.free),
    !s.crm.gapHeld l,
    decide ((s.head l).blade = .running)]

/-- A set of conditions that fail, bit c - 1 for condition c (R198). -/
def failing : List Bool → Nat
  | [] => 0
  | c :: cs => (if c then 0 else 1) + 2 * failing cs

/-- The conditions holding a lane's gate closed (R33). -/
def State.closedBy (s : State) (l : Lane) : BitVec 8 := BitVec.ofNat 8 (failing (s.gateConditions l))

/-- A gate is open while no condition holds it closed (R33). -/
def State.gateOpen (s : State) (l : Lane) : Bool := s.trk.closedBy[l] == 0

/-- The reserve alone holds a gate closed when conditions 1 to 5, 7 and 8 hold and condition 6 fails (R34). -/
def State.reserveAlone (s : State) (l : Lane) : Bool := s.trk.closedBy[l] == 0x20

/-- TRK evaluates every gate and the reserve-held state, raising TABLE_RESERVE when it becomes set (R33, R34). It does so once, at the end of an event, so that a reserve hold which comes and passes inside the event raises nothing (DESIGN CHOICE, log entry 41). -/
def evaluateGates (s : State) : State :=
  let s1 := s.onTrk fun t => { t with closedBy := Vector.ofFn fun l : Fin 4 => s.closedBy l }
  let held := lanes.any fun l => s1.reserveAlone l
  let s2 := s1.onTrk fun t => { t with reserveHeld := held }
  if held ∧ s.trk.reserveHeld = false then
    raise .tableReserve [byteOf s2.free, byteOf s2.reserve, byteOf (laneSet s2.reserveAlone)] s2
  else s2

/-! ### The withhold set (R91) -/

/-- The members that their holders hold (R91, R96, R102, R111, R137). -/
def State.withholdDue (s : State) : Withhold where
  changeover := decide (s.arb.changeover ≠ .none)
  bagger := decide (s.bag.state = .down ∨ s.bag.state = .empty)
  tyer := decide (s.tie.state ≠ .ready)
  purge := decide (s.crm.queue.head?.map (·.target) = some .belt)
  line := decide (s.lc.state ≠ .running ∧ s.lc.state ≠ .draining)

/-- Each holder takes and releases its member. -/
def refreshWithhold (s : State) : State :=
  let w := s.withholdDue
  s.onArb fun a => { a with withhold := w }

/-- No member is held. -/
def Withhold.isEmpty (w : Withhold) : Bool :=
  !(w.changeover || w.bagger || w.tyer || w.purge || w.line)

/-! ### Candidates and the choice (R92 to R95) -/

/-- A lane's candidate: the head of its queue, QUEUED with the in-pocket flag (R92). -/
def State.candidate (s : State) (l : Lane) : Option Rec :=
  match s.queue l with
  | r :: _ => if r.state = .queued ∧ r.pocket.isSome then some r else none
  | [] => none

/-- The distance of a lane after the rotation pointer, 0 following 3 (R94). -/
def turnsAfter (pointer l : Lane) : Nat := (l.val + 3 - pointer.val) % 4

/-- Whether a candidate goes before another: the earlier pocket arrival, then the rotation (R94). -/
def goesBefore (pointer : Lane) (a b : Rec) : Bool :=
  let pa := a.pocket.getD 0
  let pb := b.pocket.getD 0
  decide (pa < pb) || (decide (pa = pb) && decide (turnsAfter pointer a.lane < turnsAfter pointer b.lane))

/-- The first of some candidates in the order of R94. -/
def earliest (pointer : Lane) : List Rec → Option Rec
  | [] => none
  | r :: rs =>
    match earliest pointer rs with
    | none => some r
    | some b => if goesBefore pointer b r then some b else some r

/-- The candidates of all lanes. -/
def State.candidates (s : State) : List Rec := lanes.filterMap s.candidate

/-- The choice of R94: the first group that holds a candidate, and its earliest. -/
def State.choice (s : State) : Option Rec :=
  let cs := s.candidates
  let one := cs.filter fun r => r.bagClass != s.arb.bagClass && decide (s.set.bypassLimit ≤ s.arb.bypass[r.lane])
  let two := cs.filter fun r => r.bagClass == s.arb.bagClass
  earliest s.arb.rotation (if !one.isEmpty then one else if !two.isEmpty then two else cs)

/-- The spacing point (R93), none when there is no spacing reference. -/
def State.spacingPoint (s : State) : Option Nat :=
  s.arb.spacing.map fun sp => sp.lead + tuPos (sp.length + s.set.minGap)

/-- The bypass counts after a grant (R95). -/
def State.bypassAfter (s : State) (granted : Rec) : PerLane Nat :=
  Vector.ofFn fun l : Fin 4 =>
    if l = granted.lane then 0
    else match s.candidate l with
      | some r => if r.bagClass = granted.bagClass then s.arb.bypass[l] else satAdd 32 s.arb.bypass[l] 1
      | none => s.arb.bypass[l]

/-- The sequence after a 32-bit number that is followed by 1 (R26, R32). -/
def nextNumber (n : Nat) : Nat := if n = Config.count32 then 1 else n + 1

/-- A grant (R97). -/
def grant (r : Rec) (s : State) : State :=
  let merged := { r with
    mergeLead := some (s.pos + tuPos s.set.mergeTravel)
    seq := some s.trk.nextSeq
    state := .merged }
  let s1 := s.onArb fun a =>
    { a with
      flight := some ⟨r.loaf, r.lane⟩
      pushers := putAt a.pushers r.lane true
      rotation := r.lane
      bypass := s.bypassAfter r }
  (onPost (· ++ [merged]) (onQueue r.lane List.tail s1)).onTrk fun t =>
    { t with nextSeq := nextNumber t.nextSeq }

/-- ARB evaluates a grant (R93), granting the choice or beginning a changeover (R96). -/
def settleGrant (h : Nat) (s : State) : State :=
  if s.arb.withhold.isEmpty ∧ s.arb.flight = none ∧ reachedBy h s.spacingPoint then
    match s.choice with
    | some r =>
      if r.bagClass = s.arb.bagClass then grant r s
      else s.onArb fun a => { a with changeover := .waiting r.bagClass }
    | none => s
  else s

/-- A waiting changeover starts its timer at the event that leaves no record MERGED (R96), a HALT that ends the bag attempt of the last MERGED record among them (DESIGN CHOICE, log entry 35). -/
def settleChangeover (s : State) : State :=
  match s.arb.changeover with
  | .waiting c =>
    if s.anyMerged then s
    else s.onArb fun a => { a with changeover := .running c s.set.changeoverMs }
  | _ => s

/-! ### Settling -/

/-- PLN hands LC a changed ceiling (R65), and LC computes the demand target again (R183); a new target drops the ramp's carry (log entry 6). -/
def refreshTarget (s : State) : State :=
  let s1 := s.onLc fun lc => { lc with ceiling := s.lineCeiling }
  s1.onLc fun lc =>
    { lc with
      target := s1.demandTarget
      rampCarry := if lc.target = s1.demandTarget then lc.rampCarry else 0 }

/-- HD renews every blade's rate demand (R71). -/
def refreshBlades (s : State) : State :=
  s.onHd fun hd =>
    { hd with heads := Vector.ofFn fun l : Fin 4 => { hd.heads[l] with demand := s.bladeDemand l } }

/-- The values that follow from the rest of the state: ceiling, demand target, pacer and estimate, blade demands, withhold set. -/
def refresh (s : State) : State := refreshWithhold (refreshBlades (refreshPacer (refreshTarget s)))

/-- STARTING ends in RUNNING when the reference is TRACK and at least one lane's blade is RUNNING (R177), the blades that R76 stops at the same event being stopped already (log entry 21). -/
def settleStart (s : State) : State :=
  if s.lc.state = .starting ∧ s.sru.state = .track ∧
      (lanes.any fun l => decide ((s.head l).blade = .running)) then enterRunning s
  else s

/-- A DRAINING line enters READY when the table is empty, its stop cause kept (R180). -/
def settleDrain (s : State) : State :=
  if s.lc.state = .draining ∧ s.tableCount = 0 then enterReady s.lc.cause s else s

/-- What follows an event at once, in every block whose conditions it made true: idle blades stop (R76), the check of
R85, STARTING becomes RUNNING (R177), a drain ends (R180), a reindex (R126), a changeover (R96) and a purge (R138,
R139) start (log entry 48), retrial timers start and stop (R81), the derived values follow, ARB evaluates a grant (R93), and the gates and the reserve-held state are evaluated once (log
entry 41). An idle blade stops before STARTING is tested, so a blade that qualifies for a DOWN or PARKED lane not busy does not end STARTING (log entry 21).
`before` is the state before the event, `h` the position up to which events have been taken. -/
def settle (before : State) (h : Nat) (s : State) : State :=
  let s1 := forLanes stopIdleBlade (settleDrain (settleStart (checkNoLanes before (forLanes stopIdleBlade s))))
  let s2 := settlePurge h (settleChangeover (settleReindex s1))
  let s3 := settleChangeover (settleGrant h (refresh (forLanes settleRetrial s2)))
  evaluateGates (refresh s3)

end Sys2Proof.Machine
end

