-- ==== Sys2Proof/Machine/Stations.lean ====
section
/-! DEFINITION. The events of the line position: each record's next station (R39), and an advance that takes every value reached in its order (R8, R9). -/

namespace Sys2Proof.Machine

/-- The events that the position can bring about (R39, R93, R139). -/
inductive Station
  | blockedEye (r : Rec)
  | cut (r : Rec)
  | clearOfHead (r : Rec)
  | pocketDeadline (r : Rec)
  | releaseEnd (r : Rec)
  | bag (r : Rec)
  | tie (r : Rec)
  | verify (r : Rec)
  | readEnd (o : OpenRead)
  | decision (r : Rec)
  | windowPassed (r : Rec)
  | wake
deriving DecidableEq, Repr

/-- A value that is passed when the position becomes greater than it (R38): one unit beyond it is reached. -/
def passing (v : Nat) : Nat := v + 1

/-- The line position of a lane record's cut i (R61). -/
def State.cutPosition (s : State) (r : Rec) (p : Plan) (i : Nat) : Nat :=
  r.lead + tuPos (s.set.dHead[r.lane] + cutOffset (s.profile r.slot) (r.length.getD 0) p.k i)

/-- The position at which a record not sliced is clear of its head (R39). -/
def State.clearPosition (s : State) (r : Rec) : Nat :=
  r.lead + tuPos (s.set.dHead[r.lane] + r.length.getD 0)

/-- A record's next station in its lane, with its value (R38, R39, R42, R61, R74). -/
def State.laneStation (s : State) (r : Rec) : Option (Nat × Station) :=
  match r.state with
  | .measuring => some (passing (r.lead + tuPos (2 * (s.profile r.slot).lmax)), .blockedEye r)
  | .queued =>
    if r.pocket.isSome then none
    else some (passing (r.lead + tuPos (s.set.dPocket[r.lane] + s.set.tolerance)), .pocketDeadline r)
  | .planned =>
    match r.plan with
    | some p => some (s.cutPosition r p r.cutsDone, .cut r)
    | none => some (s.clearPosition r, .clearOfHead r)
  | .slicing =>
    match r.plan, r.slicingEnded with
    | some p, false => some (s.cutPosition r p r.cutsDone, .cut r)
    | _, _ => some (s.clearPosition r, .clearOfHead r)
  | _ => none

/-- The end of the last window in which a DECIDED record can be matched (R48). -/
def State.lastWindow (s : State) (r : Rec) : Nat :=
  let d := match r.decision with
    | some .divert => max s.set.dExit s.set.dChute
    | _ => s.set.dExit
  r.mergeLead.getD 0 + tuPos (d + s.set.tolerance)

/-- The end of a grant's release window (R39). -/
def State.releaseEnd (s : State) (r : Rec) : Nat := r.mergeLead.getD 0 + tuPos s.set.releaseWindow

/-- A record's next station past the merge, with its value (R39). A record whose bag cycle or read is in progress has that station behind it. -/
def State.postStation (s : State) (r : Rec) : Option (Nat × Station) :=
  let at_ := fun d => r.mergeLead.getD 0 + tuPos d
  let decide_ := (at_ (s.set.dReject - s.set.gateLead), Station.decision r)
  match r.state with
  | .merged =>
    if s.arb.flight.any fun g => g.loaf == r.loaf then some (passing (s.releaseEnd r), .releaseEnd r)
    else if s.bag.attempt.any fun a => a.loaf == r.loaf then some (at_ s.set.dTie, .tie r)
    else some (at_ s.set.dBag, .bag r)
  | .bagged => some (at_ s.set.dTie, .tie r)
  | .tied =>
    match s.tie.openReads.find? fun o => o.loaf == r.loaf with
    | some o => some (passing o.windowEnd, .readEnd o)
    | none => some (at_ s.set.dVerify, .verify r)
  | .decided => some (passing (s.lastWindow r), .windowPassed r)
  | _ => some decide_

/-- The points at which ARB or CRM looks again: the spacing point (R93) and the clearance point (R139), where they lie beyond `h`. -/
def State.wakePoints (s : State) (h : Nat) : List (Nat × Station) :=
  [s.spacingPoint, s.clearancePoint].filterMap fun p =>
    p.bind fun v => if h < v then some (v, .wake) else none

/-- Every event still to come, with its value: the post-merge queue first, then lanes 0 to 3, each from head to tail, then the wake points; events of equal value are taken in this order (log entry 8). -/
def State.stations (s : State) (h : Nat) : List (Nat × Station) :=
  s.trk.post.filterMap s.postStation ++
    (lanes.map fun l => (s.queue l).filterMap s.laneStation).flatten ++ s.wakePoints h

/-- The first of the events of least value. -/
def firstStation : List (Nat × Station) → Option (Nat × Station)
  | [] => none
  | e :: es =>
    match firstStation es with
    | none => some e
    | some b => if b.1 < e.1 then some b else some e

/-! ### What each station does -/

/-- A record enters QUEUED and leaves its lane's trial list (R74, R82). Where its pocket deadline has then passed already, the trial that ends with it ends first, and POCKET_LOST finds the lane RUNNING (DESIGN CHOICE, log entry 42). -/
def toQueued (r : Rec) (s : State) : State :=
  offTrialList r.lane r.loaf (onRec r.loaf (fun r => { r with state := .queued }) s)

/-- The blocked-eye limit (R38). -/
def takeBlockedEye (r : Rec) (s : State) : State :=
  laneFault .eyeBlocked false r.lane
    (onRec r.loaf (fun r =>
      { r.addReason .long with
        length := some (2 * (s.profile r.slot).lmax)
        cls := some .long
        plan := none
        state := .planned }) s)

/-- A cut (R74): the cut is counted; cut 0 brings SLICING; cut k ends the slicing, and the record is QUEUED. -/
def makeCut (r : Rec) (k : Nat) (s : State) : State :=
  let r1 := { r with cutsDone := r.cutsDone + 1, state := .slicing }
  let s1 := onRec r.loaf (fun r => { r with cutsDone := r.cutsDone + 1, state := .slicing }) s
  if k ≤ r.cutsDone then
    toQueued r (endSlicing r1 (onRec r.loaf (fun r => { r with slicingEnded := true }) s1))
  else s1

/-- A missed cut (R75). -/
def missCut (r : Rec) (s : State) : State :=
  match r.state with
  | .planned => onRec r.loaf Rec.withdraw s
  | _ => endSlicing r (onRec r.loaf (fun r => { r.addReason .blade with slicingEnded := true }) s)

/-- A cut position is reached (R74, R75). -/
def takeCut (r : Rec) (s : State) : State :=
  match r.plan with
  | some p => if (s.head r.lane).blade = .running then makeCut r p.k s else missCut r s
  | none => s

/-- A pocket deadline is passed (R42). -/
def takeDeadline (r : Rec) (s : State) : State :=
  laneFault .pocketLost false r.lane (retireLost r .deadline s)

/-- The grant in flight ends and its pusher returns to rest (R97). -/
def endFlight (l : Lane) (s : State) : State :=
  s.onArb fun a => { a with flight := none, pushers := putAt a.pushers l false }

/-- A retraction (R99, R32). -/
def retract (r : Rec) (s : State) : State :=
  let r1 := { r with retries := r.retries + 1 }
  if 3 ≤ r1.retries then
    laneFault .pocketLost false r.lane (retireLost r1 .retraction (endFlight r.lane s))
  else
    let back := { r1 with mergeLead := none, seq := none, state := .queued }
    onQueue r.lane (back :: ·) (onPost (List.filter fun x => x.loaf != r.loaf) (endFlight r.lane s))

/-- The decision point (R43, R44). -/
def takeDecision (r : Rec) (s : State) : State :=
  let r1 := if r.suspect ∧ r.reasons = [] then { r with reasons := [Reason.suspect] } else r
  let d : Decision := if r1.reasons = [] then .pass else .divert
  (onRec r.loaf (fun x => { x with reasons := r1.reasons, decision := some d, state := .decided }) s).onTrk
    fun t => { t with rejectGate := d }

/-- One event of the position. -/
def takeStation (e : Station) (s : State) : State :=
  match e with
  | .blockedEye r => takeBlockedEye r s
  | .cut r => takeCut r s
  | .clearOfHead r => toQueued r s
  | .pocketDeadline r => takeDeadline r s
  | .releaseEnd r => retract r s
  | .bag r => bagStation r s
  | .tie r => tieStation r s
  | .verify r => verifyStation r s
  | .readEnd o => resolveRead o none s
  | .decision r => takeDecision r s
  | .windowPassed r => retireLost r .window s
  | .wake => s

/-! ### An advance (R8, R9) -/

/-- More events than an advance of a full table can bring: 96 records of at most 61 cuts, 12 stations and 3 grants each, with two wake points a grant. -/
def stationFuel : Nat := 10000

/-- Take every event reached up to the position, in the order of the values; none while the reference is IDLE (R8). -/
def takeReached : Nat → Nat → State → State
  | 0, _, s => s
  | fuel + 1, h, s =>
    if s.sru.state = .idle then s
    else match firstStation (s.stations h) with
      | some (v, e) =>
        if v ≤ s.pos then
          takeReached fuel (max h v) (settle s (max h v) (takeStation e s))
        else s
      | none => s

/-- An advance of the position by a distance (R8): the position takes its new value, the greatest value being the
last (R9), and the values reached are taken in order. The advance that brings it to the greatest value asks LC to halt the line. -/
def advance (d : Nat) (s : State) : State :=
  let p0 := s.pos
  let p1 := min Config.posMax (p0 + d)
  if s.sru.state = .idle ∨ p1 ≤ p0 then s
  else
    let s1 := takeReached stationFuel p0 (s.onSru fun x => { x with pos := p1 })
    if p1 = Config.posMax then settle s1 p1 (haltLine .positionLimit s1) else s1

end Sys2Proof.Machine
end

