-- ==== Sys2Proof/Machine/Eyes.lean ====
section
/-! DEFINITION. The meanings of the eyes' edges and of the other inputs (chapters 2, 5, 6, 7, 10). -/

namespace Sys2Proof.Machine

/-- The record of an admission (R27, R35). -/
def State.newRecord (s : State) (l : Lane) (tag : Nat) : Rec :=
  let slot := (s.pst.assign[l]).getD 0
  { loaf := s.trk.nextLoaf, lane := l, slot := slot, tag := tag
    bagClass := (s.profile slot).bagClass, lead := s.pos
    length := none, cls := none, plan := none, cutsDone := 0, slicingEnded := false
    pocket := none, retries := 0, mergeLead := none, seq := none, bagResult := none
    expected := none, challenge := false, read := none, reasons := [], suspect := false
    late := false, decision := none, state := .measuring }

/-- HD counts an admission against a TRIAL lane's trial admissions (R82). -/
def countTrial (l : Lane) (loaf : Nat) (s : State) : State :=
  if (s.lane l).state = .trial then
    onLane l (fun c => { c with trialLeft := c.trialLeft - 1, trialList := c.trialList ++ [loaf] }) s
  else s

/-- An admission (R35, R154, R163). -/
def admitLoaf (l : Lane) (tag : Nat) (s : State) : State :=
  let r := s.newRecord l tag
  let s1 := (onQueue l (· ++ [r]) s).onTrk fun t => { t with nextLoaf := nextNumber t.nextLoaf }
  let s2 := s1.onTot fun t => { t with opened := t.opened.map fun sh => sh.countAdmission l r.slot }
  countTrial l r.loaf (s2.onPst fun p => { p with refs := modAt p.refs r.slot (· + 1) })

/-- An untracked edge (R36). -/
def untracked (l : Lane) (s : State) : State :=
  laneFault .trackOverrun false l
    (raise .trackOverrun (byteOf l.val :: posBytes s.pos ++ [byteOf s.free]) s)

/-- INFEED_LEADING_EDGE (R35, R36); an unconfigured lane's edges are not taken (R69). -/
def execInfeedLeadingEdge (l : Lane) (s : State) : Host.Outcome State Fault Refusal :=
  whenPowered s fun s =>
    if s.isConfigured l then
      let s1 := match s.tot.opened with
        | some sh => if s.gateOpen l ∧ 0 < s.free then admitLoaf l sh.seq s else untracked l s
        | none => untracked l s
      settle s s1.pos s1
    else s

/-- The length of a loaf at its trailing edge, saturating (R37). -/
def measured (pos lead : Nat) : Nat := min Config.lengthMax (wholeTu (pos - lead))

/-- INFEED_TRAILING_EDGE (R37): the lane's record in MEASURING is measured and handed to PLN (R55 to R60). -/
def execInfeedTrailingEdge (l : Lane) (s : State) : Host.Outcome State Fault Refusal :=
  whenPowered s fun s =>
    if s.isConfigured l then
      match (s.queue l).find? fun r => r.state == .measuring with
      | some r =>
        let s1 := onRec r.loaf (fun r =>
          planRecord (s.profile r.slot) s.set.rmax[l] s.sru.estimate
            { r with length := some (measured s.pos r.lead) }) s
        settle s s1.pos s1
      | none => s
    else s

/-- POCKET_ARRIVAL (R41). -/
def execPocketArrival (l : Lane) (s : State) : Host.Outcome State Fault Refusal :=
  whenPowered s fun s =>
    if s.isConfigured l then
      let s1 := match (s.queue l).find? fun r => r.state == .queued && r.pocket.isNone with
        | some r => onRec r.loaf (fun r => { r with pocket := some s.pos }) s
        | none => laneFault .pocketPhantom false l (phantom (.pocket l) s)
      settle s s1.pos s1
    else s

/-- A confirmation (R98): the spacing reference is set and the grant in flight ends. -/
def confirmGrant (g : Grant) (r : Rec) (s : State) : State :=
  (endFlight g.lane s).onArb fun a =>
    { a with spacing := some ⟨r.mergeLead.getD 0, r.length.getD 0⟩ }

/-- MERGE_RELEASE_EDGE (R98, R100). -/
def execMergeReleaseEdge (s : State) : Host.Outcome State Fault Refusal :=
  whenPowered s fun s =>
    let s1 := match s.arb.flight with
      | some g =>
        match s.find g.loaf with
        | some r => if s.pos ≤ s.releaseEnd r then confirmGrant g r s else phantom .release s
        | none => phantom .release s
      | none => phantom .release s
    settle s s1.pos s1

/-- Whether the window around a station at distance `d` contains the position, both ends included (R39). -/
def State.inWindow (s : State) (d : Nat) (r : Rec) : Bool :=
  let c := r.mergeLead.getD 0 + tuPos d
  decide (c ≤ s.pos + tuPos s.set.tolerance ∧ s.pos ≤ c + tuPos s.set.tolerance)

/-- The oldest DECIDED record with a decision whose window at `d` contains the position (R46, R47). -/
def State.oldestIn (s : State) (x : Decision) (d : Nat) : Option Rec :=
  s.trk.post.find? fun r => r.state == .decided && r.decision == some x && s.inWindow d r

/-- ESCAPE is raised for a record (R46, R194). -/
def raiseEscape (r : Rec) (s : State) : State :=
  raise .escape (leBytes 4 r.loaf ++ [byteOf (codeOrNone Decision.code r.decision), flagByte r.late,
    byteOf (codeOrNone Reason.code r.reasons.head?)]) s

/-- A divert fail is counted in the shift that stands when the event is taken (R46, R156). -/
def countDivertFail (s : State) : State :=
  lineEvent (fun sh => { sh with divertFails := bump32 sh.divertFails }) s

/-- A DIVERT record matched at the exit eye (R46): the divert fail is counted before the retirement can close a CLOSING shift (R156), the record retires ESCAPE, and ESCAPE and DIVERT_FAIL are raised. -/
def divertFail (r : Rec) (s : State) : State :=
  raise .divertFail (leBytes 4 r.loaf ++ posBytes s.pos)
    (raiseEscape r (retire r .escape (countDivertFail s)))

/-- EXIT_ARRIVAL (R46, R49). It matches and retires in every line state, HALTED too, though R181 says that no record retires while the position holds (DESIGN CHOICE, log entry 44). -/
def execExitArrival (s : State) : Host.Outcome State Fault Refusal :=
  whenPowered s fun s =>
    let s1 := match s.oldestIn .pass s.set.dExit with
      | some r => if r.late then raiseEscape r (retire r .escape s) else retire r .good s
      | none =>
        match s.oldestIn .divert s.set.dExit with
        | some r => divertFail r s
        | none => phantom .exit s
    settle s s1.pos s1

/-- CHUTE_ARRIVAL (R47, R49). It matches and retires in every line state, HALTED too, though R181 says that no record retires while the position holds (DESIGN CHOICE, log entry 44). -/
def execChuteArrival (s : State) : Host.Outcome State Fault Refusal :=
  whenPowered s fun s =>
    let s1 := match s.oldestIn .divert s.set.dChute with
      | some r => retire r (if r.challenge then .challenge else .rejected) s
      | none => phantom .chute s
    settle s s1.pos s1

/-- BAG_OPEN_SIGNAL (R104). -/
def execBagOpenSignal (s : State) : Host.Outcome State Fault Refusal :=
  whenPowered s fun s => settle s s.pos (bagConfirmed s)

/-- ESTOP_ASSERTED (R181). -/
def execEstopAsserted (s : State) : Host.Outcome State Fault Refusal :=
  whenPowered s fun s =>
    let s1 := haltLine .estop (s.onLc fun lc => { lc with estop := true })
    settle s s1.pos s1

/-- ESTOP_RELEASED (R181): noted, and no line state changes. -/
def execEstopReleased (s : State) : Host.Outcome State Fault Refusal :=
  whenPowered s fun s => s.onLc fun lc => { lc with estop := false }

/-- A stray answer is counted and discarded (R118). -/
def strayAnswer (s : State) : State := onCounters (fun c => { c with strays := bump32 c.strays }) s

/-- CODE_READER_ANSWER (R118, R120, R121). -/
def execCodeReaderAnswer (bytes : List Byte) (s : State) : Host.Outcome State Fault Refusal :=
  whenPowered s fun s =>
    match parseAnswer bytes with
    | none => strayAnswer s
    | some (t, a) =>
      match s.tie.openReads.find? fun o => o.trigger == t && decide (s.pos ≤ o.windowEnd) with
      | none => strayAnswer s
      | some o =>
        let s1 := resolveRead o (some a) s
        settle s s1.pos s1

/-- The residual check of R143: heads only. -/
def checkResidual (y : Cycle) (s : State) : State :=
  match y.target, y.after with
  | .head l, some a => if s.set.residual < a then laneFault .crumbOverflow false l s else s
  | _, _ => s

/-- The completion of a cycle with its after-reading (R141, R142, R143). -/
def completeCycle (y : Cycle) (s : State) : State :=
  let p := settleCycle y s
  finishCycle y p.2 (checkResidual y (checkModel y p.1))

/-- A reading is settled, present or absent (R140, R141). -/
def takeReading (x : Option Nat) (s : State) : State :=
  match s.crm.state, s.crm.cycle with
  | .purging, some _ => openAir x s
  | .settle, some y => completeCycle { y with after := x } s
  | _, _ => s

/-- WEIGH_ANSWER (R140): an answer naming the tray asked for settles the reading; any other is discarded. -/
def execWeighAnswer (tray : Target) (load : Nat) (s : State) : Host.Outcome State Fault Refusal :=
  whenPowered s fun s =>
    if s.crm.weigh.isSome ∧ s.crm.cycle.map (·.target) = some tray then
      let s1 := takeReading (some (min Config.weighMax load)) s
      settle s s1.pos s1
    else s

end Sys2Proof.Machine
end

