-- ==== Sys2Proof/Machine/Motion.lean ====
section
/-! DEFINITION. The meanings of the motion events: encoder pulses, the pacer, window ends, the demand's ramp, the clock. -/

namespace Sys2Proof.Machine

/-- A change to the line monitor of a source. -/
def Sru.onLine (x : Sru) (src : LineSource) (f : LineMonitor → LineMonitor) : Sru :=
  match src with
  | .w => { x with w := f x.w }
  | .m => { x with m := f x.m }

/-- A pulse counted by its line monitor (R2). -/
def countPulse (src : LineSource) (s : State) : State :=
  s.onSru fun x => x.onLine src fun m => { m with mon := m.mon.pulse }

/-- LINE_ENCODER_PULSE (R2, R8): the pulse is counted, and one of the selected source advances the position by its increment. -/
def execLineEncoderPulse (src : LineSource) (s : State) : Host.Outcome State Fault Refusal :=
  whenPowered s fun s =>
    if s.sru.selected = .encoder src then advance (s.sru.inc src) (countPulse src s)
    else countPulse src s

/-- PACER_ADVANCE (R8, R10): while the pacer is selected and the reference not IDLE, the position advances at the pacer speed; what falls short of 1/65536 tu is carried (log entry 6). -/
def execPacerAdvance (ms : Nat) (s : State) : Host.Outcome State Fault Refusal :=
  whenPowered s fun s =>
    if s.sru.selected = .pacer ∧ s.sru.state ≠ .idle then
      let total := s.sru.pacerSpeed * Config.tu * ms + s.sru.pacerCarry
      advance (total / 1000) (s.onSru fun x => { x with pacerCarry := total % 1000 })
    else s

/-- BLADE_ENCODER_PULSE (R2); pulses on an unconfigured lane's blade encoder are not taken (R69). -/
def execBladeEncoderPulse (l : Lane) (s : State) : Host.Outcome State Fault Refusal :=
  whenPowered s fun s =>
    if s.isConfigured l then onHead l (fun h => { h with mon := h.mon.pulse }) s else s

/-- The nominal count of a line monitor at a window end (R3). -/
def State.nominal (s : State) : LineSource → Nat
  | .w => lineNominal s.lc.demand s.sru.windowMs s.set.scaleW
  | .m => lineNominal s.lc.demand s.sru.windowMs s.set.scaleM

/-- All six monitors class their windows against the demands held at the window end (R2, R3, R72; log entry 9). -/
def classAll (s : State) : State :=
  (s.onSru fun x =>
    { x with
      w := x.w.windowEnd s.set (s.nominal .w) x.windowMs
      m := x.m.windowEnd s.set (s.nominal .m) x.windowMs }).onHd fun hd =>
    { hd with heads := Vector.ofFn fun l : Fin 4 =>
        { hd.heads[l] with mon := hd.heads[l].mon.windowEnd s.set (s.bladeNominal l) } }

/-- The record of a lane in SLICING. -/
def State.slicingRec (s : State) (l : Lane) : Option Rec :=
  (s.queue l).find? fun r => r.state == .slicing

/-- Records of a lane that a blade fault gives BLADE: in MEASURING, PLANNED or SLICING (R77). -/
def State.bladeVictims (s : State) (l : Lane) : Nat := ((s.queue l).filter Rec.busies).length

/-- What a blade fault makes of one record of the lane (R77, R62). -/
def Rec.bladeFaulted (r : Rec) : Rec :=
  match r.state with
  | .measuring => r.addReason .blade
  | .planned => r.withdraw
  | .slicing => { r.addReason .blade with slicingEnded := true }
  | _ => r

/-- A blade fault of a RUNNING blade (R77). -/
def bladeFault (l : Lane) (s : State) : State :=
  let cut := s.slicingRec l
  let s1 := setBlade .fault l s
  let s2 := raise .bladeFault
    (bladeFaultSnapshot l (codeOrNone Rec.loaf cut) (s.bladeVictims l) s1) s1
  let s3 := onQueue l (List.map Rec.bladeFaulted) s2
  let s4 := match cut with
    | some r => if r.slicingEnded then s3 else endSlicing r s3
    | none => s3
  laneFault .blade false l s4

/-- HD takes a change of a blade monitor's qualification (R72, R73, R77). -/
def takeQualification (before : State) (l : Lane) (s : State) : State :=
  match (s.head l).blade with
  | .spinup => if (s.head l).mon.qualified then bladeQualified l s else s
  | .running =>
    if (before.head l).mon.qualified ∧ (s.head l).mon.qualified = false then bladeFault l s else s
  | _ => s

/-- The next window begins, at the monitor window in the settings (R1, R2). -/
def beginWindow (s : State) : State :=
  s.onSru fun x => { x with windowMs := s.set.windowMs, windowLeft := s.set.windowMs }

/-- WINDOW_END (R2): the monitors class; SRU evaluates its selection (R13), makes the slip check (R16) and renews the estimate (R11); each head takes its monitor's change (R72); a new window begins. -/
def execWindowEnd (s : State) : Host.Outcome State Fault Refusal :=
  whenPowered s fun s =>
    let s1 := classAll s
    let s2 := refreshEstimate (slipCheck (evaluateSelection s.sru.estimate s1))
    let s3 := beginWindow (forLanes (takeQualification s) s2)
    settle s s3.pos s3

/-- One ramp of a speed toward a target by an amount (R183). -/
def rampToward (demand target amount : Nat) : Nat :=
  if demand < target then min target (demand + amount) else max target (demand - amount)

/-- DEMAND_RAMP (R183): so many milliseconds at the ramp rate; thousandths of a tu/s are carried until the target is reached (log entry 6). -/
def execDemandRamp (ms : Nat) (s : State) : Host.Outcome State Fault Refusal :=
  whenPowered s fun s =>
    let total := s.set.rampRate * ms + s.lc.rampCarry
    let d := rampToward s.lc.demand s.lc.target (total / 1000)
    let s1 := s.onLc fun lc =>
      { lc with demand := d, rampCarry := if d = lc.target then 0 else total % 1000 }
    settle s s1.pos s1

/-- CLOCK_TICK (R172). -/
def execClockTick (s : State) : Host.Outcome State Fault Refusal :=
  whenPowered s fun s => s.onPst fun p => { p with clock := min Config.clockMax (p.clock + 1) }

end Sys2Proof.Machine
end

