-- ==== Sys2Proof/Machine/Expiries.lean ====
section
/-! DEFINITION. The meanings of the timer expiries. An expiry acts on a timer that is running (log entry 3). -/

namespace Sys2Proof.Machine

/-- HOLDOVER_TIMER_EXPIRY (R21). -/
def execHoldoverTimerExpiry (s : State) : Host.Outcome State Fault Refusal :=
  whenPowered s fun s =>
    if s.sru.holdover.isSome then
      let s1 := enterCrawl s
      settle s s1.pos s1
    else s

/-- SPINUP_TIMER_EXPIRY (R73): the blade goes FAULT and the lane takes the fault BLADE; no record gets a reason. -/
def execSpinupTimerExpiry (l : Lane) (s : State) : Host.Outcome State Fault Refusal :=
  whenPowered s fun s =>
    if (s.head l).spinup.isSome then
      let s1 := setBlade .fault l s
      let s2 := raise .bladeFault
        (bladeFaultSnapshot l (codeOrNone Rec.loaf (s.slicingRec l)) 0 s1) s1
      let s3 := laneFault .blade true l s2
      settle s s3.pos s3
    else s

/-- RETRIAL_TIMER_EXPIRY (R81, R82). -/
def execRetrialTimerExpiry (l : Lane) (s : State) : Host.Outcome State Fault Refusal :=
  whenPowered s fun s =>
    if (s.lane l).retrial.isSome then
      let s1 := enterTrial l s
      settle s s1.pos s1
    else s

/-- BAG_CONFIRM_TIMER_EXPIRY (R104). -/
def execBagConfirmTimerExpiry (s : State) : Host.Outcome State Fault Refusal :=
  whenPowered s fun s =>
    if s.bag.confirm.isSome then settle s s.pos (bagMissed s) else s

/-- CHANGEOVER_TIMER_EXPIRY (R96). -/
def execChangeoverTimerExpiry (s : State) : Host.Outcome State Fault Refusal :=
  whenPowered s fun s =>
    match s.arb.changeover with
    | .running c _ => settle s s.pos (s.onArb fun a => { a with bagClass := c, changeover := .none })
    | _ => s

/-- REINDEX_TIMER_EXPIRY (R126). -/
def execReindexTimerExpiry (s : State) : Host.Outcome State Fault Refusal :=
  whenPowered s fun s =>
    if s.tie.reindex.isSome then settle s s.pos (endReindex s) else s

/-- PURGE_TIMER_EXPIRY (R141): the air closes and the settle timer starts. -/
def execPurgeTimerExpiry (s : State) : Host.Outcome State Fault Refusal :=
  whenPowered s fun s =>
    if s.crm.purge.isSome then
      s.onCrm fun c =>
        { c with state := .settle, purge := none, air := none, settle := some Config.settleMs }
    else s

/-- SETTLE_TIMER_EXPIRY (R141): the after-reading is asked for. -/
def execSettleTimerExpiry (s : State) : Host.Outcome State Fault Refusal :=
  whenPowered s fun s =>
    if s.crm.settle.isSome then
      s.onCrm fun c => { c with settle := none, weigh := some Config.weighMs }
    else s

/-- WEIGH_TIMER_EXPIRY (R140): the reading is absent. -/
def execWeighTimerExpiry (s : State) : Host.Outcome State Fault Refusal :=
  whenPowered s fun s =>
    if s.crm.weigh.isSome then
      let s1 := takeReading none s
      settle s s1.pos s1
    else s

/-- START_LIMIT_EXPIRY (R177): the line returns to its start origin with stop cause START_FAIL. -/
def execStartLimitExpiry (s : State) : Host.Outcome State Fault Refusal :=
  whenPowered s fun s =>
    if s.lc.startLimit.isSome ∧ s.lc.state = .starting then
      let s1 := match s.lc.origin with
        | .ready => enterReady .startFail s
        | .halted => enterHalted .startFail s
      settle s s1.pos s1
    else s

/-- SILENCE_TIMER_EXPIRY (R184): LINK_SILENT is raised and the line drains. -/
def execSilenceTimerExpiry (s : State) : Host.Outcome State Fault Refusal :=
  whenPowered s fun s =>
    if s.lc.silence.isSome then
      let s1 := raise .linkSilent (byteOf s.set.linkTimeoutS :: posBytes s.pos)
        (s.onLc fun lc => { lc with silence := none })
      let s2 := requestDrain .linkSilent s1
      settle s s2.pos s2
    else s

end Sys2Proof.Machine
end

