-- ==== Sys2Proof/Machine/Power.lean ====
section
/-! DEFINITION. Power, the store and the warm restart (R170, R171, R185, and the reset tables of every chapter). -/

namespace Sys2Proof.Machine

/-! ### The power-on load (R171) -/

/-- A settings section as loaded: the stored settings and assignments, or the defaults with every assignment none; and whether it failed. -/
def loadSettings (x : Section (LineSettings × PerLane (Option Slot))) :
    LineSettings × PerLane (Option Slot) × Bool :=
  match x with
  | .good (st, a) =>
    if settingsValid st then (st, a, false)
    else (LineSettings.default, Vector.replicate 4 none, true)
  | .bad => (LineSettings.default, Vector.replicate 4 none, true)

/-- A slot section as loaded, and whether it failed. -/
def loadSlot (x : Section (Option Profile)) : Option Profile × Bool :=
  match x with
  | .good none => (none, false)
  | .good (some p) => if profileValid p then (some p, false) else (none, true)
  | .bad => (none, true)

/-- An assignment after the load: none where it names a slot that is empty (R171). -/
def keepAssigned (slots : PerSlot (Option Profile)) (a : Option Slot) : Option Slot :=
  a.bind fun i => if slots[i].isSome then some i else none

/-- PST as the power-on load leaves it, with the set of sections that failed (R171, R174). -/
def loadImage (nv : Nonvolatile) : Pst × BitVec 17 :=
  let st := loadSettings nv.settings
  let loaded := nv.slots.map loadSlot
  let slots := loaded.map Prod.fst
  let bad := loaded.map Prod.snd
  let assign := st.2.1.map (keepAssigned slots)
  let failed := (if st.2.2 then 1 else 0) +
    (profileSlots.map fun i => if bad[i] then 2 ^ (i.val + 1) else 0).sum
  ({ slots := slots
     slotUnsaved := bad
     assign := assign
     refs := Vector.replicate 16 0
     settings := st.1
     unsaved := st.2.2 || decide (assign ≠ st.2.1)
     defaulted := st.2.2
     store := .idle
     clock := 0
     clockValid := false }, BitVec.ofNat 17 failed)

/-- A section set in three bytes (R194). -/
def sectionBytes (x : BitVec 17) : List Byte := leBytes 3 x.toNat

/-- STORE_FAULT is raised when any section failed (R170, R171). -/
def raiseStoreFault (failed : BitVec 17) (s : State) : State :=
  if failed = 0 then s else raise .storeFault (sectionBytes failed) s

/-- Every block at its power-on value over a loaded image (R25, R53, R66, R89, R101, R109, R129, R147, R161, R174, R186, R199). -/
def poweredOn (nv : Nonvolatile) (estop : Bool) (pending : List Instr) : State :=
  let pst := (loadImage nv).1
  { pending := pending
    powered := true
    lp := Lp.powerOn
    sru := Sru.powerOn pst.settings.windowMs (increment pst.settings.scaleW)
      (increment pst.settings.scaleM)
    lc := Lc.powerOn pst.settings.lineMax estop
    trk := Trk.powerOn
    hd := Hd.powerOn pst.settings.configured
    arb := Arb.powerOn
    bag := Bag.powerOn
    tie := Tie.powerOn
    crm := Crm.powerOn
    tot := Tot.powerOn
    pst := pst
    nv := nv }

/-- POWER_ON (R171): the load, every block's power-on values, and the first raisings in their order (R199). On a part that has power it starts the part anew (log entry 5). -/
def execPowerOn (estop : Bool) (s : State) : Host.Outcome State Fault Refusal :=
  let s1 := poweredOn s.nv estop s.pending
  let s2 := raiseStoreFault (loadImage s.nv).2 s1
  let s3 := if 0 < s2.set.bagsLow then
    raise .bagsLow (leBytes 2 s2.bag.supply ++ leBytes 2 s2.set.bagsLow) s2 else s2
  let s4 := if 0 < s3.set.clipsLow then
    raise .clipsLow (leBytes 2 s3.tie.supply ++ leBytes 2 s3.set.clipsLow) s3 else s3
  .next (settle s4 s4.pos s4)

/-! ### The store (R170) -/

/-- A section after a store: its CRC bad where the read-back failed (log entry 24), else the snapshot's content. -/
def storedSection {α : Type} (failed : Bool) (content : α) : Section α :=
  if failed then .bad else .good content

/-- The image after a store, section by section (R170). -/
def storedImage (snap : Snapshot) (failed : BitVec 17) (nv : Nonvolatile) : Nonvolatile :=
  { nv with
    settings := storedSection (failed.getLsbD 0) (snap.settings, snap.assign)
    slots := Vector.ofFn fun i : Fin 16 => storedSection (failed.getLsbD (i.val + 1)) snap.slots[i] }

/-- How many sections of a set of sections there are. -/
def sectionCount (x : BitVec 17) : Nat := ((List.range 17).filter fun i => x.getLsbD i).length

/-- An unsaved mark after a store: cleared unless the section failed or has changed since the snapshot (R170). -/
def markAfter (i : Nat) (failed changed : BitVec 17) (mark : Bool) : Bool :=
  mark && (failed.getLsbD i || changed.getLsbD i)

/-- The "sections written" of STORE_DONE: 17, or a free value when some failed (log entry 16). -/
def sectionsWritten (failed : BitVec 17) : Nat :=
  if sectionCount failed = 0 then 17 else Config.sectionsWritten (sectionCount failed)

/-- STORE_COMPLETE (R170). -/
def execStoreComplete (failed : BitVec 17) (s : State) : Host.Outcome State Fault Refusal :=
  whenPowered s fun s =>
    match s.pst.store with
    | .idle => s
    | .writing snap changed =>
      let s1 := (s.onNv (storedImage snap failed)).onPst fun p =>
        { p with
          store := .idle
          unsaved := markAfter 0 failed changed p.unsaved
          slotUnsaved := Vector.ofFn fun i : Fin 16 =>
            markAfter (i.val + 1) failed changed p.slotUnsaved[i] }
      raiseStoreFault failed
        (raise .storeDone (byteOf (sectionsWritten failed) :: sectionBytes failed) s1)

/-- A section at a loss of power during a store (R170): written whole, the damaged one, or as before. -/
def lostSection {α : Type} (i written : Nat) (damaged : Bool) (content : α) (old : Section α) :
    Section α :=
  if i < written then .good content else if i = written ∧ damaged then .bad else old

/-- The image at a loss of power (R170). -/
def imageAtLoss (written : Nat) (damaged : Bool) (st : StoreState) (nv : Nonvolatile) : Nonvolatile :=
  match st with
  | .idle => nv
  | .writing snap _ =>
    { nv with
      settings := lostSection 0 written damaged (snap.settings, snap.assign) nv.settings
      slots := Vector.ofFn fun i : Fin 16 =>
        lostSection (i.val + 1) written damaged snap.slots[i] nv.slots[i] }

/-- POWER_LOSS (R170): all activity ends; the nonvolatile memory stays. -/
def execPowerLoss (written : Nat) (damaged : Bool) (s : State) : Host.Outcome State Fault Refusal :=
  .next (if s.powered then State.off (imageAtLoss written damaged s.pst.store s.nv) s.pending else s)

/-! ### The warm restart (R185) -/

/-- A raising of a kind where its cause stands. -/
def raiseWhile (cause : Bool) (k : Kind) (snapshot : List Byte) (s : State) : State :=
  if cause then raise k snapshot s else s

/-- The persisting conditions whose causes stand after a restart, in the order of their kinds (R197). SLIP and TABLE_RESERVE have none then (R25, R53). The VERIFIER_BLIND snapshot is a free value: the blind read is no longer held (log entry 31). -/
def raisePersisting (s : State) : State :=
  let s1 := raiseWhile (decide (s.bag.state = .down)) .baggerDown
    (leBytes 2 s.bag.supply ++ [byteOf s.bag.misses]) s
  let s2 := raiseWhile (decide (s.bag.supply < s.set.bagsLow)) .bagsLow
    (leBytes 2 s.bag.supply ++ leBytes 2 s.set.bagsLow) s1
  let s3 := raiseWhile (decide (s.tie.supply < s.set.clipsLow)) .clipsLow
    (leBytes 2 s.tie.supply ++ leBytes 2 s.set.clipsLow) s2
  let s4 := raiseWhile s.tie.reindexCause .tyerReindex (reindexSnapshot s) s3
  raiseWhile s.tie.blind .verifierBlind (Config.blindSnapshot s.pst.clock).toList s4

/-- SRU's values after a restart (R25, R2). -/
def Sru.restart (x : Sru) (windowMs : Nat) : Sru :=
  { x with
    w := LineMonitor.fresh, m := LineMonitor.fresh, windowMs := windowMs, windowLeft := windowMs
    selected := .pacer, state := .idle, pacerSpeed := 0, frozen := 0, holdover := none
    slipActive := false, estimate := 0 }

/-- A lane after a restart: IDLE but for a PARKED one (R89). -/
def LaneCtl.restart (c : LaneCtl) : LaneCtl :=
  { c with
    state := match c.state with
      | .parked => .parked
      | _ => .idle
    trialLeft := 0, trialList := [], trialRan := false, retrial := none }

/-- HD's values after a restart (R89). -/
def Hd.restart (hd : Hd) : Hd :=
  { heads := hd.heads.map fun _ => Head.powerOn
    lanes := hd.lanes.map LaneCtl.restart }

/-- ARB's values after a restart (R101). -/
def Arb.restart (a : Arb) : Arb :=
  { a with
    bypass := Vector.replicate 4 0, flight := none, spacing := none, changeover := .none
    pushers := Vector.replicate 4 false }

/-- BAG's values after a restart (R109). -/
def Bag.restart (b : Bag) : Bag :=
  { b with
    state := match b.state with
      | .cycle => if b.supply = 0 then .empty else .ready
      | st => st
    attempt := none, confirm := none, cycleOut := false }

/-- TIE's values after a restart (R129). -/
def Tie.restart (t : Tie) (reindexMs : Nat) : Tie :=
  let pending := decide (t.state = .reindexPending ∨ t.state = .reindex)
  { t with
    openReads := []
    state := if pending then .reindex else t.state
    reindex := if pending then some reindexMs else none
    tyerOut := if pending then .reindex else .none }

/-- CRM's values after a restart (R147): a cycle is aborted, without an evaluation of its target's triggers (DESIGN CHOICE, log entry 46), and the entries that the queue keeps wait. -/
def Crm.restart (c : Crm) : Crm :=
  { c with
    state := if c.queue.isEmpty then .idle else .wait
    cycle := none, purge := none, settle := none, weigh := none, air := none }

/-- LC's values after a restart, the ceiling being the line maximum speed (R66, R185, R186). -/
def Lc.restart (lc : Lc) (lineMax : Nat) : Lc :=
  { lc with
    state := .ready, origin := .ready, cause := .restart, ceiling := lineMax, target := 0, demand := 0, rampCarry := 0
    held := none, startLimit := none, silence := none }

/-- TRK's values after a restart (R53), its records already retired. -/
def Trk.restart (t : Trk) : Trk := { t with reserveHeld := false, rejectGate := .pass }

/-- Every record of the table retires CLEARED in the order of R51, without raising. -/
def clearQuiet (s : State) : State :=
  s.clearOrder.foldl (fun s r => retireQuiet r .cleared s) s

/-- Every block takes the restart (R185); LP's flags and queue are emptied. -/
def restartBlocks (s : State) : State :=
  let s1 := clearQuiet s
  { s1 with
    lp := Lp.withAttn { s1.lp with flags := 0, queue := [] }
    sru := s1.sru.restart s.set.windowMs
    lc := s1.lc.restart s.set.lineMax
    trk := s1.trk.restart
    hd := s1.hd.restart
    arb := s1.arb.restart
    bag := s1.bag.restart
    tie := s1.tie.restart s.set.reindexMs
    crm := s1.crm.restart }

/-- The raisings of a restart: LINE_STATE, the persisting conditions, SHIFT_CLOSED (R185, R160). -/
def restartRaisings (before s : State) : State :=
  raiseIfClosed before.tot (raisePersisting
    (raise .lineState (lineSnapshot before.lc.state s) s))

end Sys2Proof.Machine
end

