-- ==== Sys2Proof/Machine/Reports.lean ====
section
/-! DEFINITION. The layouts of the status replies (R198, R204). -/

namespace Sys2Proof.Machine

/-- The stop cause in LINE: its code, with 0 for NONE (R204; log entry 17). -/
def causeStatus : StopCause → Nat
  | .none => 0
  | c => c.code

/-- LINE, 19 bytes. -/
def lineSection (s : State) : List Byte :=
  let lc := s.lc
  [byteOf lc.state.code, byteOf (if lc.state = .starting then lc.origin.code else 0),
    byteOf (causeStatus lc.cause)] ++ leBytes 2 lc.setSpeed ++ leBytes 2 lc.ceiling ++ leBytes 2 lc.target ++
    leBytes 2 lc.demand ++ leBytes 2 (lc.held.getD 0xFFFF) ++ leBytes 2 (tenths lc.startLimit) ++
    leBytes 2 (tenths lc.silence) ++ [flagByte lc.estop, byteOf s.free]

def RefMode.code : RefMode → Nat
  | .auto => 0 | .fixed => 1

/-- The code of a line source in SET_REFERENCE (section 11.5). -/
def lineSourceCode : LineSource → Nat
  | .w => 0 | .m => 1

/-- REFERENCE, 19 bytes. -/
def referenceSection (s : State) : List Byte :=
  let x := s.sru
  [byteOf x.state.code, byteOf x.selected.code, flagByte x.w.mon.qualified,
    flagByte x.m.mon.qualified] ++ posBytes x.pos ++ leBytes 2 x.estimate ++ leBytes 4 s.lossCount ++
    [byteOf x.settings.mode.code, byteOf (lineSourceCode x.settings.fixedSource),
      flagByte x.settings.revertive, flagByte x.settings.hitless]

/-- One lane of LANES, 18 bytes. -/
def laneStatus (s : State) (l : Lane) : List Byte :=
  let c := s.lane l
  let slot := s.pst.assign[l]
  [byteOf c.state.code, flagByte c.target, byteOf c.trialLeft, byteOf c.trialList.length,
    byteOf c.trialFails] ++ leBytes 2 (tenths c.retrial) ++
    byteOf (codeOrNone (fun f => LaneFault.code f.1) c.lastFault) ::
    posOrAbsent (c.lastFault.map Prod.snd) ++
    [flagByte (s.gateOpen l), s.trk.closedBy[l],
      match slot with
      | some i => byteOf i.val
      | none => 0xFF] ++
    leBytes 2 (match slot with
      | some i => (s.profile i).code
      | none => 0)

/-- One head of LANES, 8 bytes. -/
def headStatus (s : State) (l : Lane) : List Byte :=
  let h := s.head l
  byteOf h.blade.code :: leBytes 4 h.demand ++ flagByte h.mon.qualified :: leBytes 2 (tenths h.spinup)

/-- LANES, 104 bytes. -/
def lanesStatus (s : State) : List Byte :=
  (lanes.map (laneStatus s)).flatten ++ (lanes.map (headStatus s)).flatten

/-- The withhold set: bit 0 CHANGEOVER, then BAGGER, TYER, PURGE and LINE (R198). -/
def withholdCode (w : Withhold) : Nat :=
  (if w.changeover then 1 else 0) + (if w.bagger then 2 else 0) + (if w.tyer then 4 else 0) +
  (if w.purge then 8 else 0) + (if w.line then 16 else 0)

def changeoverStatus : Changeover → List Byte
  | .none => [0, 0] ++ leBytes 2 0
  | .waiting c => [1, byteOf c] ++ leBytes 2 0
  | .running c left => [2, byteOf c] ++ leBytes 2 (tenths (some left))

/-- MERGE, 28 bytes. -/
def mergeSection (s : State) : List Byte :=
  let a := s.arb
  [byteOf (withholdCode a.withhold), byteOf a.bagClass] ++ leBytes 4 (codeOrNone Grant.loaf a.flight) ++
    [match a.flight with
      | some g => byteOf g.lane.val
      | none => 0xFF] ++
    a.bypass.toList.map byteOf ++ changeoverStatus a.changeover ++ posOrAbsent s.spacingPoint ++
    byteOf s.bag.state.code :: leBytes 2 s.bag.supply ++
    [byteOf s.bag.misses, byteOf s.tie.state.code, flagByte s.tie.owed] ++ leBytes 2 s.tie.supply

/-- The OPEN or CLOSING shift of SHIFTS, 9 bytes. -/
def shiftStatus : Option Shift → List Byte
  | some sh => 1 :: leBytes 2 sh.seq ++ byteOf sh.digit :: leBytes 4 sh.openTime ++ [byteOf sh.inTable]
  | none => List.replicate 9 0

/-- The CLOSED snapshot of SHIFTS, 7 bytes. -/
def closedStatus : Option Shift → List Byte
  | some sh => 1 :: leBytes 2 sh.seq ++ leBytes 4 (sh.closeTime.getD 0)
  | none => List.replicate 7 0

/-- SHIFTS, 27 bytes (R159). -/
def shiftsSection (s : State) : List Byte :=
  shiftStatus s.tot.opened ++ shiftStatus s.tot.closing ++ closedStatus s.tot.closed ++
    leBytes 2 s.nextShiftSeq

/-- LINK, 32 bytes. -/
def linkSection (s : State) : List Byte :=
  let c := s.lp.counters
  byteOf s.lp.rate.code ::
    ([c.framesTaken, c.badCrc, c.badLength, c.truncated, c.overrun, c.noticesSent].map
      (leBytes 4)).flatten ++
    leBytes 3 s.lp.mask.toNat ++ leBytes 3 s.lp.flags.toNat ++ [byteOf s.lp.queue.length]

/-- A section of READ_STATUS by its code (R198). -/
def statusSection (s : State) : Nat → Option (List Byte)
  | 0 => some (lineSection s)
  | 1 => some (referenceSection s)
  | 2 => some (lanesStatus s)
  | 3 => some (mergeSection s)
  | 4 => some (shiftsSection s)
  | 5 => some (linkSection s)
  | _ => none

/-- READ_CODECHECK's fields, 51 bytes (R128, R204). -/
def codecheckFields (s : State) : List Byte :=
  let t := s.tie
  let c := t.counters
  byteOf c.mismatches :: leBytes 4 c.reads ++ leBytes 4 c.caught ++ leBytes 4 c.noReads ++
    leBytes 4 c.strays ++
    (match t.capture with
      | some x => 1 :: leBytes 4 x.loaf ++ padTo 8 x.expected ++ padTo 8 x.actual
      | none => List.replicate 21 0) ++
    leBytes 2 s.set.challengeInterval ++ leBytes 2 t.challengeCount ++
    [byteOf t.burst.length, byteOf (t.burst.filter (·.bad)).length, byteOf t.state.code,
      flagByte t.owed] ++
    leBytes 2 (tenths t.reindex) ++ leBytes 2 t.supply ++ [flagByte t.blind]

/-- A last purge in 18 bytes, zero while absent (R204). -/
def lastPurgeBytes : Option LastPurge → List Byte
  | some p => 1 :: massBytes p.before ++ massBytes p.after ++ massBytes p.removed ++
      leBytes 4 p.start ++ [byteOf p.correction]
  | none => List.replicate 18 0

/-- One head of READ_CRUMB, 25 bytes; an unconfigured head is zero bytes (R204). -/
def headCrumbBytes (s : State) (l : Lane) : List Byte :=
  if s.isConfigured l then
    let h := s.crm.heads[l]
    leBytes 4 h.estimate ++ byteOf h.correction :: leBytes 2 h.loaves ++ lastPurgeBytes s.crm.last[l]
  else List.replicate 25 0

/-- Whether an entry of the queue holds its gap (R136); a merge belt entry holds no lane gap. -/
def Crm.entryGap (c : Crm) (e : PurgeEntry) : Bool :=
  match e.target with
  | .head l => c.gapHeld l
  | .belt => false

/-- Five places of the purge queue, front first (R204). -/
def queueBytes (c : Crm) : List Byte :=
  let entries := (c.queue.map fun e =>
    [byteOf (targetCode e.target), byteOf e.group.code, flagByte (c.entryGap e)]).flatten
  byteOf c.queue.length :: padTo 15 entries

/-- READ_CRUMB's fields, 142 bytes (R146, R204). -/
def crumbFields (s : State) : List Byte :=
  (lanes.map (headCrumbBytes s)).flatten ++ leBytes 4 s.crm.belt ++ lastPurgeBytes s.crm.lastBelt ++
    queueBytes s.crm ++
    [byteOf s.crm.state.code,
      match s.crm.cycle with
      | some y => byteOf (targetCode y.target)
      | none => 0xFF] ++
    leBytes 2 (tenths (s.crm.purge.or s.crm.settle))

end Sys2Proof.Machine
end

