-- ==== Sys2Proof/Machine/StoreRequests.lean ====
section
/-! DEFINITION. The requests on profiles, line settings and the store, and SET_CHALLENGE (R127, R164 to R170). -/

namespace Sys2Proof.Machine

/-- A section whose working content has changed since a store's snapshot (R170). -/
def StoreState.touch (st : StoreState) (i : Nat) : StoreState :=
  match st with
  | .idle => .idle
  | .writing snap changed => .writing snap (changed ||| 1#17 <<< i)

/-- The settings section is unsaved (R167, R168, R127). -/
def touchSettings (s : State) : State :=
  s.onPst fun p => { p with unsaved := true, store := p.store.touch 0 }

/-- Whether a slot is in use (R163). -/
def State.slotInUse (s : State) (i : Slot) : Bool :=
  lanes.any (fun l => decide (s.pst.assign[l] = some i)) || decide (0 < s.pst.refs[i])

/-- A slot takes a new content; a change sets its unsaved mark (R164). -/
def writeSlot (i : Slot) (x : Option Profile) (s : State) : State :=
  s.onPst fun p =>
    if p.slots[i] = x then p
    else
      { p with
        slots := putAt p.slots i x
        slotUnsaved := putAt p.slotUnsaved i true
        store := p.store.touch (i.val + 1) }

/-- The outcome of a PUT_PROFILE for a slot and a content (R164). -/
def putSlot (i : Slot) (x : Option Profile) (s : State) : Answer :=
  if x.any (fun p => !profileValid p) then Answer.refuse s .badField
  else if s.slotInUse i then Answer.refuse s .wrongState
  else
    let s1 := writeSlot i x s
    Answer.okay s1 [byteOf i.val, flagByte x.isSome, flagByte s1.pst.slotUnsaved[i]]

def ownPutProfile (p : List Byte) (s : State) : Answer :=
  match asSlot (byteAt p 0), asFlag (byteAt p 28) with
  | some i, some valid => putSlot i (if valid then some (parseProfile (p.drop 1)) else none) s
  | _, _ => Answer.refuse s .badField

/-- PUT_PROFILE (R164). -/
def execPutProfile (tag : Byte) (payload : List Byte) (s : State) : Host.Outcome State Fault Refusal :=
  serve 0x12 29 ownPutProfile tag payload s

def ownGetProfile (p : List Byte) (s : State) : Answer :=
  match asSlot (byteAt p 0) with
  | some i =>
    Answer.okay s (byteOf i.val :: profileBytes s.pst.slots[i] ++
      [byteOf (laneSet fun l => decide (s.pst.assign[l] = some i)), byteOf s.pst.refs[i],
        flagByte s.pst.slotUnsaved[i]])
  | none => Answer.refuse s .badField

/-- GET_PROFILE (R165). -/
def execGetProfile (tag : Byte) (payload : List Byte) (s : State) : Host.Outcome State Fault Refusal :=
  serve 0x13 1 ownGetProfile tag payload s

/-! ### SET_LINE (R168) -/

/-- The interval in force; a change returns the challenge counter and the code-check counters to 0 (R127). -/
def takeChallenge (old new : Nat) (s : State) : State :=
  if old = new then s else resetCounters (s.onTie fun t => { t with challengeCount := 0 })

/-- CRM at a SET_LINE that unconfigures a lane (R145): a running cycle of its head is aborted, and the entry leaves. -/
def dropHeadEntry (l : Lane) (s : State) : State :=
  let s1 := if s.crm.cycleTarget = some (.head l) then abortCycle s else s
  s1.onCrm fun c =>
    let q := c.queue.filter fun e => e.target != .head l
    { c with
      queue := q
      state := if q.isEmpty ∧ c.running = false then .idle else c.state }

/-- HD and CRM at a change of the configured count for one lane (R69, R166, R145). LANE_CHANGE is raised before the trial-fail count returns to 0 (DESIGN CHOICE, log entry 38) and after the blade has stopped (DESIGN CHOICE, log entry 47). -/
def reconfigure (old new : Nat) (l : Lane) (s : State) : State :=
  let clear := fun s => onLane l (fun c => { c with target := false, trialFails := 0 }) s
  if new ≤ l.val ∧ l.val < old then
    dropHeadEntry l (clear (setLaneState .idle l (endTrial l (setBlade .stopped l s))))
  else if old ≤ l.val ∧ l.val < new then clear (setLaneState .idle l (endTrial l s))
  else s

/-- BAGS_LOW at a SET_LINE that raises the threshold above the standing supply (R106); a threshold that stood above it already raises nothing when it rises further (DESIGN CHOICE, log entry 37). -/
def thresholdBags (old : LineSettings) (s : State) : State :=
  if old.bagsLow ≤ s.bag.supply ∧ s.bag.supply < s.set.bagsLow then
    raise .bagsLow (leBytes 2 s.bag.supply ++ leBytes 2 s.set.bagsLow) s
  else s

/-- CLIPS_LOW at a SET_LINE that raises the threshold above the standing supply (R113); a threshold that stood above it already raises nothing when it rises further (DESIGN CHOICE, log entry 37). -/
def thresholdClips (old : LineSettings) (s : State) : State :=
  if old.clipsLow ≤ s.tie.supply ∧ s.tie.supply < s.set.clipsLow then
    raise .clipsLow (leBytes 2 s.tie.supply ++ leBytes 2 s.set.clipsLow) s
  else s

/-- An accepted SET_LINE (R168): all values at once, and each block applies its own; the triggers are evaluated before a front entry in WAIT starts (log entry 48). -/
def applySettings (x : LineSettings) (s : State) : State :=
  let old := s.set
  let s1 := s.onPst fun p => { p with settings := x }
  let s2 := if old = x then s1 else touchSettings (s1.onPst fun p => { p with defaulted := false })
  let s3 := s2.onSru fun r => { r with incW := increment x.scaleW, incM := increment x.scaleM }
  let s4 := forLanes (reconfigure old.configured x.configured) s3
  let s5 := takeChallenge old.challengeInterval x.challengeInterval s4
  evalAllTriggers (thresholdClips old (thresholdBags old s5))

def ownSetLine (p : List Byte) (s : State) : Answer :=
  if s.lc.state ≠ .ready then Answer.refuse s .wrongState
  else match parseSettings p with
    | some x =>
      if settingsAgree x then
        let s1 := applySettings x s
        Answer.okay (settle s s1.pos s1) []
      else Answer.refuse s .badField
    | none => Answer.refuse s .badField

/-- SET_LINE (R168). -/
def execSetLine (tag : Byte) (payload : List Byte) (s : State) : Host.Outcome State Fault Refusal :=
  serve 0x14 154 ownSetLine tag payload s

def ownGetLine (_ : List Byte) (s : State) : Answer :=
  Answer.okay s (settingsBytes s.set ++
    s.pst.assign.toList.map (fun a => match a with
      | some i => byteOf i.val
      | none => 0xFF) ++
    [flagByte s.pst.unsaved, flagByte s.pst.defaulted])

/-- GET_LINE (R169). -/
def execGetLine (tag : Byte) (payload : List Byte) (s : State) : Host.Outcome State Fault Refusal :=
  serve 0x15 0 ownGetLine tag payload s

def ownStore (_ : List Byte) (s : State) : Answer :=
  match s.pst.store with
  | .idle =>
    Answer.okay (s.onPst fun p =>
      { p with store := .writing ⟨p.settings, p.assign, p.slots⟩ 0 }) []
  | .writing _ _ => Answer.refuse s .busy

/-- STORE (R170). -/
def execStore (tag : Byte) (payload : List Byte) (s : State) : Host.Outcome State Fault Refusal :=
  serve 0x16 0 ownStore tag payload s

def ownSetChallenge (p : List Byte) (s : State) : Answer :=
  let n := leNat p
  if challengeOk n then
    let s1 := if s.set.challengeInterval = n then s
      else touchSettings (takeChallenge s.set.challengeInterval n
        (s.onPst fun x => { x with settings := { x.settings with challengeInterval := n } }))
    Answer.okay s1 (leBytes 2 n)
  else Answer.refuse s .badField

/-- SET_CHALLENGE (R127). -/
def execSetChallenge (tag : Byte) (payload : List Byte) (s : State) : Host.Outcome State Fault Refusal :=
  serve 0x42 2 ownSetChallenge tag payload s

end Sys2Proof.Machine
end

