-- ==== Sys2Proof/Machine/LaneRequests.lean ====
section
/-! DEFINITION. The requests on lanes: SET_LANES, SET_LANE_PROFILE and CLEAR_LANE (R86, R87, R167). -/

namespace Sys2Proof.Machine

/-- The lanes of a lane set byte. -/
def inLaneSet (n : Nat) (l : Lane) : Bool := n.testBit l.val

/-- Whether a lane set is refused (R86, R166, section 11.5): a bit above lane 3, or a flag for a lane that is unconfigured or has no assigned slot. -/
def State.laneSetRefused (s : State) (n : Nat) : Bool :=
  decide (16 ≤ n) ||
    lanes.any fun l => inLaneSet n l && (!s.isConfigured l || (s.pst.assign[l]).isNone)

/-- A lane joins the target set (R86). "Any other blade enters SPINUP" is taken to hold of a blade that is in SPINUP already, which R73 does not name: it is spun up anew, its monitor unqualified with runs 0 and its timer at full limit (DESIGN CHOICE, log entry 45). -/
def addTarget (l : Lane) (s : State) : State :=
  let s1 := onLane l (fun c => { c with target := true }) s
  if (s.lane l).state = .idle ∧ s.lc.state.spinsUp then
    if (s.head l).blade = .running then setLaneState .running l s1 else spinUpUnlessParked l s1
  else s1

/-- A lane leaves the target set (R86), a blade in SPINUP stopping before LANE_CHANGE is raised (DESIGN CHOICE, log entry 47). -/
def removeTarget (l : Lane) (s : State) : State :=
  let s1 := onLane l (fun c => { c with target := false }) s
  match (s.lane l).state with
  | .parked => s1
  | .idle => stopBladeIf (fun b => b == .spinup) l s1
  | _ => setLaneState .idle l (endTrial l (stopBladeIf (fun b => b == .spinup) l s1))

/-- One lane of a SET_LANES. -/
def setTarget (n : Nat) (l : Lane) (s : State) : State :=
  match inLaneSet n l, (s.lane l).target with
  | true, false => addTarget l s
  | false, true => removeTarget l s
  | _, _ => s

/-- The lanes take their flags from lane 0 to lane 3 (log entry 43). -/
def ownSetLanes (p : List Byte) (s : State) : Answer :=
  let n := byteAt p 0
  if s.laneSetRefused n then Answer.refuse s .badField
  else
    let s1 := forLanes (setTarget n) s
    let s2 := settle s s1.pos s1
    Answer.okay s2 (lanes.map fun l => byteOf (s2.lane l).state.code)

/-- SET_LANES (R86). -/
def execSetLanes (tag : Byte) (payload : List Byte) (s : State) : Host.Outcome State Fault Refusal :=
  serve 0x30 1 ownSetLanes tag payload s

/-- A new assignment of a lane (R167): the settings are unsaved and the head's correction factor returns to 64 (R132). -/
def assignSlot (l : Lane) (i : Slot) (s : State) : State :=
  if s.pst.assign[l] = some i then s
  else
    onCrumb l (fun h => { h with correction := 64 })
      (touchSettings (s.onPst fun p => { p with assign := putAt p.assign l (some i) }))

/-- The lane ceiling that the assigned slot gives (R64, R167). -/
def laneCeilingField (l : Lane) (i : Slot) (s : State) : List Byte :=
  leBytes 2 (laneCeiling s.set.rmax[l] (s.profile i).t)

def ownSetLaneProfile (p : List Byte) (s : State) : Answer :=
  match asLane (byteAt p 0), asSlot (byteAt p 1) with
  | some l, some i =>
    if s.isConfigured l && (s.pst.slots[i]).isSome then
      let s1 := assignSlot l i s
      Answer.okay (settle s s1.pos s1) ([byteOf l.val, byteOf i.val] ++ laneCeilingField l i s)
    else Answer.refuse s .badField
  | _, _ => Answer.refuse s .badField

/-- SET_LANE_PROFILE (R167). -/
def execSetLaneProfile (tag : Byte) (payload : List Byte) (s : State) :
    Host.Outcome State Fault Refusal :=
  serve 0x31 2 ownSetLaneProfile tag payload s

/-- Where a CLEAR_LANE takes a PARKED lane (R87). -/
def State.clearedTo (s : State) (l : Lane) : LaneState :=
  if (s.lane l).target && s.lc.state.moving then .down else .idle

def ownClearLane (p : List Byte) (s : State) : Answer :=
  match asLane (byteAt p 0) with
  | some l =>
    if s.isConfigured l then
      if (s.lane l).state = .parked then
        let s1 := setLaneState (s.clearedTo l) l (onLane l (fun c => { c with trialFails := 0 }) s)
        let s2 := settle s s1.pos s1
        Answer.okay s2 [byteOf (s2.lane l).state.code]
      else Answer.refuse s .wrongState
    else Answer.refuse s .badField
  | none => Answer.refuse s .badField

/-- CLEAR_LANE (R87). -/
def execClearLane (tag : Byte) (payload : List Byte) (s : State) : Host.Outcome State Fault Refusal :=
  serve 0x32 1 ownClearLane tag payload s

end Sys2Proof.Machine
end

