-- ==== Sys2Proof/Machine/LineRequests.lean ====
section
/-! DEFINITION. The requests that run the line and act on the table: START to SET_REFERENCE, READ_TRACK and REJECT_LOAF (R15, R50 to R52, R176 to R185). -/

namespace Sys2Proof.Machine

/-- A configured lane is in the target set (R176). -/
def State.targetLane (s : State) (l : Lane) : Bool := s.isConfigured l && (s.lane l).target

/-- The first condition of R176 that refuses a START, where one does. -/
def State.startRefusal (s : State) : Option Status :=
  if s.lc.state.moving then some .wrongState
  else if s.tot.opened.isNone then some .noShift
  else if s.pst.clockValid = false then some .noClock
  else if s.tie.blind then some .wrongState
  else if s.lc.estop then some .wrongState
  else if !lanes.any s.targetLane then some .wrongState
  else if lanes.any (fun l => s.targetLane l && (s.pst.assign[l]).isNone) then some .wrongState
  else none

/-- The line state after the request, in one byte. -/
def lineStateField (s : State) : List Byte := [byteOf s.lc.state.code]

/-- An event's effect settled, answered OK with the line state after it. -/
def answerLine (before s : State) : Answer :=
  let s1 := settle before s.pos s
  Answer.okay s1 (lineStateField s1)

def ownStart (_ : List Byte) (s : State) : Answer :=
  match s.startRefusal with
  | some st => Answer.refuse s st
  | none => answerLine s (enterStarting s)

/-- START (R176). -/
def execStart (tag : Byte) (payload : List Byte) (s : State) : Host.Outcome State Fault Refusal :=
  serve 0x20 0 ownStart tag payload s

def ownStop (_ : List Byte) (s : State) : Answer :=
  match s.lc.state with
  | .halted =>
    if s.tableCount = 0 then answerLine s (enterReady .stop s) else Answer.refuse s .wrongState
  | _ => answerLine s (requestDrain .stop s)

/-- STOP (R178). -/
def execStop (tag : Byte) (payload : List Byte) (s : State) : Host.Outcome State Fault Refusal :=
  serve 0x21 0 ownStop tag payload s

def ownHalt (_ : List Byte) (s : State) : Answer := answerLine s (haltLine .halt s)

/-- HALT (R181). -/
def execHalt (tag : Byte) (payload : List Byte) (s : State) : Host.Outcome State Fault Refusal :=
  serve 0x22 0 ownHalt tag payload s

/-- Every record retires CLEARED in the order of R51, and what a CLEAR_TRACK leaves: no grant in flight, no spacing reference, bypass counts 0 (R93, R95), the reject gate output PASS (R44). -/
def clearTable (s : State) : State :=
  ((s.clearOrder.foldl (fun s r => retire r .cleared s) s).onArb fun a =>
    { a with
      flight := none, spacing := none, bypass := Vector.replicate 4 0
      pushers := Vector.replicate 4 false }).onTrk fun t =>
    { t with rejectGate := .pass }

def ownClearTrack (_ : List Byte) (s : State) : Answer :=
  if s.lc.state = .ready ∨ s.lc.state = .halted then
    let s1 := clearTable s
    Answer.okay (settle s s1.pos s1) [byteOf s.tableCount]
  else Answer.refuse s .wrongState

/-- CLEAR_TRACK (R51). -/
def execClearTrack (tag : Byte) (payload : List Byte) (s : State) : Host.Outcome State Fault Refusal :=
  serve 0x23 0 ownClearTrack tag payload s

/-- RESTART (R185): every block takes the restart, the reply becomes ready, and the raisings follow it (log entry 12). -/
def execRestart (tag : Byte) (payload : List Byte) (s : State) : Host.Outcome State Fault Refusal :=
  whenPowered s fun s =>
    match takeUp ⟨0x24, tag, payload⟩ s with
    | none => s
    | some s1 =>
      if payload.length = 0 then
        let s2 := giveReply 0x24 tag (Answer.okay (restartBlocks s1) [])
        let s3 := restartRaisings s1 s2
        settle s3 s3.pos s3
      else giveReply 0x24 tag (Answer.refuse s1 .badLength)

def ownSetSpeed (p : List Byte) (s : State) : Answer :=
  let n := leNat p
  let s1 := s.onLc fun lc => { lc with setSpeed := min n lc.ceiling }
  let s2 := settle s s1.pos s1
  ⟨s2, if s.lc.ceiling < n then .clamped else .ok,
    leBytes 2 s1.lc.setSpeed ++ leBytes 2 s1.lc.ceiling, none⟩

/-- SET_SPEED (R182). -/
def execSetSpeed (tag : Byte) (payload : List Byte) (s : State) : Host.Outcome State Fault Refusal :=
  serve 0x25 2 ownSetSpeed tag payload s

/-- The reference settings that a SET_REFERENCE carries (section 11.5). -/
def parseReference (p : List Byte) : Option RefSettings := do
  let fixed ← asFlag (byteAt p 0)
  let source ← asFlag (byteAt p 1)
  let revertive ← asFlag (byteAt p 2)
  let hitless ← asFlag (byteAt p 3)
  some ⟨if fixed then .fixed else .auto, if source then .m else .w, revertive, hitless⟩

def ownSetReference (p : List Byte) (s : State) : Answer :=
  match parseReference p with
  | some x =>
    let s1 := evaluateSelection s.sru.estimate (s.onSru fun r => { r with settings := x })
    Answer.okay (settle s s1.pos s1) []
  | none => Answer.refuse s .badField

/-- SET_REFERENCE (R15). -/
def execSetReference (tag : Byte) (payload : List Byte) (s : State) :
    Host.Outcome State Fault Refusal :=
  serve 0x26 4 ownSetReference tag payload s

/-! ### Requests on the table -/

/-- The queue that a number of READ_TRACK names (R52). -/
def State.queueNumbered (s : State) (n : Nat) : Option (List Rec) :=
  if n = 4 then some s.trk.post else (asLane n).map s.queue

/-- Records that one reply carries at most (R201). -/
def recordsPerReply : Nat := 3

/-- READ_TRACK by queue (R52). -/
def readQueue (q : List Rec) (start : Nat) : List Byte :=
  let rs := (q.drop start).take recordsPerReply
  [byteOf q.length, byteOf start, byteOf rs.length] ++ (rs.map recordBytes).flatten

/-- A form other than 0 and 1, and filler bytes that are not zero, are refused (log entry 18). -/
def ownReadTrack (p : List Byte) (s : State) : Answer :=
  match byteAt p 0 with
  | 0 =>
    match s.find (numAt p 1 4) with
    | some r => Answer.okay s (recordBytes r)
    | none => Answer.refuse s .notFound
  | 1 =>
    match s.queueNumbered (byteAt p 1) with
    | some q => if numAt p 3 2 = 0 then Answer.okay s (readQueue q (byteAt p 2))
      else Answer.refuse s .badField
    | none => Answer.refuse s .badField
  | _ => Answer.refuse s .badField

/-- READ_TRACK (R52). -/
def execReadTrack (tag : Byte) (payload : List Byte) (s : State) : Host.Outcome State Fault Refusal :=
  serve 0x70 5 ownReadTrack tag payload s

def ownRejectLoaf (p : List Byte) (s : State) : Answer :=
  match s.find (leNat p) with
  | some r =>
    ⟨onRec r.loaf (·.addReason .operator) s,
      if r.state = .decided then .tooLate else .ok, [byteOf r.state.code], none⟩
  | none => Answer.refuse s .notFound

/-- REJECT_LOAF (R50). -/
def execRejectLoaf (tag : Byte) (payload : List Byte) (s : State) : Host.Outcome State Fault Refusal :=
  serve 0x71 4 ownRejectLoaf tag payload s

end Sys2Proof.Machine
end

