-- ==== Sys2Proof/Machine/Link.lean ====
section
/-! DEFINITION. The meanings of the link's own events: bytes received, the interbyte timeout, the end of a transmission (R188 to R192), and a request of unknown kind (R191). -/

namespace Sys2Proof.Machine

/-- LP changes its counters. -/
def onLink (f : LinkCounters → LinkCounters) (s : State) : State :=
  s.onLp fun lp => { lp with counters := f lp.counters }

/-- Placing a valid frame's request (R190). -/
def placeRequest (r : Req) (s : State) : State :=
  match s.lp.hand, s.lp.waiting with
  | none, none => s.onLp fun lp => { lp with hand := some r }
  | some _, some _ => onLink (fun c => { c with overrun := bump32 c.overrun }) s
  | none, some _ => onLink (fun c => { c with overrun := bump32 c.overrun }) s
  | some _, none => s.onLp fun lp => { lp with waiting := some r }

/-- A valid frame (R188): counted, told to link supervision (R184), and placed in request holding. -/
def takeFrame (r : Req) (s : State) : State :=
  let s1 := onLink (fun c => { c with framesTaken := bump32 c.framesTaken }) s
  let s2 := if s1.lc.state = .running ∧ s1.set.linkTimeoutS ≠ 0 then
      s1.onLc fun lc => { lc with silence := s1.fullSilence }
    else s1
  placeRequest r s2

def setReceiver (x : Receiver) (s : State) : State := s.onLp fun lp => { lp with receiver := x }

/-- A frame complete with its two CRC bytes (R188); `bs` holds the bytes after the start byte, `n` the length field. -/
def endFrame (n : Nat) (bs : List Byte) (s : State) : State :=
  let body := bs.take (n + 2)
  let sent := byteAt bs (n + 2) * 256 + byteAt bs (n + 3)
  if crc16 body = sent then
    takeFrame ⟨bs.getD 2 0, bs.getD 3 0, body.drop 4⟩ s
  else onLink (fun c => { c with badCrc := bump32 c.badCrc }) s

/-- One received byte (R188). -/
def receiveByte (b : Byte) (s : State) : State :=
  match s.lp.receiver with
  | .hunt => if b = 0x7E then setReceiver (.receiving []) s else s
  | .receiving bs =>
    let got := bs ++ [b]
    let n := leNat (got.take 2)
    if got.length < 2 then setReceiver (.receiving got) s
    else if n < 2 ∨ 252 < n then
      setReceiver .hunt (onLink (fun c => { c with badLength := bump32 c.badLength }) s)
    else if n + 4 ≤ got.length then endFrame n got (setReceiver .hunt s)
    else setReceiver (.receiving got) s

/-- Bytes received in their order. -/
def receiveBytes : List Byte → State → State
  | [], s => s
  | b :: bs, s => receiveBytes bs (receiveByte b s)

/-- FRAME_RECEIVED (R188, R190). -/
def execFrameReceived (bytes : List Byte) (s : State) : Host.Outcome State Fault Refusal :=
  whenPowered s (receiveBytes bytes)

/-- A frame partly received is discarded as truncated (R188, R189). -/
def truncate (s : State) : State :=
  match s.lp.receiver with
  | .hunt => s
  | .receiving _ =>
    setReceiver .hunt (onLink (fun c => { c with truncated := bump32 c.truncated }) s)

/-- INTERBYTE_TIMEOUT (R188). -/
def execInterbyteTimeout (s : State) : Host.Outcome State Fault Refusal := whenPowered s truncate

/-- The link rate changes in both directions at the end of the reply to an accepted SET_LINK (R189). -/
def takeRate (rate : Option LinkRate) (s : State) : State :=
  match rate with
  | some x => truncate (s.onLp fun lp => { lp with rate := x })
  | none => s

/-- The transmitter idle, it begins what is next (R192). -/
def txIdle (s : State) : State := s.onLp fun lp => Lp.beginNext { lp with tx := .idle }

/-- FRAME_SENT (R192); a notice is counted as sent at its end (log entry 13). -/
def execFrameSent (s : State) : Host.Outcome State Fault Refusal :=
  whenPowered s fun s =>
    match s.lp.tx with
    | .idle => s
    | .sendingReply r => txIdle (takeRate r.newRate s)
    | .sendingNotice _ => txIdle (onLink (fun c => { c with noticesSent := bump32 c.noticesSent }) s)

/-- The kinds of the request catalogue (section 11.5). -/
def catalogueKinds : List Nat :=
  [0x01, 0x02, 0x03, 0x04, 0x05, 0x10, 0x11, 0x12, 0x13, 0x14, 0x15, 0x16, 0x20, 0x21, 0x22, 0x23,
    0x24, 0x25, 0x26, 0x30, 0x31, 0x32, 0x40, 0x41, 0x42, 0x43, 0x44, 0x50, 0x51, 0x60, 0x61, 0x62,
    0x70, 0x71]

/-- UNKNOWN_KIND_REQUEST (R191): a request whose kind is not in the catalogue. A kind of the catalogue is no such request and nothing happens. -/
def execUnknownKindRequest (kind tag : Byte) (payload : List Byte) (s : State) :
    Host.Outcome State Fault Refusal :=
  whenPowered s fun s =>
    if kind.toNat ∈ catalogueKinds then s
    else match takeUp ⟨kind, tag, payload⟩ s with
      | none => s
      | some s1 => giveReply kind tag (Answer.refuse s1 .unknownKind)

end Sys2Proof.Machine
end

