-- ==== Sys2Proof/Machine/LinkRequests.lean ====
section
/-! DEFINITION. The requests of the link itself, of the clock and of the status: IDENTIFY to READ_CLOCK (R173, R189, R196 to R198). -/

namespace Sys2Proof.Machine

/-- The identity text "ORFELD SB-440" in 16 bytes (R198). -/
def identityText : List Byte :=
  padTo 16 [0x4F, 0x52, 0x46, 0x45, 0x4C, 0x44, 0x20, 0x53, 0x42, 0x2D, 0x34, 0x34, 0x30]

def ownIdentify (_ : List Byte) (s : State) : Answer :=
  Answer.okay s (identityText ++ [1, byteOf s.set.configured, byteOf s.lp.rate.code])

/-- IDENTIFY (R198). -/
def execIdentify (tag : Byte) (payload : List Byte) (s : State) : Host.Outcome State Fault Refusal :=
  serve 0x01 0 ownIdentify tag payload s

def ownReadStatus (p : List Byte) (s : State) : Answer :=
  match statusSection s (byteAt p 0) with
  | some bs => Answer.okay s (byteOf (byteAt p 0) :: bs)
  | none => Answer.refuse s .badField

/-- READ_STATUS (R198, R204). -/
def execReadStatus (tag : Byte) (payload : List Byte) (s : State) : Host.Outcome State Fault Refusal :=
  serve 0x02 1 ownReadStatus tag payload s

/-- The rate a code names (R189). -/
def asRate : Nat → Option LinkRate
  | 0 => some .b115200
  | 1 => some .b230400
  | 2 => some .b460800
  | _ => none

def ownSetLink (p : List Byte) (s : State) : Answer :=
  match asRate (byteAt p 0) with
  | some x => ⟨s, .ok, [byteOf x.code], some x⟩
  | none => Answer.refuse s .badField

/-- SET_LINK (R189): the new rate is taken at the end of the reply. -/
def execSetLink (tag : Byte) (payload : List Byte) (s : State) : Host.Outcome State Fault Refusal :=
  serve 0x03 1 ownSetLink tag payload s

/-- The notice mask replaced; queued notices of masked kinds leave, the order of the rest kept (R196). -/
def Lp.setMask (lp : Lp) (mask : BitVec 24) : Lp :=
  Lp.withAttn { lp with mask := mask, queue := lp.queue.filter fun n => !kindIn mask n.kind }

def ownSetNoticeMask (p : List Byte) (s : State) : Answer :=
  let s1 := s.onLp (·.setMask (kindSet p))
  Answer.okay s1 (leBytes 3 s1.lp.mask.toNat)

/-- SET_NOTICE_MASK (R196). -/
def execSetNoticeMask (tag : Byte) (payload : List Byte) (s : State) :
    Host.Outcome State Fault Refusal :=
  serve 0x04 3 ownSetNoticeMask tag payload s

/-- The 24 kinds. -/
def kinds : List Kind :=
  [.lineState, .refState, .slip, .laneChange, .bladeFault, .tableReserve, .trackOverrun, .lostLoaf,
    .phantomLoaf, .escape, .divertFail, .baggerDown, .bagsLow, .clipsLow, .tyerReindex,
    .codeMismatch, .verifierBlind, .purgeDone, .crumbForced, .crumbModel, .shiftClosed, .storeDone,
    .storeFault, .linkSilent]

/-- Whether a CLEAR refuses a kind (R197). -/
def State.clearRefused (s : State) : Kind → Bool
  | .slip => s.sru.slipActive
  | .tableReserve => s.trk.reserveHeld
  | .baggerDown => decide (s.bag.state = .down ∧ s.bag.supply = 0)
  | .bagsLow => decide (s.bag.supply < s.set.bagsLow)
  | .clipsLow => decide (s.tie.supply < s.set.clipsLow)
  | .tyerReindex => s.tie.reindexCause
  | .verifierBlind => decide (s.lc.state ≠ .ready)
  | _ => false

/-- The named kinds that are refused. -/
def State.refusedKinds (s : State) (named : BitVec 24) : BitVec 24 :=
  (kinds.filter fun k => kindIn named k && s.clearRefused k).foldl (fun x k => x ||| k.bit) 0

/-- The acts that R108 and R122 attach to a CLEAR. -/
def clearActs (named : BitVec 24) (s : State) : State :=
  let s1 := if kindIn named .baggerDown then baggerCleared s else s
  if kindIn named .verifierBlind ∧ s.lc.state = .ready then s1.onTie fun t => { t with blind := false }
  else s1

def ownClear (p : List Byte) (s : State) : Answer :=
  let named := kindSet p
  let refused := s.refusedKinds named
  let s1 := (clearActs named s).onLp fun lp => { lp with flags := lp.flags &&& ~~~(named &&& ~~~refused) }
  Answer.okay (settle s s1.pos s1) (leBytes 3 refused.toNat)

/-- CLEAR (R197, R108, R122). -/
def execClear (tag : Byte) (payload : List Byte) (s : State) : Host.Outcome State Fault Refusal :=
  serve 0x05 3 ownClear tag payload s

def ownSetClock (p : List Byte) (s : State) : Answer :=
  let n := leNat p
  if Config.clockMax < n then Answer.refuse s .badField
  else Answer.okay (s.onPst fun x => { x with clock := n, clockValid := true })
    (leBytes 4 s.pst.clock ++ [flagByte s.pst.clockValid])

/-- SET_CLOCK (R173). -/
def execSetClock (tag : Byte) (payload : List Byte) (s : State) : Host.Outcome State Fault Refusal :=
  serve 0x10 4 ownSetClock tag payload s

def ownReadClock (_ : List Byte) (s : State) : Answer :=
  Answer.okay s (clockFields s.pst.clock s.set.dayBoundary s.pst.clockValid)

/-- READ_CLOCK (R173). -/
def execReadClock (tag : Byte) (payload : List Byte) (s : State) : Host.Outcome State Fault Refusal :=
  serve 0x11 0 ownReadClock tag payload s

end Sys2Proof.Machine
end

