-- ==== Sys2Proof/Machine/SupplyRequests.lean ====
section
/-! DEFINITION. The requests on supplies, the code check, crumb and shifts (R107, R114, R128, R134, R146, R150 to R152, R158). -/

namespace Sys2Proof.Machine

/-- The status of a load: CLAMPED above the greatest supply (R107, R114). -/
def loadStatus (top n : Nat) : Status := if top < n then .clamped else .ok

def ownLoadBags (p : List Byte) (s : State) : Answer :=
  let n := leNat p
  let s1 := s.onBag fun b =>
    { b with supply := min Config.bagMax n, state := baggerLoaded b.state (min Config.bagMax n) }
  let s2 := raiseBagsLow s.bag.supply s1
  ⟨settle s s2.pos s2, loadStatus Config.bagMax n,
    leBytes 2 s1.bag.supply ++ [byteOf s1.bag.state.code], none⟩

/-- LOAD_BAGS (R107, R106). -/
def execLoadBags (tag : Byte) (payload : List Byte) (s : State) : Host.Outcome State Fault Refusal :=
  serve 0x40 2 ownLoadBags tag payload s

/-- The tyer under a load of clips (R114). -/
def loadClips (n : Nat) (s : State) : State :=
  s.onTie fun t =>
    { t with
      supply := n
      state := (tyerLoaded t.state t.owed n).1
      owed := (tyerLoaded t.state t.owed n).2 }

def ownLoadClips (p : List Byte) (s : State) : Answer :=
  let n := leNat p
  let s1 := raiseClipsLow s.tie.supply (loadClips (min Config.clipMax n) s)
  let s2 := settle s s1.pos s1
  ⟨s2, loadStatus Config.clipMax n, leBytes 2 s2.tie.supply ++ [byteOf s2.tie.state.code], none⟩

/-- LOAD_CLIPS (R114, R113); the tyer state in the reply is the one after a reindex that the load starts at once (R126). -/
def execLoadClips (tag : Byte) (payload : List Byte) (s : State) : Host.Outcome State Fault Refusal :=
  serve 0x41 2 ownLoadClips tag payload s

def ownReadCodecheck (_ : List Byte) (s : State) : Answer := Answer.okay s (codecheckFields s)

/-- READ_CODECHECK (R128). -/
def execReadCodecheck (tag : Byte) (payload : List Byte) (s : State) :
    Host.Outcome State Fault Refusal :=
  serve 0x43 0 ownReadCodecheck tag payload s

def ownResetCodecheck (_ : List Byte) (s : State) : Answer := Answer.okay (resetCounters s) []

/-- RESET_CODECHECK (R128). -/
def execResetCodecheck (tag : Byte) (payload : List Byte) (s : State) :
    Host.Outcome State Fault Refusal :=
  serve 0x44 0 ownResetCodecheck tag payload s

def ownPurge (p : List Byte) (s : State) : Answer :=
  match asTarget (byteAt p 0) with
  | some t =>
    if s.targetConfigured t then
      let s1 := softRequest t s
      let s2 := settle s s1.pos s1
      Answer.okay s2 [byteOf (placeOf s2.crm.queue t), byteOf s2.crm.state.code]
    else Answer.refuse s .badField
  | none => Answer.refuse s .badField

/-- PURGE (R134). -/
def execPurge (tag : Byte) (payload : List Byte) (s : State) : Host.Outcome State Fault Refusal :=
  serve 0x50 1 ownPurge tag payload s

def ownReadCrumb (_ : List Byte) (s : State) : Answer := Answer.okay s (crumbFields s)

/-- READ_CRUMB (R146). -/
def execReadCrumb (tag : Byte) (payload : List Byte) (s : State) : Host.Outcome State Fault Refusal :=
  serve 0x51 0 ownReadCrumb tag payload s

/-! ### Shifts (R149 to R153) -/

/-- A shift at its open (R148). -/
def Shift.fresh (seq digit openTime : Nat) : Shift where
  seq := seq
  digit := digit
  openTime := openTime
  closeTime := none
  inTable := 0
  perLane := Vector.replicate 4 Counts.zero
  perSlot := Vector.replicate 16 Counts.zero
  reasons := Vector.replicate 12 0
  bags := 0
  clips := 0
  purges := Vector.replicate 4 0
  beltPurges := 0
  crumb := Vector.replicate 4 0
  lossEvents := 0
  phantoms := 0
  divertFails := 0
  caught := 0

/-- The shift sequence after one, 65535 being followed by 1 (R149). -/
def nextSeqAfter (n : Nat) : Nat := if n = 65535 then 1 else n + 1

/-- A shift digit is 1 to 9 (R150). -/
def digitOk (n : Nat) : Bool := decide (1 ≤ n ∧ n ≤ 9)

/-- An open (R149, R150): the new shift takes the next sequence, and the cell is written. -/
def openShift (digit : Nat) (s : State) : State :=
  let seq := s.nextShiftSeq
  (s.onTot fun t => { t with opened := some (Shift.fresh seq digit s.pst.clock) }).onNv fun nv =>
    { nv with seqCell := some (nextSeqAfter seq) }

def ownOpenShift (p : List Byte) (s : State) : Answer :=
  let digit := byteAt p 0
  if digitOk digit = false then Answer.refuse s .badField
  else if s.tot.opened.isSome then Answer.refuse s .wrongState
  else if s.pst.clockValid = false then Answer.refuse s .noClock
  else
    let s1 := openShift digit s
    Answer.okay (settle s s1.pos s1) (leBytes 2 s.nextShiftSeq ++ byteOf digit :: leBytes 4 s.pst.clock)

/-- OPEN_SHIFT (R150). -/
def execOpenShift (tag : Byte) (payload : List Byte) (s : State) : Host.Outcome State Fault Refusal :=
  serve 0x60 1 ownOpenShift tag payload s

/-- The OPEN shift moved to the CLOSING place with its close time (R151). -/
def startClosing (sh : Shift) (s : State) : State :=
  s.onTot fun t =>
    { t with opened := none, closing := some { sh with closeTime := some s.pst.clock } }

/-- A CLOSING shift with none of its records in the table becomes CLOSED, raising SHIFT_CLOSED (R153). -/
def settleShift (s : State) : State := raiseIfClosed s.tot (s.onTot Tot.settle)

/-- DRAIN asks LC for a drain when the line is STARTING or RUNNING (R152). -/
def drainForClose (s : State) : State :=
  if s.lc.state.spinsUp then requestDrain .shiftClose s else s

/-- The first condition of R151 that refuses a CLOSE_SHIFT, where one does. -/
def State.closeRefusal (s : State) (mode digit : Nat) : Option Status :=
  if 1 < mode then some .badField
  else if mode = 1 ∧ digitOk digit = false then some .badField
  else if s.tot.opened.isNone then some .noShift
  else if s.tot.closing.isSome then some .busy
  else if mode = 1 ∧ s.pst.clockValid = false then some .noClock
  else none

/-- An accepted CLOSE_SHIFT of the OPEN shift (R151 to R153). -/
def closeShift (rolling : Bool) (digit : Nat) (sh : Shift) (s : State) : State :=
  let s1 := startClosing sh s
  let s2 := if rolling then openShift digit s1 else s1
  let s3 := settleShift s2
  if rolling then s3 else drainForClose s3

def ownCloseShift (p : List Byte) (s : State) : Answer :=
  let rolling := decide (byteAt p 0 = 1)
  match s.closeRefusal (byteAt p 0) (byteAt p 1), s.tot.opened with
  | none, some sh =>
    let s1 := closeShift rolling (byteAt p 1) sh s
    Answer.okay (settle s s1.pos s1)
      (leBytes 2 sh.seq ++ [byteOf sh.inTable, flagByte (decide (sh.inTable = 0))] ++
        leBytes 2 (if rolling then s.nextShiftSeq else 0))
  | some st, _ => Answer.refuse s st
  | none, none => Answer.refuse s .noShift

/-- CLOSE_SHIFT (R151). -/
def execCloseShift (tag : Byte) (payload : List Byte) (s : State) : Host.Outcome State Fault Refusal :=
  serve 0x61 2 ownCloseShift tag payload s

/-- The shift in a selected place, with the place (R158). -/
def State.placed (s : State) : Nat → Place × Option Shift
  | 0 => (.opened, s.tot.opened)
  | 1 => (.closing, s.tot.closing)
  | _ => (.closed, s.tot.closed)

/-- A section of a shift (R202). -/
def totalsSection (sh : Shift) (group : Nat) : Nat → List Byte
  | 0 => lanesSection sh
  | 1 => profilesSection sh group
  | _ => reasonsSection sh

def ownReadTotals (p : List Byte) (s : State) : Answer :=
  let sel := byteAt p 0
  let sec := byteAt p 1
  let group := byteAt p 2
  if 2 < sel ∨ 2 < sec ∨ (sec = 1 ∧ 3 < group) then Answer.refuse s .badField
  else match s.placed sel with
    | (place, some sh) =>
      Answer.okay s ([byteOf sel, byteOf sec, byteOf group] ++ headingBytes place sh ++
        totalsSection sh group sec)
    | (_, none) => Answer.refuse s .notFound

/-- READ_TOTALS (R158, R202). -/
def execReadTotals (tag : Byte) (payload : List Byte) (s : State) : Host.Outcome State Fault Refusal :=
  serve 0x62 3 ownReadTotals tag payload s

end Sys2Proof.Machine
end

