-- ==== Sys2Proof/Machine/Dispatch.lean ====
section
/-! DEFINITION. The dispatch: one arm for each command, calling its meaning. -/

namespace Sys2Proof.Machine

/-- The effect of one command on everything but the queue of waiting commands. -/
def exec (i : Instr) (s : State) : Host.Outcome State Fault Refusal :=
  match i with
  | .powerOn estop => Sys2Proof.Machine.execPowerOn estop s
  | .lineEncoderPulse source => Sys2Proof.Machine.execLineEncoderPulse source s
  | .pacerAdvance ms => Sys2Proof.Machine.execPacerAdvance ms s
  | .bladeEncoderPulse head => Sys2Proof.Machine.execBladeEncoderPulse head s
  | .windowEnd => Sys2Proof.Machine.execWindowEnd s
  | .infeedLeadingEdge lane => Sys2Proof.Machine.execInfeedLeadingEdge lane s
  | .infeedTrailingEdge lane => Sys2Proof.Machine.execInfeedTrailingEdge lane s
  | .pocketArrival lane => Sys2Proof.Machine.execPocketArrival lane s
  | .mergeReleaseEdge => Sys2Proof.Machine.execMergeReleaseEdge s
  | .exitArrival => Sys2Proof.Machine.execExitArrival s
  | .chuteArrival => Sys2Proof.Machine.execChuteArrival s
  | .bagOpenSignal => Sys2Proof.Machine.execBagOpenSignal s
  | .estopAsserted => Sys2Proof.Machine.execEstopAsserted s
  | .estopReleased => Sys2Proof.Machine.execEstopReleased s
  | .codeReaderAnswer bytes => Sys2Proof.Machine.execCodeReaderAnswer bytes s
  | .weighAnswer tray load => Sys2Proof.Machine.execWeighAnswer tray load s
  | .frameReceived bytes => Sys2Proof.Machine.execFrameReceived bytes s
  | .interbyteTimeout => Sys2Proof.Machine.execInterbyteTimeout s
  | .frameSent => Sys2Proof.Machine.execFrameSent s
  | .clockTick => Sys2Proof.Machine.execClockTick s
  | .demandRamp ms => Sys2Proof.Machine.execDemandRamp ms s
  | .holdoverTimerExpiry => Sys2Proof.Machine.execHoldoverTimerExpiry s
  | .spinupTimerExpiry head => Sys2Proof.Machine.execSpinupTimerExpiry head s
  | .retrialTimerExpiry lane => Sys2Proof.Machine.execRetrialTimerExpiry lane s
  | .bagConfirmTimerExpiry => Sys2Proof.Machine.execBagConfirmTimerExpiry s
  | .changeoverTimerExpiry => Sys2Proof.Machine.execChangeoverTimerExpiry s
  | .reindexTimerExpiry => Sys2Proof.Machine.execReindexTimerExpiry s
  | .purgeTimerExpiry => Sys2Proof.Machine.execPurgeTimerExpiry s
  | .settleTimerExpiry => Sys2Proof.Machine.execSettleTimerExpiry s
  | .weighTimerExpiry => Sys2Proof.Machine.execWeighTimerExpiry s
  | .startLimitExpiry => Sys2Proof.Machine.execStartLimitExpiry s
  | .silenceTimerExpiry => Sys2Proof.Machine.execSilenceTimerExpiry s
  | .storeComplete failed => Sys2Proof.Machine.execStoreComplete failed s
  | .unknownKindRequest kind tag payload => Sys2Proof.Machine.execUnknownKindRequest kind tag payload s
  | .identify tag payload => Sys2Proof.Machine.execIdentify tag payload s
  | .readStatus tag payload => Sys2Proof.Machine.execReadStatus tag payload s
  | .setLink tag payload => Sys2Proof.Machine.execSetLink tag payload s
  | .setNoticeMask tag payload => Sys2Proof.Machine.execSetNoticeMask tag payload s
  | .clear tag payload => Sys2Proof.Machine.execClear tag payload s
  | .setClock tag payload => Sys2Proof.Machine.execSetClock tag payload s
  | .readClock tag payload => Sys2Proof.Machine.execReadClock tag payload s
  | .putProfile tag payload => Sys2Proof.Machine.execPutProfile tag payload s
  | .getProfile tag payload => Sys2Proof.Machine.execGetProfile tag payload s
  | .setLine tag payload => Sys2Proof.Machine.execSetLine tag payload s
  | .getLine tag payload => Sys2Proof.Machine.execGetLine tag payload s
  | .store tag payload => Sys2Proof.Machine.execStore tag payload s
  | .start tag payload => Sys2Proof.Machine.execStart tag payload s
  | .stop tag payload => Sys2Proof.Machine.execStop tag payload s
  | .halt tag payload => Sys2Proof.Machine.execHalt tag payload s
  | .clearTrack tag payload => Sys2Proof.Machine.execClearTrack tag payload s
  | .restart tag payload => Sys2Proof.Machine.execRestart tag payload s
  | .setSpeed tag payload => Sys2Proof.Machine.execSetSpeed tag payload s
  | .setReference tag payload => Sys2Proof.Machine.execSetReference tag payload s
  | .setLanes tag payload => Sys2Proof.Machine.execSetLanes tag payload s
  | .setLaneProfile tag payload => Sys2Proof.Machine.execSetLaneProfile tag payload s
  | .clearLane tag payload => Sys2Proof.Machine.execClearLane tag payload s
  | .loadBags tag payload => Sys2Proof.Machine.execLoadBags tag payload s
  | .loadClips tag payload => Sys2Proof.Machine.execLoadClips tag payload s
  | .setChallenge tag payload => Sys2Proof.Machine.execSetChallenge tag payload s
  | .readCodecheck tag payload => Sys2Proof.Machine.execReadCodecheck tag payload s
  | .resetCodecheck tag payload => Sys2Proof.Machine.execResetCodecheck tag payload s
  | .purge tag payload => Sys2Proof.Machine.execPurge tag payload s
  | .readCrumb tag payload => Sys2Proof.Machine.execReadCrumb tag payload s
  | .openShift tag payload => Sys2Proof.Machine.execOpenShift tag payload s
  | .closeShift tag payload => Sys2Proof.Machine.execCloseShift tag payload s
  | .readTotals tag payload => Sys2Proof.Machine.execReadTotals tag payload s
  | .readTrack tag payload => Sys2Proof.Machine.execReadTrack tag payload s
  | .rejectLoaf tag payload => Sys2Proof.Machine.execRejectLoaf tag payload s
  | .powerLoss written damaged => Sys2Proof.Machine.execPowerLoss written damaged s

end Sys2Proof.Machine
end

