-- ==== Sys2Proof/Machine/Time.lean ====
section
/-! DEFINITION. What passes with time while no command waits: one millisecond of every running timer (log entry 2). -/

namespace Sys2Proof.Machine

/-- One millisecond of a changeover's timer. -/
def Changeover.tick : Changeover → Changeover
  | .running c left => .running c (left - 1)
  | x => x

/-- One millisecond of every running timer of every block. A timer that stands at 0 waits for its expiry command (log entries 2 and 3). -/
def tickTimers (s : State) : State :=
  { s with
    sru := { s.sru with windowLeft := s.sru.windowLeft - 1, holdover := tickTimer s.sru.holdover }
    lc := { s.lc with startLimit := tickTimer s.lc.startLimit, silence := tickTimer s.lc.silence }
    hd :=
      { heads := s.hd.heads.map fun h => { h with spinup := tickTimer h.spinup }
        lanes := s.hd.lanes.map fun c => { c with retrial := tickTimer c.retrial } }
    arb := { s.arb with changeover := s.arb.changeover.tick }
    bag := { s.bag with confirm := tickTimer s.bag.confirm }
    tie := { s.tie with reindex := tickTimer s.tie.reindex }
    crm := { s.crm with
      purge := tickTimer s.crm.purge
      settle := tickTimer s.crm.settle
      weigh := tickTimer s.crm.weigh } }

/-- What a step does when no command waits: without power nothing. -/
def idle (s : State) : State := if s.powered then tickTimers s else s

end Sys2Proof.Machine
end

