-- ==== Sys2Proof/Safety.lean ====
section
/-! DEFINITION. The terms of the claims: what a command leaves alone, what a safe run is, a request being answered, and the conditions that every step keeps. -/

namespace Sys2Proof.Machine

/-! ### What a command leaves alone -/

/-- A set of parts of the state. `link` is LP's receiver, rate, mask and counters; `lp` the rest of LP; `pos` is the
line position and `sru` the rest of SRU; `ask` is LC's set speed and E-stop input and `lc` the rest of LC; `refs` is
PST's reference counts and `pst` the rest of PST. -/
structure Parts where
  lp : Bool := false
  link : Bool := false
  sru : Bool := false
  pos : Bool := false
  lc : Bool := false
  ask : Bool := false
  trk : Bool := false
  hd : Bool := false
  arb : Bool := false
  bag : Bool := false
  tie : Bool := false
  crm : Bool := false
  tot : Bool := false
  pst : Bool := false
  refs : Bool := false
  nv : Bool := false
deriving DecidableEq, Repr

/-- The state with some parts blanked out, so that two states agree on every other part when their blanked states are equal. -/
def State.without (b : Parts) (s : State) : State where
  pending := s.pending
  powered := s.powered
  lp :=
    { receiver := if b.link then .hunt else s.lp.receiver
      rate := if b.link then .b115200 else s.lp.rate
      mask := if b.link then 0 else s.lp.mask
      counters := if b.link then ⟨0, 0, 0, 0, 0, 0⟩ else s.lp.counters
      hand := if b.lp then none else s.lp.hand
      waiting := if b.lp then none else s.lp.waiting
      reply := if b.lp then none else s.lp.reply
      tx := if b.lp then .idle else s.lp.tx
      flags := if b.lp then 0 else s.lp.flags
      queue := if b.lp then [] else s.lp.queue
      attn := if b.lp then false else s.lp.attn }
  sru := { (if b.sru then Sru.powerOn 0 0 0 else s.sru) with pos := if b.pos then 0 else s.sru.pos }
  lc := { (if b.lc then Lc.powerOn 0 false else s.lc) with
    setSpeed := if b.ask then 0 else s.lc.setSpeed
    estop := if b.ask then false else s.lc.estop }
  trk := if b.trk then Trk.powerOn else s.trk
  hd := if b.hd then Hd.powerOn 0 else s.hd
  arb := if b.arb then Arb.powerOn else s.arb
  bag := if b.bag then Bag.powerOn else s.bag
  tie := if b.tie then Tie.powerOn else s.tie
  crm := if b.crm then Crm.powerOn else s.crm
  tot := if b.tot then Tot.powerOn else s.tot
  pst := { (if b.pst then Pst.unloaded else s.pst) with
    refs := if b.refs then Vector.replicate 16 0 else s.pst.refs }
  nv := if b.nv then Nonvolatile.blank else s.nv

/-- The two states agree on everything but some parts. -/
def SameBut (b : Parts) (s t : State) : Prop := t.without b = s.without b

/-! ### Safe runs -/

/-- A run of `n` steps is safe when it stops in no fault and no refusal. -/
def SafeRun (n : Nat) (s : State) : Prop := ∃ t, Host.Core.run Sys2Proof.core n s = .next t

/-! ### Requests being answered (R190, R191) -/

/-- The part has power, and handles a request: it is the request in hand and its reply is not yet ready (R190). -/
def Handling (r : Req) (s : State) : Prop :=
  s.powered = true ∧ s.lp.hand = some r ∧ s.lp.reply = none

/-- A reply with a status and fields to a request stands in LP: ready, or being sent (R191, R192). -/
def ReplyStands (r : Req) (st : Status) (fields : List Byte) (rate : Option LinkRate) (t : State) : Prop :=
  t.lp.tx = .sendingReply ⟨replyFrame r.kind r.tag st fields, rate⟩ ∨
    t.lp.reply = some ⟨replyFrame r.kind r.tag st fields, rate⟩

/-- A command takes effect: `u` is what the command itself does, and the blocks then settle what that makes due at once. -/
def Effect (c : Instr) (s u : State) : Prop := exec c s = .next (settle s u.pos u)

/-- A request is answered: `u` is what the request itself does, the blocks settle what that makes due at once, and the reply is then made ready. -/
def Replies (c : Instr) (r : Req) (st : Status) (fields : State → List Byte) (s u : State) : Prop :=
  exec c s = .next
    (replyReady ⟨replyFrame r.kind r.tag st (fields (settle s u.pos u)), none⟩ (settle s u.pos u))

/-- A request is refused: the reply carries the status, and nothing but LP changes (R191). -/
def Refused (c : Instr) (r : Req) (st : Status) (s : State) : Prop :=
  exec c s = .next (replyReady ⟨replyFrame r.kind r.tag st [], none⟩ s)

/-! ### Monitors, shifts, records -/

/-- What a window end makes of a monitor with nominal count `n` (R3 to R6). -/
def MonitorStep (x : LineSettings) (n : Nat) (m m' : Monitor) : Prop :=
  let accept := n * x.acceptPct / 100
  let reject := n * x.rejectPct / 100
  let d := (m.count - n) + (n - m.count)
  m'.count = 0 ∧
    (n < 8 ∨ (accept < d ∧ d ≤ reject) →
      m'.qualified = m.qualified ∧ m'.acceptRun = m.acceptRun ∧ m'.rejectRun = m.rejectRun) ∧
    (8 ≤ n ∧ d ≤ accept → m.qualified = false →
      if max 1 x.q ≤ m.acceptRun + 1 then m'.qualified = true ∧ m'.acceptRun = 0 ∧ m'.rejectRun = 0
      else m'.qualified = false ∧ m'.acceptRun = m.acceptRun + 1) ∧
    (8 ≤ n ∧ d ≤ accept → m.qualified = true → m'.qualified = true ∧ m'.rejectRun = 0) ∧
    (8 ≤ n ∧ accept < d ∧ reject < d → m.qualified = false → m'.qualified = false ∧ m'.acceptRun = 0) ∧
    (8 ≤ n ∧ accept < d ∧ reject < d → m.qualified = true →
      if max 1 x.f ≤ m.rejectRun + 1 then m'.qualified = false ∧ m'.acceptRun = 0 ∧ m'.rejectRun = 0
      else m'.qualified = true ∧ m'.rejectRun = m.rejectRun + 1)

/-- The six dispositions of nine counts together (R49). -/
def Counts.ended (c : Counts) : Nat := c.good + c.rejected + c.challenge + c.escape + c.lost + c.cleared

/-- The balance of a shift with the records that carry its tag: lane by lane, what it admitted is in the table or was
retired with one disposition, as long as the admitted count has not reached its greatest value (R155). -/
def Balances (records : List Rec) (sh : Shift) : Prop :=
  sh.inTable = (records.filter fun r => r.tag == sh.seq).length ∧
    ∀ l : Lane, sh.perLane[l].admitted < Config.count32 →
      sh.perLane[l].admitted =
        (records.filter fun r => r.tag == sh.seq && r.lane == l).length + sh.perLane[l].ended

/-- A cut position of a plan within its loaf, counted in track units from the leading edge (R61). -/
def CutsFit (p : Profile) (len k : Nat) : Prop :=
  cutOffset p len k 0 = p.e ∧ cutOffset p len k k + p.e = len ∧
    ∀ i, i < k → cutOffset p len k i < cutOffset p len k (i + 1)

/-- Every record but the one with a number reads as before, and every queue holds the same loaves in the same order. -/
def RecordsBut (loaf : Nat) (s u : State) : Prop :=
  (∀ k, k ≠ loaf → u.find k = s.find k) ∧
    (∀ l, (u.queue l).map Rec.loaf = (s.queue l).map Rec.loaf) ∧
    u.trk.post.map Rec.loaf = s.trk.post.map Rec.loaf

/-- The record with a number changes from `r` to `r'`, and no other record changes. -/
def RecordBecomes (r r' : Rec) (s u : State) : Prop :=
  s.find r.loaf = some r → u.find r.loaf = some r' ∧ RecordsBut r.loaf s u

/-- Every head and lane but those of one number reads as before. -/
def OtherLanesKept (l : Lane) (s u : State) : Prop :=
  ∀ k, k ≠ l → u.head k = s.head k ∧ u.lane k = s.lane k

/-- The table with every record not DECIDED marked suspect (R23). -/
def SuspectMarked (s u : State) : Prop :=
  let mark := List.map fun r : Rec => if r.state = .decided then r else { r with suspect := true }
  u.trk.post = mark s.trk.post ∧ ∀ l, u.queue l = mark (s.queue l)

/-- What a trailing edge makes of a record of length `len` under the profile of its slot (R55 to R60), with the greatest cut rate and the speed estimate. -/
def PlanMade (p : Profile) (rmax v len : Nat) (r r' : Rec) : Prop :=
  let sliceable := len - 2 * p.e
  let k := max (p.nmin - 2) (min (p.nmax - 2) ((sliceable + p.t / 2) / p.t))
  let m := { r with length := some len, state := .planned }
  (len < p.lmin → r' = { m.addReason .short with cls := some .short }) ∧
    (p.lmin ≤ len → p.lmax < len → 2 * p.lmin ≤ len →
      r' = { m.addReason .tailgate with cls := some .tailgate }) ∧
    (p.lmin ≤ len → p.lmax < len → len < 2 * p.lmin → r' = { m.addReason .long with cls := some .long }) ∧
    (p.lmin ≤ len → len ≤ p.lmax →
      ((r.suspect = true ∨ Reason.blade ∈ r.reasons) → r' = { m with cls := some .normal }) ∧
      (r.suspect = false → Reason.blade ∉ r.reasons →
        (k * v ≤ rmax * sliceable →
          r' = { m with cls := some .normal, plan := some ⟨k, sliceable * 256 / k, false⟩ }) ∧
        (rmax * sliceable < k * v → p.nmin - 2 ≤ rmax * sliceable / v →
          r' = { m with
            cls := some .normal
            plan := some ⟨rmax * sliceable / v, sliceable * 256 / (rmax * sliceable / v), true⟩ }) ∧
        (rmax * sliceable < k * v → rmax * sliceable / v < p.nmin - 2 →
          r' = { m.addReason .overspeed with cls := some .normal })))

/-- A lane takes a lane fault while narrowing is on (R79, R83). -/
def FaultTaken (fault : LaneFault) (spinning : Bool) (l : Lane) (s u : State) : Prop :=
  let c := s.lane l
  let d := u.lane l
  let fails := min 15 (c.trialFails + 1)
  d.lastFault = some (fault, s.pos) ∧ d.target = c.target ∧ u.flag .laneChange = true ∧
    (c.state = .running → d.state = .down ∧ d.trialFails = c.trialFails) ∧
    (c.state = .trial → d.trialFails = fails ∧ d.trialList = [] ∧ d.trialLeft = 0 ∧
      d.state = if s.set.trialLimit ≠ 0 ∧ s.set.trialLimit ≤ fails then .parked else .down) ∧
    (c.state = .down → d.state = .down ∧ d.retrial = none ∧ d.trialFails = c.trialFails) ∧
    (c.state = .parked → d.state = .parked ∧ d.trialFails = c.trialFails) ∧
    (c.state = .idle → d.trialFails = c.trialFails ∧
      d.state = if spinning ∧ c.target ∧ (s.lc.state = .starting ∨ s.lc.state = .running) then .down
        else .idle)

/-- A lane takes a lane fault while narrowing is off: a lane that the fault takes out of service asks for a drain with
cause LANE_FAULT, which a STARTING line over an empty table answers by returning to READY (R80, R179). -/
def FaultDrains (fault : LaneFault) (spinning : Bool) (l : Lane) (s u : State) : Prop :=
  let c := s.lane l
  let out := c.state = .running ∨ c.state = .trial ∨
    (c.state = .idle ∧ spinning = true ∧ c.target = true ∧ (s.lc.state = .starting ∨ s.lc.state = .running))
  u.flag .laneChange = true ∧ (u.lane l).lastFault = some (fault, s.pos) ∧ (u.lane l).target = c.target ∧
    (¬out ∨ (s.lc.state ≠ .starting ∧ s.lc.state ≠ .running) →
      u.lc = s.lc ∧ FaultTaken fault spinning l s u) ∧
    (out → s.lc.state = .running ∨ (s.lc.state = .starting ∧ s.tableCount ≠ 0) →
      FaultTaken fault spinning l s u ∧ u.flag .lineState = true ∧
        u.lc = { s.lc with state := .draining, cause := .laneFault, startLimit := none, silence := none }) ∧
    (out → s.lc.state = .starting → s.tableCount = 0 →
      u.lc.state = .ready ∧ u.lc.cause = .laneFault ∧ u.lc.startLimit = none ∧ u.sru.state = .idle ∧
        u.flag .lineState = true ∧ ((u.lane l).state = .idle ∨ (u.lane l).state = .parked))

/-- ARB may grant: no member of the withhold set is due, no grant is in flight, and the spacing point is reached by the position `h` up to which events have been taken (R91, R93, R96, R102, R111, R137). -/
def GrantDue (h : Nat) (u : State) : Prop :=
  (u.lc.state = .running ∨ u.lc.state = .draining) ∧ u.arb.changeover = .none ∧
    (u.bag.state = .ready ∨ u.bag.state = .cycle) ∧ u.tie.state = .ready ∧
    (∀ e rest, u.crm.queue = e :: rest → e.target ≠ .belt) ∧ u.arb.flight = none ∧
    ∀ x, u.arb.spacing = some x → x.lead + (x.length + u.set.minGap) * 65536 ≤ h

/-- A record's retirement (R49): it leaves its queue, is counted with its disposition in the shift of its tag over the
totals `before`, which a CLOSING shift with no record left leaves as CLOSED, frees its slot reference, and takes its read out of the open reads (R118, R153, R155, R163). -/
def RetiredAs (r : Rec) (d : Disposition) (before : Tot) (s u : State) : Prop :=
  u.trk = { s.trk with
      queues := s.trk.queues.map (List.filter fun x => x.loaf != r.loaf)
      post := s.trk.post.filter fun x => x.loaf != r.loaf } ∧
    u.tot = (onTagged r.tag (·.retire r d) before).settle ∧
    u.pst.refs = putAt s.pst.refs r.slot (s.pst.refs[r.slot] - 1) ∧
    u.tie.openReads = s.tie.openReads.filter (fun o => o.loaf != r.loaf)

/-- An event of the line changes the OPEN shift, else the CLOSING one, else none (R156). -/
def LineCounted (f : Shift → Shift) (s u : State) : Prop :=
  (∀ sh, s.tot.opened = some sh → u.tot = { s.tot with opened := some (f sh) }) ∧
    (∀ sh, s.tot.opened = none → s.tot.closing = some sh → u.tot = { s.tot with closing := some (f sh) }) ∧
    (s.tot.opened = none → s.tot.closing = none → u.tot = s.tot)

/-- A phantom is counted in the shift that stands (R41, R46, R47, R100, R156). -/
def PhantomCounted (s u : State) : Prop :=
  LineCounted (fun sh => { sh with phantoms := min 4294967295 (sh.phantoms + 1) }) s u

/-- A departure from TRACK is counted in its nonvolatile cell and in the shift that stands (R22, R156). -/
def LossCounted (s u : State) : Prop :=
  u.nv = { s.nv with lossCell := some (min 4294967295 (s.lossCount + 1)) } ∧
    LineCounted (fun sh => { sh with lossEvents := min 4294967295 (sh.lossEvents + 1) }) s u

/-- A record leaves its lane's trial list; the last to leave with no admissions remaining ends the TRIAL in RUNNING (R82). -/
def LeavesTrialList (l : Lane) (loaf : Nat) (s u : State) : Prop :=
  let c := s.lane l
  let left := c.trialList.filter (· != loaf)
  u.hd.heads = s.hd.heads ∧ OtherLanesKept l s u ∧
    (loaf ∉ c.trialList → u.lane l = c) ∧
    (loaf ∈ c.trialList → ¬(left = [] ∧ c.trialLeft = 0 ∧ c.state = .trial) →
      u.lane l = { c with trialList := left }) ∧
    (loaf ∈ c.trialList → left = [] ∧ c.trialLeft = 0 ∧ c.state = .trial →
      u.flag .laneChange = true ∧ u.lane l = { c with trialList := [], trialFails := 0, state := .running })

/-- The burst window after a bad read of a record without the challenge mark: its entry, where it stands, is marked (R124). -/
def MarkedBurst (s : State) (r : Rec) : List BurstEntry :=
  if r.challenge then s.tie.burst else
    s.tie.burst.map fun e => if e.loaf = r.loaf then { e with bad := true } else e

/-- What a bad read of a record makes of the burst window and the tyer (R124, R125): a burst is found when the record
has no challenge mark, its entry still stands, and the marked entries have reached the burst limit. -/
def BurstTaken (r : Rec) (s u : State) : Prop :=
  let marked := MarkedBurst s r
  let burst := r.challenge = false ∧ (∃ e ∈ s.tie.burst, e.loaf = r.loaf) ∧
    s.set.burstLimit ≤ (marked.filter (·.bad)).length
  u.tie.burst = marked ∧
    (burst → s.tie.state = .ready →
      u.tie.state = .reindexPending ∧ u.tie.owed = s.tie.owed ∧ u.flag .tyerReindex = true) ∧
    (burst → s.tie.state = .empty → u.tie.state = .empty ∧ u.tie.owed = true ∧
      (s.tie.owed = false → u.flag .tyerReindex = true)) ∧
    (¬burst ∨ s.tie.state = .reindexPending ∨ s.tie.state = .reindex →
      u.tie.state = s.tie.state ∧ u.tie.owed = s.tie.owed)

/-- The source that R13 chooses under some settings, from the source selected and the qualification of W and M. -/
def SourceChosen (x : RefSettings) (selected : Source) (w m : Bool) (src : Option LineSource) : Prop :=
  (x.mode = .fixed → src = if (match x.fixedSource with | .w => w | .m => m) then some x.fixedSource else none) ∧
    (x.mode = .auto →
      (x.revertive = false ∧ selected = .encoder .m ∧ m = true → src = some .m) ∧
      (¬(x.revertive = false ∧ selected = .encoder .m ∧ m = true) →
        (w = true → src = some .w) ∧ (w = false → m = true → src = some .m) ∧
        (w = false → m = false → src = none)))

/-- What a window end makes of a head and its lane by the class its monitor has taken, while narrowing is on: a blade
in SPINUP that qualifies is RUNNING and its lane comes into service, a RUNNING one that is disqualified faults, any other stays (R73, R77, R82, R84). -/
def BladeClassed (l : Lane) (s u : State) : Prop :=
  let h := s.head l
  let c := s.lane l
  let qualifies := h.blade = .spinup ∧ (u.head l).mon.qualified = true
  let faults := h.blade = .running ∧ h.mon.qualified = true ∧ (u.head l).mon.qualified = false
  (qualifies → (u.head l).blade = .running ∧ (u.head l).spinup = none ∧
    u.lane l =
      if c.state = .idle ∧ c.target = true ∧
          (s.lc.state = .starting ∨ s.lc.state = .running ∨ s.lc.state = .draining) then
        { c with state := .running }
      else if c.state = .trial ∧ c.trialRan = false then
        { c with trialLeft := s.set.trialLoaves, trialRan := true }
      else c) ∧
  (¬qualifies → ¬faults →
    (u.head l).blade = h.blade ∧ (u.head l).spinup = h.spinup ∧ u.lane l = c) ∧
  (faults → (u.head l).blade = .fault ∧ u.flag .bladeFault = true ∧ FaultTaken .blade false l s u ∧
    (∀ r ∈ s.queue l, ∃ x ∈ u.queue l, x.loaf = r.loaf ∧ x.state = r.state ∧ x.cutsDone = r.cutsDone ∧
      (r.state = .measuring ∨ r.state = .planned ∨ r.state = .slicing → Reason.blade ∈ x.reasons) ∧
      (r.state = .planned → x.plan = none) ∧
      (r.state = .slicing → x.slicingEnded = true ∧ x.plan = r.plan)) ∧
    ∀ r, (s.queue l).find? (fun r => r.state == .slicing) = some r → r.slicingEnded = false →
      let k := s.crm.heads[l]
      u.crm.heads[l].estimate =
        min 4000000 (k.estimate + r.cutsDone * (s.profile r.slot).crumb * k.correction / 64))

/-- A record retires LOST before its merge and its lane takes the lane fault POCKET_LOST, in this order, with narrowing
on or off (R42, R49, R80, R82, R99); `x` is the record as it retires. -/
def PocketLostTaken (x : Rec) (s u : State) : Prop :=
  ∃ m, SameBut { lp := true, trk := true, hd := true, arb := true, tie := true, tot := true, refs := true } s m ∧
    RetiredAs x .lost s.tot s m ∧ LeavesTrialList x.lane x.loaf s m ∧ m.flag .lostLoaf = true ∧
    (s.set.narrowing = true → SameBut { lp := true, hd := true } m u ∧ FaultTaken .pocketLost false x.lane m u ∧
      u.hd.heads = m.hd.heads ∧ OtherLanesKept x.lane m u) ∧
    (s.set.narrowing = false → SameBut { lp := true, sru := true, lc := true, hd := true } m u ∧
      FaultDrains .pocketLost false x.lane m u) ∧
    u.flag .lostLoaf = true

/-- What every entry to READY or HALTED makes of a lane (R84). -/
def LaneAtRest (c d : LaneCtl) : Prop :=
  d.state = (if c.state = .parked then .parked else .idle) ∧ d.target = c.target ∧ d.trialLeft = 0 ∧
    d.trialList = [] ∧ d.retrial = none ∧ d.trialFails = c.trialFails ∧ d.lastFault = c.lastFault

/-- The line enters READY (R175, R17, R84). -/
def ReadyTaken (cause : StopCause) (s u : State) : Prop :=
  SameBut { lp := true, sru := true, lc := true, hd := true } s u ∧
    u.lc.state = .ready ∧ u.lc.cause = cause ∧ u.lc.startLimit = none ∧ u.lc.silence = none ∧
    u.lc.demand = s.lc.demand ∧ u.sru.state = .idle ∧ u.flag .lineState = true ∧
    ∀ l, LaneAtRest (s.lane l) (u.lane l) ∧
      (u.head l).blade =
        if (s.head l).blade = .spinup ∨ (s.head l).blade = .running then .stopped else (s.head l).blade

/-- The line enters HALTED, and each block takes it: a bag attempt in progress ends with NOT_BAGGED and BAG_MISS, the
bagger READY or EMPTY by its supply and its misses as they were; a reindex is pending again; a running purge waits, the queue as it is (log entry 46) (R181, R17, R84, R100, R104, R126, R144). -/
def HaltTaken (cause : StopCause) (s u : State) : Prop :=
  SameBut { lp := true, sru := true, lc := true, trk := true, hd := true, arb := true, bag := true, tie := true, crm := true } s u ∧
    u.lc.state = .halted ∧ u.lc.cause = cause ∧ u.lc.demand = 0 ∧ u.lc.target = 0 ∧
    u.lc.startLimit = none ∧ u.lc.silence = none ∧ u.sru.state = .idle ∧ u.flag .lineState = true ∧
    (∀ l, LaneAtRest (s.lane l) (u.lane l) ∧
      (u.head l).blade = if (s.head l).blade = .fault then .fault else .stopped) ∧
    u.arb = { s.arb with pushers := Vector.replicate 4 false } ∧
    u.tie = (if s.tie.state = .reindex then
      { s.tie with state := .reindexPending, reindex := none, tyerOut := .none } else s.tie) ∧
    u.crm.queue = s.crm.queue ∧ u.crm.heads = s.crm.heads ∧ u.crm.belt = s.crm.belt ∧
    (s.crm.running = true → u.crm.state = .wait ∧ u.crm.cycle = none ∧ u.crm.air = none ∧
      u.crm.purge = none ∧ u.crm.settle = none ∧ u.crm.weigh = none) ∧
    (s.bag.attempt = none → u.trk = s.trk ∧ u.bag = s.bag) ∧
    ∀ a, s.bag.attempt = some a →
      u.bag = ⟨s.bag.supply, if s.bag.supply = 0 then .empty else .ready, s.bag.misses, none, none, false⟩ ∧
        RecordsBut a.loaf s u ∧
        ∀ r, s.find a.loaf = some r → u.find a.loaf = some { r.addReason .bagMiss with
          bagResult := some .notBagged, state := if r.state = .merged then .bagged else r.state }

/-! ### Gates (R33, R34) -/

/-- A lane's gate follows the eight conditions of R33, bit c - 1 of what holds it closed standing exactly while
condition c fails: the pre-merge count of R31, the reserve of R34 and the purge gap of R136 among them. -/
def GateFollows (s : State) (l : Lane) : Prop :=
  let admits : Lane → Bool := fun k =>
    decide ((s.lane k).state = .running ∨ ((s.lane k).state = .trial ∧ 0 < (s.lane k).trialLeft))
  let fails : Nat → Bool := fun c => s.trk.closedBy[l].getLsbD (c - 1)
  (fails 1 = true ↔ s.lc.state ≠ .running) ∧ (fails 2 = true ↔ s.sru.state ≠ .track) ∧
    (fails 3 = true ↔ admits l = false) ∧ (fails 4 = true ↔ s.tot.opened = none) ∧
    (fails 5 = true ↔
      s.set.laneWindow ≤ (s.queue l).length + if s.arb.flight.map Grant.lane = some l then 1 else 0) ∧
    (fails 6 = true ↔ 96 - s.tableCount ≤ (lanes.filter admits).length) ∧
    (fails 7 = true ↔ ∃ e ∈ s.crm.queue.find? (fun e => e.target == .head l),
      e.group = .forced ∨ s.crm.queue.head? = some e) ∧
    (fails 8 = true ↔ (s.head l).blade ≠ .running)

/-- Each member of the withhold set stands exactly while its holder holds it (R91, R96, R102, R111, R137). -/
def WithholdFollows (s : State) : Prop :=
  let w := s.arb.withhold
  (w.changeover = true ↔ s.arb.changeover ≠ .none) ∧
    (w.bagger = true ↔ s.bag.state = .down ∨ s.bag.state = .empty) ∧
    (w.tyer = true ↔ s.tie.state ≠ .ready) ∧
    (w.purge = true ↔ s.crm.queue.head?.map PurgeEntry.target = some .belt) ∧
    (w.line = true ↔ s.lc.state = .ready ∨ s.lc.state = .starting ∨ s.lc.state = .halted)

/-- The ceiling in force is the least of the line maximum speed and the lane ceilings of the admitting lanes, each by
the profile of the lane's assigned slot (R34, R64, R65); a lane without one, which never admits, would count as T = 0. -/
def CeilingFollows (s : State) : Prop :=
  let admits := fun l : Lane => (s.lane l).state = .running ∨ ((s.lane l).state = .trial ∧ 0 < (s.lane l).trialLeft)
  let t := fun l : Lane => ((s.pst.assign[l]).bind fun i => (s.pst.slots[i]).map Profile.t).getD 0
  let laneCeiling := fun l : Lane => s.set.rmax[l] * t l * 15 / 16
  s.lc.ceiling ≤ s.set.lineMax ∧ (∀ l, admits l → s.lc.ceiling ≤ laneCeiling l) ∧
    (s.lc.ceiling = s.set.lineMax ∨ ∃ l, admits l ∧ s.lc.ceiling = laneCeiling l)

/-- The demand target is that of R183's table for the line state and the reference state. -/
def TargetFollows (s : State) : Prop :=
  let least := min s.lc.setSpeed s.lc.ceiling
  let runs := s.lc.state = .running ∨ s.lc.state = .draining
  (s.lc.state = .ready ∨ s.lc.state = .halted → s.lc.target = 0) ∧
    (s.lc.state = .starting → s.lc.target = s.set.crawl) ∧
    (runs → s.sru.state = .track → s.lc.target = least) ∧
    (∀ h, runs → s.sru.state = .holdover → s.lc.held = some h → s.lc.target = min h least) ∧
    (runs → s.sru.state = .crawl → s.lc.target = s.set.crawl) ∧
    (s.lc.state = .draining → s.sru.state = .acquire → s.lc.target = s.set.crawl)

/-- The reserve-held state stands exactly while some lane has condition 6 fail and the seven others hold (R34). -/
def ReserveFollows (s : State) : Prop :=
  s.trk.reserveHeld = true ↔ ∃ l : Lane, ∀ c : Fin 8, s.trk.closedBy[l].getLsbD c.val = decide (c = 5)

/-! ### Crumb shares and triggers (R131, R133, R135) -/

/-- What an evaluation of a target's triggers makes of CRM's values `c`, under the settings of `s` (R133, R135): a
target whose cycle is running, and an unconfigured head, is not evaluated; a forced request puts a FORCED entry, new or
promoted, behind the last FORCED one and behind a front whose cycle is running (log entry 32); a soft one appends a SOFT entry where the target has none. -/
def TriggersTaken (s : State) (t : Target) (c d : Crm) : Prop :=
  let running := c.state = .purging ∨ c.state = .settle
  let passed := (running ∧ c.queue.head?.map PurgeEntry.target = some t) ∨
    ∃ l, t = .head l ∧ s.isConfigured l = false
  let hard := match t with
    | .head l => s.set.headHard ≤ c.heads[l].estimate
    | .belt => s.set.beltHard ≤ c.belt
  let soft := match t with
    | .head l => s.set.headPurge ≤ c.heads[l].estimate ∨
        (1 ≤ s.set.skip ∧ s.set.skip ≤ c.heads[l].loaves)
    | .belt => s.set.beltPurge ≤ c.belt
  let entry := c.queue.find? fun e => e.target == t
  let others := c.queue.filter fun e => e.target != t
  let state := if c.state = .idle then .wait else c.state
  (passed → d = c) ∧
    (¬passed → hard → entry = some ⟨t, .forced⟩ → d = c) ∧
    (¬passed → hard → entry ≠ some ⟨t, .forced⟩ →
      ∃ a b, d = { c with queue := a ++ ⟨t, .forced⟩ :: b, state := state } ∧ a ++ b = others ∧
        (∀ e ∈ b, e.group = .soft) ∧ (running → others ≠ [] → a ≠ []) ∧
        ∀ e, a.getLast? = some e → e.group = .forced ∨ (running ∧ a = [e])) ∧
    (¬passed → ¬hard → soft → entry = none →
      d = { c with queue := c.queue ++ [⟨t, .soft⟩], state := state }) ∧
    (¬passed → ¬hard → (¬soft ∨ entry ≠ none) → d = c)

/-- What the end of a record's slicing after some cuts makes of CRM's values `c`: its shares are added, the loaf is
counted, and the triggers of its head and then of the belt are evaluated (R63, R131). -/
def SlicingEnds (s : State) (r : Rec) (cuts : Nat) (c d : Crm) : Prop :=
  let h := c.heads[r.lane]
  let share := cuts * (s.profile r.slot).crumb * h.correction / 64
  ∃ m, TriggersTaken s (.head r.lane) { c with
      heads := putAt c.heads r.lane { h with
        estimate := min 4000000 (h.estimate + share), loaves := min 65535 (h.loaves + 1) }
      belt := min 4000000 (c.belt + share / 8) } m ∧
    TriggersTaken s .belt m d

/-- A purge entry that has become FORCED has CRUMB_FORCED raised (R133). -/
def ForcedRaised (s u : State) : Prop :=
  ∀ e ∈ u.crm.queue, e.group = .forced → e ∉ s.crm.queue → u.flag .crumbForced = true

/-- CRM's values when some heads have lost their entries: a cycle of such a head is aborted (R144, R145). -/
def HeadsDropped (gone : Lane → Bool) (c d : Crm) : Prop :=
  let dropped : Target → Bool := fun t => match t with
    | .head l => gone l
    | .belt => false
  let left := c.queue.filter fun e => !dropped e.target
  let running := c.state = .purging ∨ c.state = .settle
  let mine := ∃ e, c.queue.head? = some e ∧ dropped e.target = true
  (running ∧ ¬mine → d = { c with queue := left }) ∧
    (running ∧ mine → d = { c with
      queue := left, state := if left = [] then .idle else .wait
      cycle := none, purge := none, settle := none, weigh := none, air := none }) ∧
    (¬running → d = { c with queue := left, state := if left = [] then .idle else .wait })

/-! ### Codes (R115, R116, R117) -/

/-- The day number of a date counted from 2000-01-01, February having 29 days in each year divisible by 4 (R116, R172). -/
def dayNumber (y m d : Nat) : Nat :=
  365 * (y - 2000) + (y - 2000 + 3) / 4 +
    (([31, if y % 4 = 0 then 29 else 28, 31, 30, 31, 30, 31, 31, 30, 31, 30, 31] : List Nat).take (m - 1)).sum +
    (d - 1)

/-- A date of the part's calendar and its day number (R116). -/
def IsDate (y m d n : Nat) : Prop :=
  2000 ≤ y ∧ 1 ≤ m ∧ m ≤ 12 ∧ 1 ≤ d ∧
    d ≤ ([31, if y % 4 = 0 then 29 else 28, 31, 30, 31, 30, 31, 31, 30, 31, 30, 31] : List Nat).getD (m - 1) 0 ∧
    dayNumber y m d = n

/-- The true code of a record's stroke and its challenge code: the day and month of the date that lies the profile's
shelf days after the production date, the letter, and the digit of the record's shift; and the same with the challenge day (R115, R116, R117). -/
def CodesOf (s : State) (r : Rec) (code test : List Byte) : Prop :=
  ∀ sh, (s.tot.opened = some sh ∨ ((∀ o, s.tot.opened = some o → o.seq ≠ r.tag) ∧ s.tot.closing = some sh)) →
    sh.seq = r.tag →
    ∃ y m d, IsDate y m d ((s.pst.clock - s.set.dayBoundary * 60) / 86400 + (s.profile r.slot).shelf) ∧
      let two := fun n : Nat => [byteOf (0x30 + n / 10), byteOf (0x30 + n % 10)]
      let rest := 0x20 :: two m ++ [0x20, byteOf s.set.letter, byteOf (0x30 + sh.digit)]
      code = two d ++ rest ∧ test = two ((d + 9) % 31 + 1) ++ rest

/-- The reply fields of READ_CLOCK in their order: the clock's count and flag, its date and time, and the production
date under the day boundary in force (R116, R173, section 11.5). -/
def ClockFieldsAre (s : State) (fields : List Byte) : Prop :=
  let n := s.pst.clock
  ∃ y m d py pm pd, IsDate y m d (n / 86400) ∧ IsDate py pm pd ((n - s.set.dayBoundary * 60) / 86400) ∧
    fields = leBytes 4 n ++ [flagByte s.pst.clockValid] ++ leBytes 2 y ++
      [byteOf m, byteOf d, byteOf (n % 86400 / 3600), byteOf (n % 3600 / 60), byteOf (n % 60)] ++
      leBytes 2 py ++ [byteOf pm, byteOf pd]

/-! ### Line settings (section 9.3, R168) -/

/-- Every line setting lies in the range that its chapter gives it (R1, R16, R18, R19, R33, R39, R54, R69, R90,
R102, R110, R130, R177, R183, R184); a lower end that names another setting is a condition of `SettingsAgree`. -/
def SettingsInRange (x : LineSettings) : Prop :=
  let within := fun (lo n hi : Nat) => lo ≤ n ∧ n ≤ hi
  (within 10 x.windowMs 100 ∧ within 1 x.acceptPct 25 ∧ x.rejectPct ≤ 50 ∧ x.q ≤ 15 ∧ x.f ≤ 15 ∧
    within 1000 x.scaleW 100000 ∧ within 1000 x.scaleM 100000 ∧ within 100 x.crawl 1000 ∧
    x.holdoverMs ≤ 5000 ∧ within 1 x.slipPct 20) ∧
  (within 1 x.laneWindow 12 ∧ (∀ l : Lane, x.dHead[l] ≤ 60000 ∧ x.dPocket[l] ≤ 60000) ∧
    x.dBag ≤ 60000 ∧ x.dTie ≤ 60000 ∧ x.dVerify ≤ 60000 ∧ x.dReject ≤ 60000 ∧ x.dExit ≤ 60000 ∧
    x.dChute ≤ 60000 ∧ within 10 x.tolerance 500 ∧ x.gateLead ≤ 2000 ∧ within 50 x.readWindow 1000 ∧
    within 50 x.releaseWindow 1000) ∧
  ((∀ l : Lane, within 10 x.rmax[l] 60 ∧ within 16 x.pulsesPerRev[l] 1024) ∧ within 1000 x.lineMax 8000 ∧
    within 1 x.configured 4 ∧ within 2 x.idleRate 20 ∧ within 1 x.spinupS 10 ∧ within 2 x.retrialS 60 ∧
    within 1 x.trialLoaves 8 ∧ x.trialLimit ≤ 15) ∧
  (x.mergeTravel ≤ 2000 ∧ within 100 x.minGap 2000 ∧ within 1 x.bypassLimit 32 ∧
    within 500 x.changeoverMs 10000 ∧ within 100 x.confirmMs 1000 ∧ within 1 x.missLimit 5 ∧ x.bagsLow ≤ 999) ∧
  (within 0x41 x.letter 0x5A ∧ x.dayBoundary ≤ 1439 ∧ x.clipsLow ≤ 1999 ∧
    (x.challengeInterval = 0 ∨ within 50 x.challengeInterval 5000) ∧ within 1 x.burstLimit 15 ∧
    within 8 x.burstWindow 255 ∧ within 1000 x.reindexMs 10000) ∧
  (within 1000 x.headPurge 100000 ∧ x.headHard ≤ 150000 ∧ within 1000 x.beltPurge 100000 ∧ x.beltHard ≤ 150000 ∧
    x.skip ≤ 5000 ∧ within 500 x.purgeMs 10000 ∧ within 10 x.mismatchPct 90 ∧ within 100 x.residual 20000 ∧
    x.clearance ≤ 10000) ∧
  (within 500 x.rampRate 20000 ∧ within 2 x.startLimitS 30 ∧ x.linkTimeoutS ≤ 60)

/-- Each duration lies on the step its range names (R168). -/
def SettingsOnSteps (x : LineSettings) : Prop :=
  10 ∣ x.windowMs ∧ 100 ∣ x.holdoverMs ∧ 100 ∣ x.changeoverMs ∧ 100 ∣ x.purgeMs ∧ 100 ∣ x.reindexMs

/-- The conditions between settings (R1, R40, R69, R130). -/
def SettingsAgree (x : LineSettings) : Prop :=
  x.acceptPct ≤ x.rejectPct ∧
    (∀ l : Lane, l.val < x.configured → 6000 < x.dHead[l] ∧ x.dHead[l] + 6000 ≤ x.dPocket[l] ∧
      8 ≤ x.idleRate * x.pulsesPerRev[l] * x.windowMs / 1000) ∧
    x.releaseWindow < x.dBag ∧ x.dBag < x.dTie ∧ x.dTie < x.dVerify ∧ x.dVerify < x.dReject ∧
    x.dVerify + x.readWindow + x.gateLead < x.dReject ∧ x.dReject < x.dExit ∧ x.dReject < x.dChute ∧
    x.headPurge ≤ x.headHard ∧ x.beltPurge ≤ x.beltHard

/-- The 154 bytes of the settings set in the order of section 9.3, as section 11.5 lays them out. -/
def SettingsLayout (x : LineSettings) : List Byte :=
  let two := leBytes 2
  let four := leBytes 4
  let each := fun v : PerLane Nat => two v[0] ++ two v[1] ++ two v[2] ++ two v[3]
  two (x.windowMs / 10) ++ two x.acceptPct ++ two x.rejectPct ++ two x.q ++ two x.f ++
  four x.scaleW ++ four x.scaleM ++ two x.crawl ++ two (x.holdoverMs / 100) ++ two x.slipPct ++
  two x.laneWindow ++ each x.dHead ++ each x.dPocket ++ two x.dBag ++ two x.dTie ++ two x.dVerify ++
  two x.dReject ++ two x.dExit ++ two x.dChute ++ two x.tolerance ++ two x.gateLead ++
  two x.readWindow ++ two x.releaseWindow ++
  each x.rmax ++ two x.lineMax ++
  two x.configured ++ each x.pulsesPerRev ++ two x.idleRate ++ two x.spinupS ++
  two (if x.narrowing then 1 else 0) ++ two x.retrialS ++ two x.trialLoaves ++ two x.trialLimit ++
  two x.mergeTravel ++ two x.minGap ++ two x.bypassLimit ++ two (x.changeoverMs / 100) ++ two x.confirmMs ++
  two x.missLimit ++ two x.bagsLow ++
  two x.letter ++ two x.dayBoundary ++ two x.clipsLow ++ two x.challengeInterval ++ two x.burstLimit ++
  two x.burstWindow ++ two (x.reindexMs / 100) ++
  four x.headPurge ++ four x.headHard ++ four x.beltPurge ++ four x.beltHard ++ two x.skip ++
  two (x.purgeMs / 100) ++ two x.mismatchPct ++ two x.residual ++ two x.clearance ++
  two x.rampRate ++ two x.startLimitS ++ two x.linkTimeoutS

/-- A length of the request catalogue: the payload bytes of each kind, none for a kind that is not in it (section 11.5). -/
def requestLength : Nat → Option Nat
  | 0x01 => some 0 | 0x02 => some 1 | 0x03 => some 1 | 0x04 => some 3 | 0x05 => some 3
  | 0x10 => some 4 | 0x11 => some 0 | 0x12 => some 29 | 0x13 => some 1 | 0x14 => some 154
  | 0x15 => some 0 | 0x16 => some 0
  | 0x20 => some 0 | 0x21 => some 0 | 0x22 => some 0 | 0x23 => some 0 | 0x24 => some 0
  | 0x25 => some 2 | 0x26 => some 4
  | 0x30 => some 1 | 0x31 => some 2 | 0x32 => some 1
  | 0x40 => some 2 | 0x41 => some 2 | 0x42 => some 2 | 0x43 => some 0 | 0x44 => some 0
  | 0x50 => some 1 | 0x51 => some 0
  | 0x60 => some 1 | 0x61 => some 2 | 0x62 => some 3
  | 0x70 => some 5 | 0x71 => some 4
  | _ => none

/-! ### Conditions that every step keeps -/

/-- The position, the clock, the supplies, the line histories, the monitors' counts, the crumb estimates, loaves and
corrections, the bypass and trial-fail counts, and the tyer's trigger number and mismatch count lie within the ranges the manual gives them (R2, R9, R83, R95, R106, R113, R118, R123, R131, R132, R172). -/
def RangesHold (s : State) : Prop :=
  s.pos ≤ Config.posMax ∧ s.pst.clock ≤ Config.clockMax ∧
    s.bag.supply ≤ Config.bagMax ∧ s.tie.supply ≤ Config.clipMax ∧
    s.tie.nextTrigger < 256 ∧ s.tie.counters.mismatches ≤ 255 ∧
    s.sru.w.mon.count ≤ Config.pulseMax ∧ s.sru.m.mon.count ≤ Config.pulseMax ∧
    s.sru.w.history.length ≤ Config.historyMax ∧ s.sru.m.history.length ≤ Config.historyMax ∧
    s.crm.belt ≤ Config.crumbMax ∧
    ∀ l : Lane, (s.head l).mon.count ≤ Config.pulseMax ∧ s.crm.heads[l].estimate ≤ Config.crumbMax ∧
      s.crm.heads[l].loaves ≤ Config.loavesMax ∧ 32 ≤ s.crm.heads[l].correction ∧
      s.crm.heads[l].correction ≤ 128 ∧ s.arb.bypass[l] ≤ 32 ∧ (s.lane l).trialFails ≤ 15

/-- The table holds at most 96 records, and each lane queue only records of its lane (R26, R31). -/
def TableHolds (s : State) : Prop :=
  s.tableCount ≤ Config.tableSize ∧ ∀ l : Lane, ∀ r ∈ s.queue l, r.lane = l

/-- No record has the next loaf number. A loaf number can come again only after 2^32 - 1 admissions (R26; log entry 33). -/
def NextLoafFree (s : State) : Prop := ∀ r ∈ s.records, r.loaf ≠ s.trk.nextLoaf

/-- No two records share a loaf number, each record is tagged with the OPEN or the CLOSING shift, and each shift's
counts balance; a CLOSING shift still waits for records, and the shift sequences follow one another (R26, R149, R153, R154, R155). -/
def AccountsHold (s : State) : Prop :=
  (s.records.map Rec.loaf).Nodup ∧
    (∀ r ∈ s.records, ∃ sh, (s.tot.opened = some sh ∨ s.tot.closing = some sh) ∧ sh.seq = r.tag) ∧
    (∀ sh, s.tot.opened = some sh → Balances s.records sh ∧ s.nextShiftSeq = nextSeqAfter sh.seq) ∧
    (∀ sh, s.tot.closing = some sh → Balances s.records sh ∧ sh.inTable ≠ 0) ∧
    (∀ sh, s.tot.closed = some sh → sh.inTable = 0 ∧
      ∀ l : Lane, sh.perLane[l].admitted < Config.count32 → sh.perLane[l].admitted = sh.perLane[l].ended) ∧
    (∀ a, s.tot.closing = some a → s.tot.opened = none → s.nextShiftSeq = nextSeqAfter a.seq) ∧
    ∀ a b, s.tot.closing = some a → s.tot.opened = some b → b.seq = nextSeqAfter a.seq

/-- A record has a decision exactly when it is DECIDED; a PASS record carried no reason and no suspect mark at its
decision point, and one that has gained a reason since is marked late (R43, R45). -/
def DecisionsHold (s : State) : Prop :=
  ∀ r ∈ s.records, (r.decision.isSome ↔ r.state = .decided) ∧
    (r.decision = some .pass → r.suspect = false ∧ (r.reasons = [] ∨ r.late = true))

/-- A gate is open only while the line is RUNNING; the line is READY, or STARTING from READY, only with the table
empty, and DRAINING only with a record in it (R33, R175, R180). -/
def LineHolds (s : State) : Prop :=
  (∀ l : Lane, s.gateOpen l = true → s.lc.state = .running) ∧
    (s.lc.state = .ready → s.tableCount = 0) ∧
    (s.lc.state = .starting → s.lc.origin = .ready → s.tableCount = 0) ∧
    (s.lc.state = .draining → s.tableCount ≠ 0)

/-- Every gate follows the eight conditions, the reserve-held state the gates, the withhold set its holders, and the
ceiling in force and the demand target the rest of the state, by the model's functions and by the tables of R91, R64, R65 and R183 (R33, R34, R91, R64, R65, R183). -/
def DerivedHold (s : State) : Prop :=
  (∀ l : Lane, s.trk.closedBy[l] = s.closedBy l ∧ GateFollows s l) ∧ ReserveFollows s ∧
    (s.arb.withhold = s.withholdDue ∧ WithholdFollows s) ∧ (s.lc.ceiling = s.lineCeiling ∧ CeilingFollows s) ∧
    s.lc.target = s.demandTarget ∧ TargetFollows s

/-- The notice queue holds at most one notice of each kind and none of a masked kind, ATTN follows it, no request
waits and no reply is ready without a request in hand, and an idle transmitter has nothing to send (R190, R192, R193, R195, R196). -/
def LinkHolds (s : State) : Prop :=
  (s.lp.queue.map Notice.kind).Nodup ∧ (∀ n ∈ s.lp.queue, kindIn s.lp.mask n.kind = false) ∧
    s.lp.attn = !s.lp.queue.isEmpty ∧
    (s.lp.hand = none → s.lp.waiting = none ∧ s.lp.reply = none) ∧
    (s.lp.tx = .idle → s.lp.reply = none ∧ s.lp.queue = [])

/-- The purge queue holds at most one entry for each target, is empty exactly in IDLE, has the target of the cycle
record at its front while a cycle runs, and the purge timer runs only in PURGING (R135, R141). -/
def PurgesHold (s : State) : Prop :=
  (s.crm.queue.map PurgeEntry.target).Nodup ∧ (s.crm.state = .idle ↔ s.crm.queue = []) ∧
    (s.crm.running = true →
      ∃ y, s.crm.cycle = some y ∧ s.crm.queue.head?.map PurgeEntry.target = some y.target) ∧
    (s.crm.purge.isSome = true → s.crm.state = .purging)

/-- The settings in force are valid, each slot is empty or holds a valid profile, and each assignment names a slot that holds one (R162, R166, R168). -/
def StoreHolds (s : State) : Prop :=
  settingsValid s.set = true ∧
    (∀ i : Slot, ∀ p, s.pst.slots[i] = some p → profileValid p = true) ∧
    (∀ l : Lane, ∀ i, s.pst.assign[l] = some i → (s.pst.slots[i]).isSome = true)

end Sys2Proof.Machine
end

