-- ==== Sys2Proof/Certificates/Slice0/Obligations.lean ====
section
/-! DEFINITION. The statements for the provers, from the rules of the manual. `Effect c s u` says that a command completes with the direct effect `u`, and `Replies` the same of a request with its reply; what the settling after it may still change is said once, in `SettlingKeeps`. -/

open Sys2Proof Sys2Proof.Machine

/-! ### The machine as a whole -/

/-- A step takes the command at the front of the queue and runs it on the state with the queue's rest; with no command waiting a millisecond of the running timers passes (the model's choice, log entry 2), and without power nothing. -/
def Obligations.StepRunsTheFrontCommand : Prop :=
  (∀ c rest s, s.pending = c :: rest → step s = exec c { s with pending := rest }) ∧
    (∀ s, s.pending = [] → s.powered = true → step s = .next (tickTimers s)) ∧
    ∀ s, s.pending = [] → s.powered = false → step s = .next s

/-- Every command, in every state and with any operands, ends in a next state and leaves the queue of waiting commands alone; only POWER_ON and POWER_LOSS change whether the part has power, and without power only POWER_ON does anything (log entry 5). No run ever stops. -/
def Obligations.EveryCommandCompletes : Prop :=
  (∀ c s, ∃ t, exec c s = .next t ∧ t.pending = s.pending ∧
    ((∀ e, c ≠ .powerOn e) → (∀ n d, c ≠ .powerLoss n d) → t.powered = s.powered) ∧
    (s.powered = false → (∀ e, c ≠ .powerOn e) → t = s)) ∧
    ∀ n s, SafeRun n s

/-- What POWER_ON leaves in every block, from any state (a part that has power starts anew, log entry 5): the power-on values of the reset tables with the first raisings of R199, and the image loaded section by section: a good settings section in force, any other replaced by the defaults with every lane unassigned; a good slot as stored, any other empty; an assignment to an empty slot none (R171, R174). -/
def Obligations.PowerOnLeavesResetValues : Prop :=
  (∀ estop s, ∃ t, exec (.powerOn estop) s = .next t ∧
    t.powered = true ∧ t.nv = s.nv ∧ t.pst = (loadImage s.nv).1 ∧
    t.sru = Sru.powerOn t.set.windowMs (increment t.set.scaleW) (increment t.set.scaleM) ∧
    t.lc = Lc.powerOn t.set.lineMax estop ∧ t.trk = Trk.powerOn ∧ t.hd = Hd.powerOn t.set.configured ∧
    t.arb = Arb.powerOn ∧ t.bag = Bag.powerOn ∧ t.tie = Tie.powerOn ∧ t.crm = Crm.powerOn ∧
    t.tot = Tot.powerOn ∧
    t.lp.receiver = .hunt ∧ t.lp.hand = none ∧ t.lp.waiting = none ∧ t.lp.reply = none ∧
    t.lp.rate = .b115200 ∧ t.lp.mask = 0 ∧ t.lp.counters = ⟨0, 0, 0, 0, 0, 0⟩ ∧
    (∀ k, t.flag k = true ↔
      (k = .storeFault ∧ (loadImage s.nv).2 ≠ 0) ∨ (k = .bagsLow ∧ 0 < t.set.bagsLow) ∨
        (k = .clipsLow ∧ 0 < t.set.clipsLow))) ∧
  ∀ estop s t, exec (.powerOn estop) s = .next t →
    (∀ x a, s.nv.settings = .good (x, a) → settingsValid x = true →
      t.set = x ∧ t.pst.defaulted = false ∧
        (∀ l : Lane, t.pst.assign[l] =
          (a[l]).bind fun i => if (t.pst.slots[i]).isSome then some i else none) ∧
        (t.pst.unsaved = true ↔ t.pst.assign ≠ a)) ∧
    ((∀ x a, s.nv.settings = .good (x, a) → settingsValid x = false) →
      t.set = LineSettings.default ∧ t.pst.defaulted = true ∧ t.pst.unsaved = true ∧
        ∀ l : Lane, t.pst.assign[l] = none) ∧
    (∀ i : Slot, ∀ p, s.nv.slots[i] = .good p → (∀ q, p = some q → profileValid q = true) →
      t.pst.slots[i] = p ∧ t.pst.slotUnsaved[i] = false) ∧
    (∀ i : Slot, (∀ p, s.nv.slots[i] = .good p → ∃ q, p = some q ∧ profileValid q = false) →
      t.pst.slots[i] = none ∧ t.pst.slotUnsaved[i] = true) ∧
    t.pst.clock = 0 ∧ t.pst.clockValid = false ∧ t.pst.store = .idle ∧ ∀ i : Slot, t.pst.refs[i] = 0

/-- The state after reset is the one that the first POWER_ON of a part with an image never written leaves (log entry 4), and every condition below holds in it. -/
def Obligations.ResetMeetsTheConditions : Prop :=
  exec (.powerOn false) (State.off Nonvolatile.blank []) = .next State.reset ∧
    RangesHold State.reset ∧ TableHolds State.reset ∧ AccountsHold State.reset ∧
    DecisionsHold State.reset ∧ LineHolds State.reset ∧ DerivedHold State.reset ∧
    LinkHolds State.reset ∧ PurgesHold State.reset ∧ StoreHolds State.reset

/-! ### Conditions that every step keeps -/

/-- Every step keeps the position, the clock, the supplies, the line histories, the monitors' counts, the crumb estimates, loaves and corrections, the bypass and trial-fail counts, and the tyer's trigger number and mismatch count within the ranges of section 1.1 (R2), R9, R83, R95, R106, R113, R118, R123, R131, R132 and R172; and the line position never falls but at a loss or a coming of power (R8). -/
def Obligations.RangesKept : Prop :=
  ∀ s t, RangesHold s → step s = .next t →
    RangesHold t ∧
      (s.pos ≤ t.pos ∨ (∃ e rest, s.pending = .powerOn e :: rest) ∨
        ∃ n d rest, s.pending = .powerLoss n d :: rest)

/-- Every step keeps the table at 96 records or fewer, each lane queue holding only records of its lane (R26, R31). -/
def Obligations.TableKept : Prop :=
  ∀ s t, TableHolds s → step s = .next t → TableHolds t

/-- Every step keeps the balance of every shift: lane by lane, each loaf admitted is in the table or was retired with exactly one disposition, in the shift of its tag; and no two records share a loaf number (R26, R154, R155). -/
def Obligations.AccountsKept : Prop :=
  ∀ s t, TableHolds s → NextLoafFree s → AccountsHold s → step s = .next t → AccountsHold t

/-- Every step keeps a record undecided until its decision point, and leaves no record with the decision PASS that carried a reason or the suspect mark there (R43, R45). -/
def Obligations.DecisionsKept : Prop :=
  ∀ s t, TableHolds s → NextLoafFree s → AccountsHold s → DecisionsHold s → step s = .next t →
    DecisionsHold t

/-- Every step keeps the gates closed outside RUNNING, the table empty in READY and in a STARTING from READY, and a DRAINING line with a record to wait for (R33, R175, R177, R180). -/
def Obligations.LineKept : Prop :=
  ∀ s t, LineHolds s → step s = .next t → LineHolds t

/-- Every step leaves each gate as its eight conditions make it, the reserve-held state as the gates make it, with TABLE_RESERVE raised at a step that finds it clear and leaves it set; each member of the withhold set standing exactly while its holder holds it; the ceiling in force the least of the line maximum speed and the admitting lanes' ceilings; and the demand target that of R183's row for the line and the reference state, the HOLDOVER, CRAWL and DRAINING/ACQUIRE rows among them (R33, R34, R91, R64, R65, R183; that the gates and the reserve-held state are evaluated once, at an event's end, is the model's choice, log entry 41). -/
def Obligations.DerivedKept : Prop :=
  ∀ s t, DerivedHold s → step s = .next t →
    DerivedHold t ∧
      (s.trk.reserveHeld = false → t.trk.reserveHeld = true → t.flag .tableReserve = true)

/-- Every step keeps the notice queue free of a second notice of a kind and of masked kinds, ATTN asserted exactly while it holds a notice, and the transmitter idle only with nothing to send (R190, R192, R193, R195, R196). -/
def Obligations.LinkKept : Prop :=
  ∀ s t, LinkHolds s → step s = .next t → LinkHolds t

/-- Every step keeps at most one purge entry for each target, IDLE exactly with an empty queue, and a running cycle's target at the front (R135). -/
def Obligations.PurgesKept : Prop :=
  ∀ s t, PurgesHold s → step s = .next t → PurgesHold t

/-- Every step keeps valid settings in force, valid profiles in the slots, and each assignment on a slot that holds a profile (R162, R166, R168). -/
def Obligations.StoreKept : Prop :=
  ∀ s t, StoreHolds s → step s = .next t → StoreHolds t

/-- What the settling after a command leaves alone: the bagger, the totals, the store, the nonvolatile memory, the link's receiver, mask and counters, the line position, the line and blade monitors, the set speed, the E-stop input and the demand, the target set, the crumb estimates, the tyer's supply, reads, burst window and counters. After it the gates, the reserve-held state, the withhold set, the ceiling and the demand target are what the rest makes them by the tables of R33, R91, R64 and R183 (once at an event's end: log entry 41), TABLE_RESERVE raised where the reserve-held state has become set, and each servo output is that of its blade's state, the guard command with PARKED alone (R33, R34, R64, R65, R70, R71, R91, R183). -/
def Obligations.SettlingKeeps : Prop :=
  ∀ before h u, let t := settle before h u
    SameBut { lp := true, sru := true, lc := true, trk := true, hd := true, arb := true, tie := true, crm := true } u t ∧
      DerivedHold t ∧ (∀ k, u.flag k = true → t.flag k = true) ∧
      (u.trk.reserveHeld = false → t.trk.reserveHeld = true → t.flag .tableReserve = true) ∧
      t.sru.w = u.sru.w ∧ t.sru.m = u.sru.m ∧ t.sru.settings = u.sru.settings ∧
      t.sru.slipActive = u.sru.slipActive ∧ t.lc.demand = u.lc.demand ∧
      (∀ l, (t.lane l).target = (u.lane l).target ∧ (t.lane l).lastFault = (u.lane l).lastFault ∧
        (t.lane l).trialFails = (u.lane l).trialFails ∧ (t.head l).mon = (u.head l).mon) ∧
      t.trk.nextLoaf = u.trk.nextLoaf ∧ t.trk.rejectGate = u.trk.rejectGate ∧
      t.arb.spacing = u.arb.spacing ∧ t.arb.bagClass = u.arb.bagClass ∧
      t.crm.heads = u.crm.heads ∧ t.crm.belt = u.crm.belt ∧ t.crm.queue = u.crm.queue ∧
      t.crm.last = u.crm.last ∧ t.crm.lastBelt = u.crm.lastBelt ∧
      t.tie.supply = u.tie.supply ∧ t.tie.openReads = u.tie.openReads ∧ t.tie.burst = u.tie.burst ∧
      t.tie.counters = u.tie.counters ∧ t.tie.capture = u.tie.capture ∧ t.tie.blind = u.tie.blind ∧
      t.tie.challengeCount = u.tie.challengeCount ∧ t.tie.owed = u.tie.owed ∧
      ∀ l, t.servo l = match (t.head l).blade with
        | .stopped => ⟨0, false⟩
        | .spinup => ⟨t.set.idleRate * 256, false⟩
        | .running => ⟨match (t.queue l).find? Rec.toBeCut with
            | some r => match r.plan with
              | some p => t.sru.estimate * 65536 / p.p256
              | none => t.set.idleRate * 256
            | none => t.set.idleRate * 256, false⟩
        | .parked => ⟨0, true⟩
        | .fault => ⟨0, false⟩

/-! ### Line position, speed reference, clock -/

/-- A pulse of the selected encoder advances the line position by its increment, and a time of the pacer at the pacer speed, up to the greatest position; a pulse of another encoder is only counted; an advance that reaches no station changes nothing else, one that reaches a single station acts at it before the blocks settle, and one that brings the position to its greatest value halts a moving line with cause POSITION_LIMIT (R2, R8, R9, R10, R39). A part of 1/65536 tu is carried (the model's choice, log entry 6); that the station's event finds the position at the advance's end is the model's reading (log entry 7), and that the abort of a running purge at the halt leaves the purge queue as it is is the model's choice (log entry 46). -/
def Obligations.PulsesMoveThePosition : Prop :=
  ∀ s, s.powered = true → s.pos ≤ Config.posMax →
    let counted := fun src => s.onSru fun x => x.onLine src fun m =>
      { m with mon := { m.mon with count := min Config.pulseMax (m.mon.count + 1) } }
    let at_ := fun (p : Nat) (u : State) => u.onSru fun x => { x with pos := p }
    let moved := fun (d : Nat) (u : State) (c : Instr) =>
      let p := min Config.posMax (s.pos + d)
      (∃ t, exec c s = .next t ∧ t.pos = p ∧
        SameBut { lp := true, sru := true, pos := true, lc := true, trk := true, hd := true, arb := true, bag := true, tie := true, crm := true, tot := true, refs := true } s t) ∧
      ((∀ e ∈ (at_ p u).stations s.pos, p < e.1) → p < Config.posMax → exec c s = .next (at_ p u)) ∧
      (∀ v e, s.pos < p → p < Config.posMax → firstStation ((at_ p u).stations s.pos) = some (v, e) → v ≤ p →
        let n := settle (at_ p u) (max s.pos v) (takeStation e (at_ p u))
        (n.sru.state = .idle ∨ ∀ e ∈ n.stations (max s.pos v), n.pos < e.1) → exec c s = .next n) ∧
      (s.pos < p → p = Config.posMax → (∀ e ∈ (at_ p u).stations s.pos, p < e.1) →
        s.lc.state = .starting ∨ s.lc.state = .running ∨ s.lc.state = .draining →
        ∃ w, HaltTaken .positionLimit (at_ p u) w ∧ exec c s = .next (settle (at_ p u) p w))
    (∀ src, s.sru.selected = .encoder src → s.sru.state ≠ .idle →
      moved (s.sru.inc src) (counted src) (.lineEncoderPulse src)) ∧
    (∀ src, s.sru.selected ≠ .encoder src ∨ s.sru.state = .idle →
      exec (.lineEncoderPulse src) s = .next (counted src)) ∧
    (∀ ms, let n := s.sru.pacerSpeed * 65536 * ms + s.sru.pacerCarry
      (s.sru.selected = .pacer → s.sru.state ≠ .idle →
        moved (n / 1000) (s.onSru fun x => { x with pacerCarry := n % 1000 }) (.pacerAdvance ms)) ∧
      (s.sru.selected ≠ .pacer ∨ s.sru.state = .idle → exec (.pacerAdvance ms) s = .next s))

/-- A blade pulse is counted for a configured head and ignored for another; a clock tick adds one second up to the clock's greatest value; a time of the ramp moves the demand toward the target at the ramp rate, stopping at the target, with thousandths of a tu/s carried until then (R2, R69, R172, R183; the carry is the model's choice, log entry 6). -/
def Obligations.CountsAndRamps : Prop :=
  ∀ s, s.powered = true →
    (∀ l, s.isConfigured l = true → exec (.bladeEncoderPulse l) s = .next
      (onHead l (fun h => { h with mon := { h.mon with count := min Config.pulseMax (h.mon.count + 1) } }) s)) ∧
    (∀ l, s.isConfigured l = false → exec (.bladeEncoderPulse l) s = .next s) ∧
    exec .clockTick s =
      .next { s with pst := { s.pst with clock := min Config.clockMax (s.pst.clock + 1) } } ∧
    (∀ ms, let n := s.set.rampRate * ms + s.lc.rampCarry
      let d := if s.lc.demand < s.lc.target then min s.lc.target (s.lc.demand + n / 1000)
        else max s.lc.target (s.lc.demand - n / 1000)
      Effect (.demandRamp ms) s { s with lc := { s.lc with
        demand := d, rampCarry := if d = s.lc.target then 0 else n % 1000 } })

/-- At a window end every monitor classes its window against its nominal count and takes the effect of R5 and R6, each line monitor's count joins its history of at most 8, and a new window of the set length begins; then SRU takes the source that R13 chooses, loses track to HOLDOVER or CRAWL with none, the loss counted in its cell and in the shift that stands, makes the slip check and renews the estimate, and each blade takes its monitor's change, a fault ending the slicing of its lane's record with its shares and triggers. With narrowing off a fault that takes a RUNNING or TRIAL lane out of service drains the line with cause LANE_FAULT, or returns a STARTING line over an empty table to READY (R2 to R6, R11, R13, R14, R16, R19 to R22, R72, R73, R77, R80, R82, R131, R133, R156, R179). The order of the blocks at one window end is the model's reading (log entry 9), and so are the mean over counts of two window lengths (log entry 40), the marks of an ended slicing and of a trial whose blade has run (log entry 26), the place of a FORCED entry behind a running front (log entry 32), and that a front in WAIT starts, if it still is the front, after all evaluations of the event (log entry 48). -/
def Obligations.WindowEndClasses : Prop :=
  (∀ s, s.powered = true → s.sru.w.history.length ≤ 8 → s.sru.m.history.length ≤ 8 →
    ∃ t, exec .windowEnd s = .next t ∧
      MonitorStep s.set (s.lc.demand * s.sru.windowMs * s.set.scaleW / 10000000) s.sru.w.mon t.sru.w.mon ∧
      MonitorStep s.set (s.lc.demand * s.sru.windowMs * s.set.scaleM / 10000000) s.sru.m.mon t.sru.m.mon ∧
      (∀ l, MonitorStep s.set (s.bladeNominal l) (s.head l).mon (t.head l).mon) ∧
      t.sru.w.history = (if s.sru.w.history.length < 8 then s.sru.w.history else s.sru.w.history.tail)
        ++ [⟨s.sru.w.mon.count, s.sru.windowMs⟩] ∧
      t.sru.m.history = (if s.sru.m.history.length < 8 then s.sru.m.history else s.sru.m.history.tail)
        ++ [⟨s.sru.m.mon.count, s.sru.windowMs⟩] ∧
      t.sru.windowMs = s.set.windowMs ∧ t.sru.windowLeft = s.set.windowMs ∧
      t.lc.demand = s.lc.demand ∧
      SameBut { lp := true, sru := true, lc := true, trk := true, hd := true, arb := true, tie := true, crm := true, tot := true, nv := true } s t) ∧
  ∀ s, s.powered = true → (∀ k, ∀ r ∈ s.queue k, r.lane = k) →
    ∃ u src, Effect .windowEnd s u ∧
      SameBut { lp := true, sru := true, lc := true, trk := true, hd := true, crm := true, tot := true, nv := true } s u ∧
      (let x := u.sru
      let wq := x.w.mon.qualified
      let mq := x.m.mon.qualified
      let pulses := fun m : LineMonitor => (m.history.map WindowCount.count).sum
      let suspects := fun marked : Bool =>
        let f := fun r : Rec => r.suspect || (marked && r.state != .decided)
        u.trk.post.map Rec.suspect = s.trk.post.map f ∧ ∀ l, (u.queue l).map Rec.suspect = (s.queue l).map f
      let faulted := fun l => (s.head l).blade = .running ∧ (s.head l).mon.qualified = true ∧
        (u.head l).mon.qualified = false
      let serves := fun l => (s.lane l).state = .running ∨ (s.lane l).state = .trial
      let drains := s.set.narrowing = false ∧ (∃ l, faulted l ∧ serves l) ∧
        (s.lc.state = .starting ∨ s.lc.state = .running)
      let home := drains ∧ s.lc.state = .starting ∧ s.tableCount = 0
      let kept := s.sru.state = .idle ∨ (∃ y, src = some y ∧ s.sru.selected = .encoder y) ∨
        (src = none ∧ s.sru.state ≠ .track)
      let switched := fun y => s.sru.state ≠ .idle ∧ src = some y ∧ s.sru.selected ≠ .encoder y
      let lost := s.sru.state = .track ∧ src = none
      MonitorStep s.set (s.lc.demand * s.sru.windowMs * s.set.scaleW / 10000000) s.sru.w.mon x.w.mon ∧
      MonitorStep s.set (s.lc.demand * s.sru.windowMs * s.set.scaleM / 10000000) s.sru.m.mon x.m.mon ∧
      (∀ l, MonitorStep s.set (s.bladeNominal l) (s.head l).mon (u.head l).mon) ∧
      SourceChosen s.sru.settings s.sru.selected wq mq src ∧
      (kept → u.nv = s.nv ∧ u.tot = s.tot ∧ suspects false ∧
        (¬home → x.state = s.sru.state ∧ x.selected = s.sru.selected ∧ x.holdover = s.sru.holdover)) ∧
      (∀ y, switched y → u.flag .refState = true ∧ u.nv = s.nv ∧ u.tot = s.tot ∧
        suspects (decide (s.sru.settings.hitless = false ∨ s.flag .slip = true)) ∧
        (¬home → x.state = .track ∧ x.selected = .encoder y ∧ x.holdover = none)) ∧
      (lost → u.flag .refState = true ∧ LossCounted s u ∧ suspects (decide (s.set.holdoverMs = 0)) ∧
        (¬home → x.selected = .pacer ∧
          (s.set.holdoverMs ≠ 0 → x.state = .holdover ∧ x.frozen = s.sru.estimate ∧
            x.holdover = some s.set.holdoverMs) ∧
          (s.set.holdoverMs = 0 → x.state = .crawl))) ∧
      (¬home → ∃ held, (kept → held = s.lc.held) ∧
        (∀ y, switched y → held = if s.sru.state = .track then s.lc.held else none) ∧
        (lost → held = if s.set.holdoverMs = 0 then none else some s.lc.demand) ∧
        (¬drains → u.lc = { s.lc with held := held }) ∧
        (drains → u.flag .lineState = true ∧ u.lc = { s.lc with
          held := held, state := .draining, cause := .laneFault, startLimit := none, silence := none }) ∧
        ∀ l, BladeClassed l s u) ∧
      (home → u.flag .lineState = true ∧ u.flag .bladeFault = true ∧ x.state = .idle ∧
        (s.sru.state ≠ .idle → x.selected = .pacer ∧ x.holdover = none ∧ u.lc.held = none) ∧
        u.lc = { s.lc with
          held := u.lc.held, state := .ready, cause := .laneFault, startLimit := none, silence := none } ∧
        (∃ l, faulted l ∧ serves l ∧ (u.head l).blade = .fault ∧ (u.lane l).lastFault = some (.blade, s.pos)) ∧
        ∀ l, let b := (s.head l).blade
          let c := s.lane l
          let d := u.lane l
          (d.state = .idle ∨ d.state = .parked) ∧ (c.state = .parked → d.state = .parked) ∧
          (d.state = .parked → c.state = .parked ∨ (c.state = .trial ∧ faulted l)) ∧
          d.target = c.target ∧ d.trialLeft = 0 ∧ d.trialList = [] ∧ d.retrial = none ∧
          (¬faulted l → d.trialFails = c.trialFails ∧ d.lastFault = c.lastFault) ∧
          (b = .spinup ∨ b = .running →
            (u.head l).blade = .stopped ∨ (faulted l ∧ (u.head l).blade = .fault)) ∧
          (b ≠ .spinup → b ≠ .running → (u.head l).blade = b)) ∧
      (wq = true → mq = true → x.w.history.length = 8 → x.m.history.length = 8 →
        let tw := pulses x.w * s.sru.incW
        let tm := pulses x.m * s.sru.incM
        let disagree := s.set.slipPct * tw < ((tw - tm) + (tm - tw)) * 100
        (x.slipActive = true ↔ disagree) ∧ (disagree → s.sru.slipActive = false → u.flag .slip = true)) ∧
      (wq = true → mq = true → ¬(x.w.history.length = 8 ∧ x.m.history.length = 8) →
        x.slipActive = s.sru.slipActive) ∧
      (wq = false ∨ mq = false → x.slipActive = false) ∧
      (x.selected = .encoder .w → x.estimate =
        min 8000 (pulses x.w * s.sru.incW * 1000 / ((x.w.history.map WindowCount.ms).sum * 65536))) ∧
      (x.selected = .encoder .m → x.estimate =
        min 8000 (pulses x.m * s.sru.incM * 1000 / ((x.m.history.map WindowCount.ms).sum * 65536))) ∧
      (x.selected = .pacer → x.estimate = match x.state with
        | .idle => 0
        | .holdover => x.frozen
        | _ => s.lc.demand) ∧
      ForcedRaised s u ∧
      ∃ c : Nat → Crm, c 0 = s.crm ∧ c 4 = u.crm ∧ ∀ l : Lane,
        let cut := (s.queue l).find? fun r => r.state == .slicing
        (∀ r, faulted l → cut = some r → r.slicingEnded = false →
          SlicingEnds s r r.cutsDone (c l.val) (c (l.val + 1))) ∧
        (¬faulted l ∨ (∀ r, cut = some r → r.slicingEnded = true) → c (l.val + 1) = c l.val))

/-- SET_CLOCK refuses a count above the clock's range and otherwise sets the clock and its flag, answering with the clock just before; READ_CLOCK answers with the clock's count and flag, the date and time the count gives and the production date under the day boundary, by the calendar of R116, and changes nothing (R116, R172, R173). -/
def Obligations.ClockRequests : Prop :=
  ∀ s tag p,
    (Handling ⟨0x10, tag, p⟩ s → p.length = 4 →
      (Config.clockMax < leNat p → Refused (.setClock tag p) ⟨0x10, tag, p⟩ .badField s) ∧
      (leNat p ≤ Config.clockMax → exec (.setClock tag p) s = .next
        (replyReady ⟨replyFrame 0x10 tag .ok (leBytes 4 s.pst.clock ++ [flagByte s.pst.clockValid]), none⟩
          { s with pst := { s.pst with clock := leNat p, clockValid := true } }))) ∧
    (Handling ⟨0x11, tag, []⟩ s → exec (.readClock tag []) s = .next
      (replyReady ⟨replyFrame 0x11 tag .ok
        (clockFields s.pst.clock s.set.dayBoundary s.pst.clockValid), none⟩ s)) ∧
    (Handling ⟨0x11, tag, []⟩ s → s.pst.clock ≤ Config.clockMax → ∃ fields, ClockFieldsAre s fields ∧
      exec (.readClock tag []) s = .next (replyReady ⟨replyFrame 0x11 tag .ok fields, none⟩ s))

/-! ### The tracking table and slice planning -/

/-- A leading edge at an open gate admits a loaf: a record of MEASURING with the next loaf number, the assigned slot and the OPEN shift's tag joins the tail of the lane's queue; the shift, the slot and a lane on trial count it. At a closed gate, or with no place free, the loaf is untracked: no record, TRACK_OVERRUN and the lane fault, with a drain request while narrowing is off (R35, R36, R80, R82, R154, R163). -/
def Obligations.InfeedLeadingEdge : Prop :=
  ∀ s l, s.powered = true →
    (s.isConfigured l = false → exec (.infeedLeadingEdge l) s = .next s) ∧
    (∀ sh i, s.isConfigured l = true → s.gateOpen l = true → s.tableCount < 96 →
      s.tot.opened = some sh → s.pst.assign[l] = some i →
      ∃ u r, Effect (.infeedLeadingEdge l) s u ∧
        SameBut { trk := true, hd := true, tot := true, refs := true } s u ∧
        r = ⟨s.trk.nextLoaf, l, i, sh.seq, (s.profile i).bagClass, s.pos, none, none, none, 0, false, none, 0,
          none, none, none, none, false, none, [], false, false, none, .measuring⟩ ∧
        u.trk = { s.trk with
          queues := putAt s.trk.queues l (s.queue l ++ [r])
          nextLoaf := if s.trk.nextLoaf = 4294967295 then 1 else s.trk.nextLoaf + 1 } ∧
        u.tot = { s.tot with opened := some { sh with
          inTable := sh.inTable + 1
          perLane := modAt sh.perLane l fun c => { c with admitted := min 4294967295 (c.admitted + 1) }
          perSlot := modAt sh.perSlot i fun c => { c with admitted := min 4294967295 (c.admitted + 1) } } } ∧
        u.pst.refs = putAt s.pst.refs i (s.pst.refs[i] + 1) ∧
        u.hd.heads = s.hd.heads ∧ OtherLanesKept l s u ∧
        u.lane l = if (s.lane l).state = .trial then
          { s.lane l with
            trialLeft := (s.lane l).trialLeft - 1
            trialList := (s.lane l).trialList ++ [s.trk.nextLoaf] } else s.lane l) ∧
    (s.isConfigured l = true → s.gateOpen l = false ∨ s.tot.opened = none ∨ 96 ≤ s.tableCount →
      s.set.narrowing = true →
      ∃ u, Effect (.infeedLeadingEdge l) s u ∧ SameBut { lp := true, hd := true } s u ∧
        u.flag .trackOverrun = true ∧ FaultTaken .trackOverrun false l s u ∧
        u.hd.heads = s.hd.heads ∧ OtherLanesKept l s u) ∧
    (s.isConfigured l = true → s.gateOpen l = false ∨ s.tot.opened = none ∨ 96 ≤ s.tableCount →
      s.set.narrowing = false →
      ∃ u, Effect (.infeedLeadingEdge l) s u ∧
        SameBut { lp := true, sru := true, lc := true, hd := true } s u ∧
        u.flag .trackOverrun = true ∧ FaultDrains .trackOverrun false l s u)

/-- A trailing edge measures the lane's record in MEASURING and classes and plans it by the tables of R55 and R59; with no such record it is ignored. A record still in MEASURING when the position passes twice its profile's Lmax is LONG with that length, is given no plan, and its lane takes EYE_BLOCKED, which asks for a drain while narrowing is off (R37, R38, R55 to R60, R79, R80). -/
def Obligations.InfeedTrailingEdge : Prop :=
  (∀ s l, s.powered = true →
    (s.isConfigured l = false ∨ (∀ r ∈ s.queue l, r.state ≠ .measuring) →
      exec (.infeedTrailingEdge l) s = .next s) ∧
    (∀ r, s.isConfigured l = true → (s.queue l).find? (fun r => r.state == .measuring) = some r →
      s.find r.loaf = some r →
      ∃ u r', Effect (.infeedTrailingEdge l) s u ∧ SameBut { trk := true } s u ∧
        RecordBecomes r r' s u ∧
        PlanMade (s.profile r.slot) s.set.rmax[l] s.sru.estimate (min 65535 ((s.pos - r.lead) / 65536)) r r')) ∧
  ∀ s r, s.find r.loaf = some r → r.state = .measuring →
    let n := 2 * (s.profile r.slot).lmax
    s.laneStation r = some (r.lead + n * 65536 + 1, .blockedEye r) ∧
      ∃ u, takeStation (.blockedEye r) s = u ∧
        RecordBecomes r { r.addReason .long with
          length := some n, cls := some .long, plan := none, state := .planned } s u ∧
        (s.set.narrowing = true → SameBut { lp := true, trk := true, hd := true } s u ∧
          FaultTaken .eyeBlocked false r.lane s u ∧ u.hd.heads = s.hd.heads ∧ OtherLanesKept r.lane s u) ∧
        (s.set.narrowing = false →
          SameBut { lp := true, sru := true, lc := true, trk := true, hd := true } s u ∧
            FaultDrains .eyeBlocked false r.lane s u)

/-- A plan fits its loaf and its blade: under a valid profile and for a NORMAL length the interior count is within the profile's slices, the cut rate is within the head's greatest for the speed it was checked against, and the cuts run from E to L - E, each beyond the one before (R57 to R61). -/
def Obligations.PlansFit : Prop :=
  ∀ p len rmax v k thick, profileValid p = true → p.lmin ≤ len → len ≤ p.lmax →
    rateCheck p len rmax v = some (k, thick) →
    p.nmin - 2 ≤ k ∧ k ≤ p.nmax - 2 ∧ 1 ≤ k ∧ k * v ≤ rmax * (len - 2 * p.e) ∧ CutsFit p len k

/-- A pocket arrival sets the in-pocket flag and position of the lane's oldest QUEUED record without it; with none it is a phantom, counted, and a lane fault. A release edge within the release window confirms the grant in flight and sets the spacing reference; with no grant in flight it is a phantom that changes no record and no spacing reference. A record without the flag past its pocket deadline retires LOST, leaving its lane's trial list, with POCKET_LOST; past the release window's end a grant in flight is retracted to the head of its lane queue, and at the third retraction the record retires LOST likewise. With narrowing off each of these lane faults asks for a drain (R41, R42, R49, R79, R80, R82, R98, R99, R100, R156, R179; that a trial which the retirement ends in RUNNING ends before the fault is taken is log entry 42). -/
def Obligations.PocketAndReleaseEyes : Prop :=
  (∀ s l, s.powered = true →
    (s.isConfigured l = false → exec (.pocketArrival l) s = .next s) ∧
    (∀ r, s.isConfigured l = true →
      (s.queue l).find? (fun r => r.state == .queued && r.pocket.isNone) = some r →
      s.find r.loaf = some r →
      ∃ u, Effect (.pocketArrival l) s u ∧ SameBut { trk := true } s u ∧
        RecordBecomes r { r with pocket := some s.pos } s u) ∧
    (s.isConfigured l = true → (∀ r ∈ s.queue l, r.state = .queued → r.pocket.isSome = true) →
      s.set.narrowing = true →
      ∃ u, Effect (.pocketArrival l) s u ∧ SameBut { lp := true, hd := true, tot := true } s u ∧
        u.flag .phantomLoaf = true ∧ FaultTaken .pocketPhantom false l s u ∧
        u.hd.heads = s.hd.heads ∧ OtherLanesKept l s u ∧ PhantomCounted s u) ∧
    (s.isConfigured l = true → (∀ r ∈ s.queue l, r.state = .queued → r.pocket.isSome = true) →
      s.set.narrowing = false →
      ∃ u, Effect (.pocketArrival l) s u ∧
        SameBut { lp := true, sru := true, lc := true, hd := true, tot := true } s u ∧
        u.flag .phantomLoaf = true ∧ FaultDrains .pocketPhantom false l s u ∧ PhantomCounted s u)) ∧
  (∀ s, s.powered = true →
    (∀ g r m, s.arb.flight = some g → s.find g.loaf = some r → r.mergeLead = some m →
      s.pos ≤ m + s.set.releaseWindow * 65536 →
      Effect .mergeReleaseEdge s { s with arb := { s.arb with
        flight := none
        pushers := putAt s.arb.pushers g.lane false
        spacing := some ⟨m, r.length.getD 0⟩ } }) ∧
    (s.arb.flight = none →
      ∃ u, Effect .mergeReleaseEdge s u ∧ SameBut { lp := true, tot := true } s u ∧
        u.flag .phantomLoaf = true ∧ PhantomCounted s u)) ∧
  (∀ s r, r.state = .queued → r.pocket = none →
    s.laneStation r =
        some (r.lead + (s.set.dPocket[r.lane] + s.set.tolerance) * 65536 + 1, .pocketDeadline r) ∧
      ∃ u, takeStation (.pocketDeadline r) s = u ∧ PocketLostTaken r s u) ∧
  ∀ s r m, r.state = .merged → s.arb.flight = some ⟨r.loaf, r.lane⟩ → r.mergeLead = some m →
    let rest := { s.arb with flight := none, pushers := putAt s.arb.pushers r.lane false }
    s.postStation r = some (m + s.set.releaseWindow * 65536 + 1, .releaseEnd r) ∧
      (r.retries < 2 → takeStation (.releaseEnd r) s = { s with
        arb := rest
        trk := { s.trk with
          queues := putAt s.trk.queues r.lane
            ({ r with retries := r.retries + 1, mergeLead := none, seq := none, state := .queued } ::
              s.queue r.lane)
          post := s.trk.post.filter fun x => x.loaf != r.loaf } }) ∧
      (2 ≤ r.retries → ∃ u, takeStation (.releaseEnd r) s = u ∧ u.arb = rest ∧
        PocketLostTaken { r with retries := r.retries + 1 } s u)

/-- An exit arrival retires the oldest PASS record in its exit window GOOD, or ESCAPE when late; with none the oldest DIVERT record ESCAPE with DIVERT_FAIL; with neither it is a phantom. A chute arrival retires the oldest DIVERT record in its chute window CHALLENGE or REJECTED, or is a phantom. Each retirement is counted once in the shift of the record's tag, and a divert fail and a phantom in the OPEN, else the CLOSING shift that stands when the edge is taken, before the retirement can close it; all this in every line state, HALTED too (the model's choice, log entry 44). A DECIDED record that no arrival matches retires LOST past the end of its last window (R46, R47, R48, R49, R155, R156). -/
def Obligations.ExitAndChute : Prop :=
  (∀ s, s.powered = true →
    let retired := fun (c : Instr) (r : Rec) (d : Disposition) (before : Tot) (ks : List Kind) =>
      ∃ u, Effect c s u ∧
        SameBut { lp := true, trk := true, hd := true, arb := true, tie := true, tot := true, refs := true } s u ∧
        RetiredAs r d before s u ∧
        u.hd.heads = s.hd.heads ∧ OtherLanesKept r.lane s u ∧ ∀ k ∈ ks, u.flag k = true
    let phantom := fun (c : Instr) =>
      ∃ u, Effect c s u ∧ SameBut { lp := true, tot := true } s u ∧ u.flag .phantomLoaf = true ∧
        PhantomCounted s u
    let fails := fun t : Tot => match t.opened with
      | some sh => { t with opened := some { sh with divertFails := min 4294967295 (sh.divertFails + 1) } }
      | none => { t with closing := t.closing.map fun sh =>
          { sh with divertFails := min 4294967295 (sh.divertFails + 1) } }
    (∀ r, s.oldestIn .pass s.set.dExit = some r → r.late = false → retired .exitArrival r .good s.tot []) ∧
    (∀ r, s.oldestIn .pass s.set.dExit = some r → r.late = true →
      retired .exitArrival r .escape s.tot [.escape]) ∧
    (∀ r, s.oldestIn .pass s.set.dExit = none → s.oldestIn .divert s.set.dExit = some r →
      retired .exitArrival r .escape (fails s.tot) [.escape, .divertFail]) ∧
    (s.oldestIn .pass s.set.dExit = none → s.oldestIn .divert s.set.dExit = none → phantom .exitArrival) ∧
    (∀ r, s.oldestIn .divert s.set.dChute = some r →
      retired .chuteArrival r (if r.challenge then .challenge else .rejected) s.tot []) ∧
    (s.oldestIn .divert s.set.dChute = none → phantom .chuteArrival)) ∧
  ∀ s r, r.state = .decided →
    let d := if r.decision = some .divert then max s.set.dExit s.set.dChute else s.set.dExit
    s.postStation r = some (r.mergeLead.getD 0 + (d + s.set.tolerance) * 65536 + 1, .windowPassed r) ∧
      ∃ u, takeStation (.windowPassed r) s = u ∧
        SameBut { lp := true, trk := true, hd := true, arb := true, tie := true, tot := true, refs := true } s u ∧
        RetiredAs r .lost s.tot s u ∧ u.flag .lostLoaf = true ∧ u.hd.heads = s.hd.heads ∧
        OtherLanesKept r.lane s u

/-- REJECT_LOAF adds OPERATOR to the record it names: OK before the decision, where the record is then diverted, TOO_LATE and the late mark after it, NOT_FOUND with no such record; a list that holds OPERATOR stays as it is (R50, R28, R45). -/
def Obligations.RejectLoaf : Prop :=
  ∀ s tag p, Handling ⟨0x71, tag, p⟩ s → p.length = 4 →
    (s.find (leNat p) = none → Refused (.rejectLoaf tag p) ⟨0x71, tag, p⟩ .notFound s) ∧
    ∀ r, s.find (leNat p) = some r →
      let listed := decide (Reason.operator ∈ r.reasons)
      ∃ u, exec (.rejectLoaf tag p) s = .next
          (replyReady ⟨replyFrame 0x71 tag (if r.state = .decided then .tooLate else .ok)
            [byteOf r.state.code], none⟩ u) ∧
        SameBut { trk := true } s u ∧
        RecordBecomes r { r with
          reasons := if listed then r.reasons else r.reasons ++ [.operator]
          late := r.late || (!listed && decide (r.state = .decided)) } s u ∧
        (r.state ≠ .decided → ∃ r' x, u.find r.loaf = some r' ∧
          (takeStation (.decision r') u).find r.loaf = some x ∧ x.decision = some .divert)

/-- At its decision point a record with a reason or the suspect mark is decided DIVERT, any other PASS; a suspect record with an empty list gets SUSPECT; the reject gate follows; a CHECKED record's decision point lies at its merge lead + Dreject - gate lead (R39, R43, R44). -/
def Obligations.DecisionPoint : Prop :=
  ∀ s r, s.find r.loaf = some r →
    let reasons := if r.suspect = true ∧ r.reasons = [] then [Reason.suspect] else r.reasons
    let d : Decision := if r.suspect = true ∨ r.reasons ≠ [] then .divert else .pass
    let u := takeStation (.decision r) s
    (r.state = .checked → s.postStation r =
      some (r.mergeLead.getD 0 + (s.set.dReject - s.set.gateLead) * 65536, .decision r)) ∧
    SameBut { trk := true } s u ∧ u.trk.rejectGate = d ∧
      RecordBecomes r { r with reasons := reasons, decision := some d, state := .decided } s u

/-- Cut i lies at lead + Dhead + E + floor(i × S / k). A cut position reached with the blade RUNNING is a cut: it is counted, cut 0 makes the record SLICING, and cut k ends its slicing, hands its crumb shares to the head and the belt, whose triggers are evaluated, and makes it QUEUED. With the blade not RUNNING it is missed: a PLANNED record loses its plan, a SLICING one ends its slicing, and both get BLADE. A record not sliced is QUEUED when it is clear of its head. A record that enters QUEUED leaves its lane's trial list (R39, R61, R62, R63, R74, R75, R82, R131, R133; the mark of an ended slicing is log entry 26, the place of a FORCED entry behind a running front log entry 32, that a front in WAIT starts only after the evaluations of the event log entry 48, that a trial's last record ends the trial before its pocket deadline is looked at log entry 42). -/
def Obligations.CutsAtTheirPositions : Prop :=
  (∀ s r p, s.find r.loaf = some r → r.plan = some p → r.state = .planned ∨ r.state = .slicing →
    let u := takeStation (.cut r) s
    let shares := fun n : Nat =>
      let c := s.crm.heads[r.lane]
      let share := n * (s.profile r.slot).crumb * c.correction / 64
      SameBut { lp := true, trk := true, hd := true, crm := true } s u ∧
        u.crm.heads = putAt s.crm.heads r.lane { c with
          estimate := min 4000000 (c.estimate + share), loaves := min 65535 (c.loaves + 1) } ∧
        u.crm.belt = min 4000000 (s.crm.belt + share / 8) ∧
        SlicingEnds s r n s.crm u.crm ∧ ForcedRaised s u
    (r.state = .planned ∨ r.slicingEnded = false →
      let e := (s.profile r.slot).e
      s.laneStation r = some (r.lead +
        (s.set.dHead[r.lane] + (e + r.cutsDone * (r.length.getD 0 - 2 * e) / p.k)) * 65536, .cut r)) ∧
    ((s.head r.lane).blade = .running → r.cutsDone < p.k →
      SameBut { trk := true } s u ∧
        RecordBecomes r { r with cutsDone := r.cutsDone + 1, state := .slicing } s u) ∧
    ((s.head r.lane).blade = .running → p.k ≤ r.cutsDone →
      shares (r.cutsDone + 1) ∧ LeavesTrialList r.lane r.loaf s u ∧ RecordBecomes r
        { r with cutsDone := r.cutsDone + 1, slicingEnded := true, state := .queued } s u) ∧
    ((s.head r.lane).blade ≠ .running → r.state = .planned →
      SameBut { trk := true } s u ∧ RecordBecomes r { r.addReason .blade with plan := none } s u) ∧
    ((s.head r.lane).blade ≠ .running → r.state = .slicing →
      shares r.cutsDone ∧ u.hd = s.hd ∧ RecordBecomes r { r.addReason .blade with slicingEnded := true } s u)) ∧
  ∀ s r, s.find r.loaf = some r →
    (r.state = .planned ∧ r.plan = none) ∨ (r.state = .slicing ∧ r.slicingEnded = true) →
    s.laneStation r =
        some (r.lead + (s.set.dHead[r.lane] + r.length.getD 0) * 65536, .clearOfHead r) ∧
      ∃ u, takeStation (.clearOfHead r) s = u ∧ SameBut { lp := true, trk := true, hd := true } s u ∧
        RecordBecomes r { r with state := .queued } s u ∧ LeavesTrialList r.lane r.loaf s u

/-- CLEAR_TRACK, in READY and HALTED alone, empties the table, ends the grant in flight, and returns the spacing reference, the bypass counts and the reject gate to their first values, answering with the number of records it retired; each retires CLEARED in the shift of its tag, and a CLOSING shift that so loses its last record is CLOSED with SHIFT_CLOSED (R44, R49, R51, R93, R95, R153, R155). -/
def Obligations.ClearTrack : Prop :=
  ∀ s tag, Handling ⟨0x23, tag, []⟩ s →
    (s.lc.state ≠ .ready → s.lc.state ≠ .halted →
      Refused (.clearTrack tag []) ⟨0x23, tag, []⟩ .wrongState s) ∧
    (s.lc.state = .ready ∨ s.lc.state = .halted →
      ∃ u, Replies (.clearTrack tag []) ⟨0x23, tag, []⟩ .ok (fun _ => [byteOf s.tableCount]) s u ∧
        SameBut { lp := true, trk := true, hd := true, arb := true, tie := true, tot := true, refs := true } s u ∧
        u.tableCount = 0 ∧ u.trk.nextLoaf = s.trk.nextLoaf ∧ u.trk.nextSeq = s.trk.nextSeq ∧
        u.trk.rejectGate = .pass ∧ u.hd.heads = s.hd.heads ∧
        u.arb = { s.arb with
          flight := none, spacing := none, bypass := Vector.replicate 4 0
          pushers := Vector.replicate 4 false } ∧
        let cleared := fun sh sh' : Shift => sh'.seq = sh.seq ∧ sh'.closeTime = sh.closeTime ∧
          sh'.inTable = sh.inTable - (s.records.filter fun r => r.tag == sh.seq).length ∧
          ∀ l : Lane, let n := (s.records.filter fun r => r.tag == sh.seq && r.lane == l).length
            sh'.perLane[l].admitted = sh.perLane[l].admitted ∧
              (sh.perLane[l].cleared ≤ 4294967295 →
                sh'.perLane[l].cleared = min 4294967295 (sh.perLane[l].cleared + n))
        (∀ sh, s.tot.opened = some sh → ∃ sh', u.tot.opened = some sh' ∧ cleared sh sh') ∧
        (AccountsHold s → ∀ sh, s.tot.closing = some sh → u.tot.closing = none ∧
          u.flag .shiftClosed = true ∧ ∃ x, u.tot.closed = some x ∧ x.inTable = 0 ∧ cleared sh x))

/-! ### Merge, bagger, tyer, code check -/

/-- A merged record's bag station lies at its merge lead + Dbag and its tie station at + Dtie. At the bag station a READY bagger begins attempt 1 with one bag, raising BAGS_LOW when that crosses the threshold, and any other state writes NOT_BAGGED; at the tie station a bagged record gets a stroke from a tyer in READY or REINDEX_PENDING, with the code of its best-before date, letter and shift digit written, or at a challenge stroke the challenge code printed, one clip used, CLIPS_LOW raised when that crosses the threshold, and the challenge counter and burst window moved on; any other record passes without one (R39, R103, R104, R106, R112, R113, R115 to R117, R124; that the outputs hold what was last commanded is the model's choice, log entry 22). -/
def Obligations.BagAndTieStations : Prop :=
  ∀ s r, s.find r.loaf = some r →
    let v := takeStation (.bag r) s
    let u := takeStation (.tie r) s
    let at_ := fun d => r.mergeLead.getD 0 + d * 65536
    let noGrant := ∀ g, s.arb.flight = some g → g.loaf ≠ r.loaf
    let low := fun (k : Kind) (before limit : Nat) (x : State) =>
      if limit ≤ before ∧ before - 1 < limit then x.flag k = true else x.lp = s.lp
    (r.state = .merged → noGrant →
      ((∀ a, s.bag.attempt = some a → a.loaf ≠ r.loaf) → s.postStation r = some (at_ s.set.dBag, .bag r)) ∧
        (∀ a, s.bag.attempt = some a → a.loaf = r.loaf → s.postStation r = some (at_ s.set.dTie, .tie r))) ∧
    (r.state = .bagged → s.postStation r = some (at_ s.set.dTie, .tie r)) ∧
    ((s.bag.state = .ready →
        SameBut { lp := true, bag := true, tot := true } s v ∧
          v.bag = { s.bag with
            supply := s.bag.supply - 1, state := .cycle, attempt := some ⟨r.loaf, 1⟩
            confirm := some s.set.confirmMs, cycleOut := true } ∧
          low .bagsLow s.bag.supply s.set.bagsLow v ∧
          LineCounted (fun sh => { sh with bags := min 4294967295 (sh.bags + 1) }) s v) ∧
      (s.bag.state ≠ .ready → r.state = .merged →
        SameBut { trk := true } s v ∧
          RecordBecomes r { r.addReason .bagMiss with
            bagResult := some .notBagged, state := .bagged } s v)) ∧
    ((((r.bagResult = some .bagged ∨ r.bagResult = some .baggedOnRetry) ∧
          (s.tie.state = .ready ∨ s.tie.state = .reindexPending)) →
        let code := s.strokeCode r
        let n := s.set.challengeInterval
        let test := decide (n ≠ 0 ∧ n ≤ s.tie.challengeCount + 1)
        let w := s.tie.burst ++ [⟨r.loaf, false⟩]
        SameBut { lp := true, trk := true, tie := true, tot := true } s u ∧
          RecordBecomes r { (if test then r.addReason .challenge else r) with
            expected := some code, challenge := test, state := .tied } s u ∧
          u.tie = { s.tie with
            supply := s.tie.supply - 1
            state := if s.tie.supply - 1 = 0 then .empty else s.tie.state
            owed := s.tie.owed || decide (s.tie.supply - 1 = 0 ∧ s.tie.state = .reindexPending)
            challengeCount := if n = 0 ∨ test then 0 else s.tie.challengeCount + 1
            burst := w.drop (w.length - s.set.burstWindow)
            tyerOut := .stroke
            printed := some (if test then challengeCode code else code) } ∧
          low .clipsLow s.tie.supply s.set.clipsLow u ∧
          (s.pst.clock ≤ Config.clockMax → (s.profile r.slot).shelf ≤ 60 →
            CodesOf s r code (challengeCode code)) ∧
          LineCounted (fun sh => { sh with clips := min 4294967295 (sh.clips + 1) }) s u) ∧
      ((r.bagResult ≠ some .bagged ∧ r.bagResult ≠ some .baggedOnRetry) ∨
          (s.tie.state ≠ .ready ∧ s.tie.state ≠ .reindexPending) →
        SameBut { trk := true } s u ∧ RecordBecomes r { r with state := .tied } s u))

/-- The bag-open sensor ends an attempt BAGGED or BAGGED_ON_RETRY and returns the miss count to 0; the bag confirm timer begins attempt 2 with the next bag, counted and tested against the low threshold, or ends the cycle NOT_BAGGED, adds one miss, and takes the bagger DOWN at the miss limit, else EMPTY without bags, else READY; neither acts with no attempt in progress, nor the timer when it does not run (R104, R105, R106, R156; log entry 3). That the cycle output stays on through attempt 2 and is dropped at the cycle's end by sensor or timer is the model's choice: R104 gives the drop only at a halt (log entry 22). -/
def Obligations.BagAttemptsEnd : Prop :=
  ∀ s, s.powered = true →
    let after : BaggerState := if s.bag.supply = 0 then .empty else .ready
    let m := s.bag.misses + 1
    let ended := fun (x : BagResult) (st : BaggerState) (misses : Nat) (c : Instr) (ks : List Kind) =>
      ∃ u, Effect c s u ∧ SameBut { lp := true, trk := true, bag := true } s u ∧
        u.bag = ⟨s.bag.supply, st, misses, none, none, false⟩ ∧ (∀ k ∈ ks, u.flag k = true) ∧
        ∀ a r, s.bag.attempt = some a → s.find a.loaf = some r →
          RecordBecomes r { (if x = .notBagged then r.addReason .bagMiss else r) with
            bagResult := some x
            state := if r.state = .merged then .bagged else r.state } s u
    (s.bag.attempt = none → Effect .bagOpenSignal s s) ∧
    (∀ a, s.bag.attempt = some a →
      ended (if a.number = 1 then .bagged else .baggedOnRetry) after 0 .bagOpenSignal []) ∧
    (s.bag.confirm = none → exec .bagConfirmTimerExpiry s = .next s) ∧
    (∀ a, s.bag.confirm.isSome = true → s.bag.attempt = some a →
      (a.number = 1 ∧ 0 < s.bag.supply →
        ∃ u, Effect .bagConfirmTimerExpiry s u ∧ SameBut { lp := true, bag := true, tot := true } s u ∧
          u.bag = { s.bag with
            supply := s.bag.supply - 1, state := .cycle, attempt := some ⟨a.loaf, 2⟩
            confirm := some s.set.confirmMs, cycleOut := true } ∧
          (s.set.bagsLow ≤ s.bag.supply → s.bag.supply - 1 < s.set.bagsLow → u.flag .bagsLow = true) ∧
          LineCounted (fun sh => { sh with bags := min 4294967295 (sh.bags + 1) }) s u) ∧
      (¬(a.number = 1 ∧ 0 < s.bag.supply) → s.set.missLimit ≤ m →
        ended .notBagged .down m .bagConfirmTimerExpiry [.baggerDown]) ∧
      (¬(a.number = 1 ∧ 0 < s.bag.supply) → m < s.set.missLimit →
        ended .notBagged after m .bagConfirmTimerExpiry []))

/-- LOAD_BAGS sets the bag supply, clamped at 9999, moves a bagger between READY and EMPTY with it, raises BAGS_LOW when it brings the supply below the threshold, and releases or takes BAGGER (R107). -/
def Obligations.LoadBags : Prop :=
  ∀ s tag p, Handling ⟨0x40, tag, p⟩ s → p.length = 2 →
    let n := min 9999 (leNat p)
    let st : BaggerState := match s.bag.state with
      | .empty => if 0 < n then .ready else .empty
      | .ready => if n = 0 then .empty else .ready
      | .cycle => .cycle
      | .down => .down
    ∃ t, exec (.loadBags tag p) s = .next t ∧
      SameBut { lp := true, sru := true, lc := true, trk := true, hd := true, arb := true, bag := true, tie := true, crm := true } s t ∧
      t.bag = { s.bag with supply := n, state := st } ∧
      ReplyStands ⟨0x40, tag, p⟩ (if 9999 < leNat p then .clamped else .ok)
        (leBytes 2 n ++ [byteOf st.code]) none t ∧
      (s.set.bagsLow ≤ s.bag.supply → n < s.set.bagsLow → t.flag .bagsLow = true) ∧
      (t.arb.withhold.bagger = true ↔ st = .down ∨ st = .empty)

/-- LOAD_CLIPS sets the clip supply, clamped at 20,000, moves the tyer by the table of R114, raises CLIPS_LOW when it brings the supply below the threshold, and releases or takes TYER (R114); that its reply carries the tyer state after a reindex it starts at once is the model's reading (log entry 34). -/
def Obligations.LoadClips : Prop :=
  ∀ s tag p, Handling ⟨0x41, tag, p⟩ s → p.length = 2 →
    let n := min 20000 (leNat p)
    let st : TyerState := match s.tie.state with
      | .empty => if n = 0 then .empty else if s.tie.owed then .reindexPending else .ready
      | .ready => if n = 0 then .empty else .ready
      | .reindexPending => if n = 0 then .empty else .reindexPending
      | .reindex => .reindex
    let owed := match s.tie.state with
      | .empty => s.tie.owed && decide (n = 0)
      | .reindexPending => s.tie.owed || decide (n = 0)
      | _ => s.tie.owed
    ∃ u, Replies (.loadClips tag p) ⟨0x41, tag, p⟩ (if 20000 < leNat p then .clamped else .ok)
        (fun t => leBytes 2 n ++ [byteOf t.tie.state.code]) s u ∧
      SameBut { lp := true, tie := true } s u ∧
      u.tie = { s.tie with supply := n, state := st, owed := owed } ∧
      (s.set.clipsLow ≤ s.tie.supply → n < s.set.clipsLow → u.flag .clipsLow = true) ∧
      ∃ t, exec (.loadClips tag p) s = .next t ∧ (t.arb.withhold.tyer = true ↔ t.tie.state ≠ .ready)

/-- A choice that falls on another class begins a changeover: it waits while a record is MERGED and else runs its time; a pending reindex starts when no record is MERGED or BAGGED and the line is not HALTED. At its expiry a changeover's timer makes the noted class current and ends the changeover; a reindex timer's empties the burst window, clears the owed mark and leaves the tyer READY, or EMPTY without clips. With no such timer running neither expiry acts (R96, R126; log entries 3 and 22; that a waiting changeover starts even at a HALT that leaves no record MERGED is the model's choice, log entry 35). -/
def Obligations.ChangeoverAndReindexEnd : Prop :=
  (∀ before h u, (∀ k, ∀ r ∈ u.queue k, r.lane = k) →
    let t := settle before h u
    (∀ r, GrantDue h u → u.choice = some r → r.bagClass ≠ u.arb.bagClass →
      t.trk.queues = u.trk.queues ∧ t.trk.post = u.trk.post ∧ t.arb.flight = none ∧
        t.arb.withhold.changeover = true ∧ t.arb.bagClass = u.arb.bagClass ∧
        t.arb.changeover = if ∃ x ∈ u.records, x.state = .merged then .waiting r.bagClass
          else .running r.bagClass u.set.changeoverMs) ∧
    (∀ c, u.arb.changeover = .waiting c → (∀ x ∈ u.records, x.state ≠ .merged) →
      t.arb.changeover = .running c u.set.changeoverMs ∧ t.arb.withhold.changeover = true) ∧
    (u.tie.state = .reindexPending → (∀ r ∈ u.records, r.state ≠ .merged ∧ r.state ≠ .bagged) →
      u.lc.state ≠ .halted →
      t.tie = { u.tie with state := .reindex, reindex := some u.set.reindexMs, tyerOut := .reindex } ∧
        t.arb.withhold.tyer = true)) ∧
  ∀ s, s.powered = true →
    (∀ c left, s.arb.changeover = .running c left → Effect .changeoverTimerExpiry s
      { s with arb := { s.arb with bagClass := c, changeover := .none } }) ∧
    ((∀ c left, s.arb.changeover ≠ .running c left) → exec .changeoverTimerExpiry s = .next s) ∧
    (s.tie.reindex.isSome = true → Effect .reindexTimerExpiry s
      { s with tie := { s.tie with
        burst := [], owed := false, reindex := none, tyerOut := .none
        state := if 0 < s.tie.supply then .ready else .empty } }) ∧
    (s.tie.reindex = none → exec .reindexTimerExpiry s = .next s)

/-- ARB's choice is a candidate of the first group that holds any: those of another class at their bypass limit, then those of the current class, then any; and no candidate of that group goes before it by pocket arrival and rotation. When the withhold set is empty, no grant is in flight and the spacing point is reached, a choice of the current class is granted at once: its record moves to the tail of the post-merge queue with its merge lead and sequence, its pusher is driven, and the other lanes' bypass counts follow (R92 to R95, R97). -/
def Obligations.ChoiceIsTheEarliestOfItsGroup : Prop :=
  (∀ before h u r, (∀ k, ∀ x ∈ u.queue k, x.lane = k) → GrantDue h u → u.choice = some r →
    r.bagClass = u.arb.bagClass →
    let t := settle before h u
    t.arb.flight = some ⟨r.loaf, r.lane⟩ ∧ t.arb.pushers = putAt u.arb.pushers r.lane true ∧
      t.arb.rotation = r.lane ∧ t.arb.spacing = u.arb.spacing ∧
      (∀ l : Lane, t.arb.bypass[l] = if l = r.lane then 0 else match u.candidate l with
        | some c => if c.bagClass = r.bagClass then u.arb.bypass[l] else min 32 (u.arb.bypass[l] + 1)
        | none => u.arb.bypass[l]) ∧
      t.trk.post = u.trk.post ++ [{ r with
        mergeLead := some (u.pos + u.set.mergeTravel * 65536), seq := some u.trk.nextSeq
        state := .merged }] ∧
      t.trk.nextSeq = (if u.trk.nextSeq = 4294967295 then 1 else u.trk.nextSeq + 1) ∧
      u.queue r.lane = r :: t.queue r.lane ∧ ∀ l, l ≠ r.lane → t.queue l = u.queue l) ∧
  ∀ s : State, (∀ l, ∀ r ∈ s.queue l, r.lane = l) →
    let atLimit := fun r : Rec => r.bagClass ≠ s.arb.bagClass ∧ s.set.bypassLimit ≤ s.arb.bypass[r.lane]
    let same := fun r : Rec => r.bagClass = s.arb.bagClass
    (s.choice = none ↔ s.candidates = []) ∧
    ∀ r, s.choice = some r →
      r ∈ s.candidates ∧ s.candidate r.lane = some r ∧ r.state = .queued ∧
      ((∃ c ∈ s.candidates, atLimit c) → atLimit r) ∧
      ((∀ c ∈ s.candidates, ¬atLimit c) → (∃ c ∈ s.candidates, same c) → same r) ∧
      ∀ c ∈ s.candidates, (atLimit r → atLimit c) → (¬atLimit r → same r → same c) → c ≠ r →
        r.pocket.getD 0 < c.pocket.getD 0 ∨
          (r.pocket.getD 0 = c.pocket.getD 0 ∧
            (r.lane.val + 3 - s.arb.rotation.val) % 4 < (c.lane.val + 3 - s.arb.rotation.val) % 4)

/-- At its verify station a record with an expected code has its read triggered, one without is given NO_CLIP or left unread, and an open read past the end of its window is NO_READ. A reader's answer to an open read in its window is compared with the record's code: MATCH, MISMATCH with its capture and CODE_MISMATCH, or NO_CLIP, and for a challenge record the challenge caught, or the verifier blind, which drains a RUNNING or STARTING line and changes no other line state; any other answer is a stray that is only counted. A NO_READ or MISMATCH of a record without the challenge mark marks its entry of the burst window and can find a burst, which R125 takes by the tyer state (R118 to R122, R124, R125, R156, R179; that the trigger output holds the last command is log entry 22). -/
def Obligations.CodeReaderAnswers : Prop :=
  (∀ s r, r.state = .tied → s.find r.loaf = some r →
    ((∀ o ∈ s.tie.openReads, o.loaf ≠ r.loaf) →
      let n := s.tie.nextTrigger
      let v := takeStation (.verify r) s
      s.postStation r = some (r.mergeLead.getD 0 + s.set.dVerify * 65536, .verify r) ∧
        (∀ code, r.expected = some code → v = { s with tie := { s.tie with
          openReads := s.tie.openReads ++
            [⟨n, r.loaf, r.mergeLead.getD 0 + (s.set.dVerify + s.set.readWindow) * 65536⟩]
          nextTrigger := if n = 255 then 0 else (n + 1) % 256
          readerTrigger := some [0x54, byteOf n] } }) ∧
        (r.expected = none → SameBut { trk := true } s v ∧
          RecordBecomes r (if r.bagResult = some .notBagged then { r with state := .checked }
            else { r.addReason .noClip with read := some .noClip, state := .checked }) s v)) ∧
    ∀ o, s.tie.openReads.find? (fun o => o.loaf == r.loaf) = some o →
      let k := s.tie.counters
      s.postStation r = some (o.windowEnd + 1, .readEnd o) ∧
        ∃ u, takeStation (.readEnd o) s = u ∧ SameBut { lp := true, trk := true, tie := true } s u ∧
          RecordBecomes r { r.addReason .noRead with read := some .noRead, state := .checked } s u ∧
          u.tie.openReads = s.tie.openReads.filter (fun x => x.trigger != o.trigger) ∧
          u.tie.counters = { k with noReads := min 4294967295 (k.noReads + 1) } ∧
          u.tie.capture = s.tie.capture ∧ BurstTaken r s u) ∧
  ∀ s, s.powered = true →
    let k := s.tie.counters
    let up := fun n : Nat => min 4294967295 (n + 1)
    (∀ bytes, (parseAnswer bytes = none ∨ ∃ t a, parseAnswer bytes = some (t, a) ∧
        ∀ o ∈ s.tie.openReads, o.trigger = t → o.windowEnd < s.pos) →
      exec (.codeReaderAnswer bytes) s =
        .next { s with tie := { s.tie with counters := { k with strays := up k.strays } } }) ∧
    ∀ o r code trig text,
      s.tie.openReads.find? (fun x => x.trigger == trig.toNat && decide (s.pos ≤ x.windowEnd)) = some o →
      s.find o.loaf = some r → r.expected = some code → r.state = .tied →
      text.length = 8 → (∀ b ∈ text, 0x20 ≤ b.toNat ∧ b.toNat ≤ 0x7E) →
      let c := Instr.codeReaderAnswer (0x52 :: trig :: text)
      let left := s.tie.openReads.filter fun x => x.trigger != o.trigger
      let checked := { r with state := .checked }
      (r.challenge = false → text = code →
        ∃ u, Effect c s u ∧ SameBut { trk := true, tie := true } s u ∧
          RecordBecomes r { checked with read := some .match } s u ∧
          u.tie = { s.tie with openReads := left, counters := { k with reads := up k.reads } }) ∧
      (r.challenge = false → text ≠ code →
        ∃ u, Effect c s u ∧ SameBut { lp := true, trk := true, tie := true } s u ∧
          u.flag .codeMismatch = true ∧
          RecordBecomes r { r.addReason .mismatch with
            read := some (.mismatch text), state := .checked } s u ∧
          u.tie.openReads = left ∧ u.tie.capture = some ⟨o.loaf, code, text⟩ ∧
          u.tie.counters = { k with reads := up k.reads, mismatches := min 255 (k.mismatches + 1) } ∧
          BurstTaken r s u) ∧
      (r.challenge = true → text = challengeCode code →
        ∃ u, Effect c s u ∧ SameBut { trk := true, tie := true, tot := true } s u ∧
          RecordBecomes r { checked with read := some (.mismatch text) } s u ∧
          u.tie = { s.tie with openReads := left
                               counters := { k with reads := up k.reads, caught := up k.caught } } ∧
          LineCounted (fun sh => { sh with caught := up sh.caught }) s u) ∧
      (r.challenge = true → text ≠ code → text ≠ challengeCode code →
        ∃ u, Effect c s u ∧ SameBut { trk := true, tie := true } s u ∧
          RecordBecomes r { checked with read := some (.mismatch text) } s u ∧
          u.tie = { s.tie with openReads := left, counters := { k with reads := up k.reads } }) ∧
      (∃ u, Effect (.codeReaderAnswer (0x52 :: trig :: List.replicate 8 0)) s u ∧
        SameBut { trk := true, tie := true } s u ∧
        RecordBecomes r { r.addReason .noClip with read := some .noClip, state := .checked } s u ∧
        u.tie = { s.tie with openReads := left, counters := { k with reads := up k.reads } }) ∧
      (r.challenge = true → text = code → text ≠ challengeCode code →
        ∃ u, Effect c s u ∧ SameBut { lp := true, lc := true, trk := true, tie := true } s u ∧
          RecordBecomes r { checked with read := some .match } s u ∧
          u.tie = { s.tie with
            blind := true, openReads := left, counters := { k with reads := up k.reads } } ∧
          u.flag .verifierBlind = true ∧
          (s.lc.state = .running ∨ s.lc.state = .starting → u.flag .lineState = true ∧ u.lc = { s.lc with
            state := .draining, cause := .verifierBlind, startLimit := none, silence := none }) ∧
          (s.lc.state ≠ .running → s.lc.state ≠ .starting → u.lc = s.lc))

/-- SET_CHALLENGE refuses an interval outside 0 and 50 to 5000; a new interval returns the challenge counter and the code-check counters to 0 and marks the settings unsaved; the interval in force changes nothing. RESET_CODECHECK returns the counters to 0 and leaves the rest (R127, R128). -/
def Obligations.ChallengeSettings : Prop :=
  ∀ s tag,
    (∀ p, Handling ⟨0x42, tag, p⟩ s → p.length = 2 →
      let n := leNat p
      let ok := n = 0 ∨ (50 ≤ n ∧ n ≤ 5000)
      let reply : Reply := ⟨replyFrame 0x42 tag .ok (leBytes 2 n), none⟩
      (¬ok → Refused (.setChallenge tag p) ⟨0x42, tag, p⟩ .badField s) ∧
      (ok → n = s.set.challengeInterval → exec (.setChallenge tag p) s = .next (replyReady reply s)) ∧
      (ok → n ≠ s.set.challengeInterval → exec (.setChallenge tag p) s = .next (replyReady reply
        { s with
          pst := { s.pst with
            settings := { s.pst.settings with challengeInterval := n }
            unsaved := true
            store := s.pst.store.touch 0 }
          tie := { s.tie with
            challengeCount := 0, counters := ⟨0, 0, 0, 0, 0⟩, capture := none } }))) ∧
    (Handling ⟨0x44, tag, []⟩ s → exec (.resetCodecheck tag []) s = .next
      (replyReady ⟨replyFrame 0x44 tag .ok [], none⟩
        { s with tie := { s.tie with counters := ⟨0, 0, 0, 0, 0⟩, capture := none } }))

/-! ### Crumb -/

/-- The steps of a purge: PURGE gives a target without an entry a SOFT one at the tail; the before-reading, or its absence at the weigh timer, opens the air; the purge timer closes it and the settle time runs; the settle timer asks for the after-reading; an answer for another tray, and a timer that does not run, do nothing. The front entry in WAIT starts its cycle when the line is not HALTED and its head is not busy, the blade then PARKED under the guard command, or, for the belt, when no grant is in flight and the clearance point is reached (R70, R76, R134, R138 to R141; log entry 3; that PURGE replies with the place and state after what it starts at once is the model's reading, log entry 34, and that the front is looked at once, after the event's own effect, the model's choice, log entry 48). -/
def Obligations.PurgeSteps : Prop :=
  (∀ before h u e rest, (∀ k, ∀ r ∈ u.queue k, r.lane = k) → u.crm.state = .wait →
    u.crm.queue = e :: rest → u.lc.state ≠ .halted →
    let t := settle before h u
    let begun := fun n : Nat => t.crm = { u.crm with
      state := .purging, cycle := some ⟨e.target, n, none, none⟩, weigh := some 200 }
    (∀ l, e.target = .head l →
      (∀ r ∈ u.queue l, r.state ≠ .measuring ∧ r.state ≠ .planned ∧ r.state ≠ .slicing) →
      begun u.crm.heads[l].estimate ∧ (t.head l).blade = .parked ∧ (t.head l).spinup = none ∧
        t.servo l = ⟨0, true⟩) ∧
    (e.target = .belt → u.arb.flight = none →
      (∀ x, u.arb.spacing = some x → x.lead + (x.length + u.set.clearance) * 65536 ≤ h) →
      begun u.crm.belt ∧ t.arb.withhold.purge = true)) ∧
  ∀ s, s.powered = true →
    (∀ tag n t, Handling ⟨0x50, tag, [n]⟩ s → asTarget n.toNat = some t →
      (s.targetConfigured t = false → Refused (.purge tag [n]) ⟨0x50, tag, [n]⟩ .badField s) ∧
      (s.targetConfigured t = true →
        ∃ u, Replies (.purge tag [n]) ⟨0x50, tag, [n]⟩ .ok
            (fun v => [byteOf (placeOf v.crm.queue t), byteOf v.crm.state.code]) s u ∧
          SameBut { crm := true } s u ∧
          ((∃ e ∈ s.crm.queue, e.target = t) → u.crm = s.crm) ∧
          ((∀ e ∈ s.crm.queue, e.target ≠ t) →
            u.crm.queue = s.crm.queue ++ [⟨t, .soft⟩] ∧ u.crm.heads = s.crm.heads ∧
              u.crm.state = if s.crm.state = .idle then .wait else s.crm.state))) ∧
    (∀ y load, s.crm.state = .purging → s.crm.cycle = some y → s.crm.weigh.isSome = true →
      let opened := fun x : Option Nat => { s with crm := { s.crm with
        cycle := some { y with before := x }
        weigh := none, purge := some s.set.purgeMs, air := some y.target } }
      Effect (.weighAnswer y.target load) s (opened (some (min 2000000 load))) ∧
        Effect .weighTimerExpiry s (opened none)) ∧
    (∀ tray load, (s.crm.weigh = none ∨ s.crm.cycle.map Cycle.target ≠ some tray) →
      exec (.weighAnswer tray load) s = .next s) ∧
    (s.crm.weigh = none → exec .weighTimerExpiry s = .next s) ∧
    (s.crm.purge.isSome = true → exec .purgeTimerExpiry s = .next { s with crm := { s.crm with
      state := .settle, purge := none, air := none, settle := some 1000 } }) ∧
    (s.crm.purge = none → exec .purgeTimerExpiry s = .next s) ∧
    (s.crm.settle.isSome = true → exec .settleTimerExpiry s = .next { s with crm := { s.crm with
      settle := none, weigh := some 200 } }) ∧
    (s.crm.settle = none → exec .settleTimerExpiry s = .next s)

/-- A reading in SETTLE completes the cycle: the estimate falls by the estimate at start, a head's loaves return to 0 and its correction follows the removed mass, the last purge and the totals take it; CRUMB_MODEL is raised where the model disagrees; an after-reading of a head above the residual limit gives its lane CRUMB_OVERFLOW; the entry leaves the queue, the others keeping their order, and its target joins again only where its triggers are due; a PARKED blade leaves PARKED by the table of R76; and PURGE_DONE is raised (R76, R80, R133, R142, R143; the weigh timer's expiry acts while the timer runs, log entry 3; that the next entry, the front in WAIT, starts only after that evaluation and can have a FORCED entry put ahead of it is the model's choice, log entry 48). -/
def Obligations.PurgeCompletes : Prop :=
  ∀ s y c x, s.powered = true → s.crm.state = .settle → s.crm.cycle = some y →
    s.crm.weigh.isSome = true → PurgesHold s →
    ((∃ load, c = .weighAnswer y.target load ∧ x = some (min 2000000 load)) ∨ (c = .weighTimerExpiry ∧ x = none)) →
    let removed := match y.before, x with
      | some b, some a => some (b - a)
      | _, _ => none
    let up := fun n : Nat => min 4294967295 (n + 1)
    let counted := fun (u : State) (f : Shift → Shift) =>
      (∀ sh, s.tot.opened = some sh → u.tot = { s.tot with opened := some (f sh) }) ∧
        (s.tot.opened = none → u.tot = { s.tot with closing := s.tot.closing.map f })
    ∃ u, Effect c s u ∧
      SameBut { lp := true, sru := true, lc := true, hd := true, crm := true, tot := true } s u ∧
      u.flag .purgeDone = true ∧ u.crm.cycle = none ∧ u.crm.air = none ∧ u.crm.purge = none ∧
      u.crm.settle = none ∧ u.crm.weigh = none ∧
      u.crm.queue.filter (fun e => e.target != y.target) = s.crm.queue.tail ∧
      u.crm.state = (if u.crm.queue = [] then .idle else .wait) ∧
      (u.flag .crumbModel = true ↔ s.flag .crumbModel = true ∨ (0 < y.start ∧ match removed with
        | some m => s.set.mismatchPct * y.start < ((m - y.start) + (y.start - m)) * 100
        | none => True)) ∧
      (∀ l, y.target = .head l →
        let h := s.crm.heads[l]
        let f := match removed with
          | some m => if y.start = 0 then h.correction else max 32 (min 128 (h.correction * m / y.start))
          | none => h.correction
        let left := h.estimate - y.start
        let heavy := ∃ a, x = some a ∧ s.set.residual < a
        let c := u.lane l
        u.crm.heads = putAt s.crm.heads l ⟨left, f, 0⟩ ∧ u.crm.belt = s.crm.belt ∧
          u.crm.last = putAt s.crm.last l (some ⟨y.before, x, removed, y.start, f⟩) ∧
          u.crm.lastBelt = s.crm.lastBelt ∧
          counted u (fun sh => { sh with
            purges := putAt sh.purges l (up sh.purges[l])
            crumb := putAt sh.crumb l (min 4294967295 (sh.crumb[l] + removed.getD 0)) }) ∧
          (¬heavy → c = s.lane l ∧ u.lc = s.lc ∧ u.sru = s.sru ∧ OtherLanesKept l s u) ∧
          (heavy → s.set.narrowing = true →
            FaultTaken .crumbOverflow false l s u ∧ u.lc = s.lc ∧ u.sru = s.sru ∧ OtherLanesKept l s u) ∧
          (heavy → s.set.narrowing = false → FaultDrains .crumbOverflow false l s u) ∧
          ((∃ e ∈ u.crm.queue, e.target = .head l) ↔
            s.isConfigured l = true ∧ (s.set.headHard ≤ left ∨ s.set.headPurge ≤ left)) ∧
          (∀ e ∈ u.crm.queue, e.target = .head l → (e.group = .forced ↔ s.set.headHard ≤ left)) ∧
          ((s.head l).blade = .parked →
            let serves := c.state = .running ∨ c.state = .trial ∨
              (c.state = .idle ∧ c.target = true ∧ (u.lc.state = .starting ∨ u.lc.state = .running))
            (serves → (u.head l).blade = .spinup ∧ (u.head l).spinup = some (1000 * s.set.spinupS)) ∧
              (¬serves → (u.head l).blade = .stopped))) ∧
      (y.target = .belt → u.crm.heads = s.crm.heads ∧ u.crm.belt = s.crm.belt - y.start ∧
        u.crm.lastBelt = some ⟨y.before, x, removed, y.start, 0⟩ ∧ u.crm.last = s.crm.last ∧
        counted u (fun sh => { sh with beltPurges := up sh.beltPurges }) ∧
        ((∃ e ∈ u.crm.queue, e.target = .belt) ↔
          s.set.beltHard ≤ u.crm.belt ∨ s.set.beltPurge ≤ u.crm.belt) ∧
        (∀ e ∈ u.crm.queue, e.target = .belt → (e.group = .forced ↔ s.set.beltHard ≤ u.crm.belt)) ∧
        SameBut { lp := true, crm := true, tot := true } s u)

/-! ### Running the line -/

/-- START is refused by the first condition of R176 that holds; accepted, it enters STARTING with its origin, cause NONE and the start limit running, the reference enters ACQUIRE on the pacer with both line monitors unqualified, the blade of each idle lane in the target set spins up, and a start from HALTED marks every undecided record suspect. STARTING ends in RUNNING at the event at which the reference is TRACK and the blade of a lane in service is RUNNING (R18, R84, R176, R177, R183, R184). -/
def Obligations.Start : Prop :=
  (∀ before h u l, u.lc.state = .starting → u.sru.state = .track → (u.head l).blade = .running →
    ((u.lane l).state = .running ∨ (u.lane l).state = .trial ∨ u.headBusy l = true) →
    let t := settle before h u
    t.lc.state = .running ∧ t.lc.startLimit = none ∧ t.flag .lineState = true ∧
      t.lc.silence = (if u.set.linkTimeoutS = 0 then none else some (1000 * u.set.linkTimeoutS)) ∧
      t.lc.target = min u.lc.setSpeed t.lc.ceiling ∧ t.lc.cause = u.lc.cause) ∧
  ∀ s tag, Handling ⟨0x20, tag, []⟩ s →
    let inTarget := fun l => s.isConfigured l = true ∧ (s.lane l).target = true
    let moving := s.lc.state = .starting ∨ s.lc.state = .running ∨ s.lc.state = .draining
    let no := fun st => Refused (.start tag []) ⟨0x20, tag, []⟩ st s
    let able := s.tie.blind = false ∧ s.lc.estop = false ∧ (∃ l, inTarget l) ∧
      ∀ l : Lane, inTarget l → s.pst.assign[l] ≠ none
    (moving → no .wrongState) ∧
    (¬moving → s.tot.opened = none → no .noShift) ∧
    (¬moving → s.tot.opened ≠ none → s.pst.clockValid = false → no .noClock) ∧
    (¬moving → s.tot.opened ≠ none → s.pst.clockValid = true → ¬able → no .wrongState) ∧
    (¬moving → s.tot.opened ≠ none → s.pst.clockValid = true → able →
      ∃ u t, Replies (.start tag []) ⟨0x20, tag, []⟩ .ok (fun v => [byteOf v.lc.state.code]) s u ∧
        exec (.start tag []) s = .next t ∧
        t.lc.state = .starting ∧ t.lc.target = s.set.crawl ∧ t.lc.cause = .none ∧
        t.lc.startLimit = some (1000 * s.set.startLimitS) ∧
        SameBut { lp := true, sru := true, lc := true, trk := true, hd := true } s u ∧
        u.lc.origin = (if s.lc.state = .halted then .halted else .ready) ∧
        u.lc.demand = s.lc.demand ∧
        u.sru.state = .acquire ∧ u.sru.selected = .pacer ∧ u.sru.slipActive = false ∧
        u.sru.w = ⟨⟨false, 0, 0, s.sru.w.mon.count⟩, []⟩ ∧
        u.sru.m = ⟨⟨false, 0, 0, s.sru.m.mon.count⟩, []⟩ ∧
        (s.lc.state = .halted → SuspectMarked s u) ∧ (s.lc.state ≠ .halted → u.trk = s.trk) ∧
        u.hd.lanes = s.hd.lanes ∧
        ∀ l, u.head l =
          if (s.lane l).state = .idle ∧ inTarget l ∧ (s.head l).blade ≠ .parked then
            { s.head l with
              blade := .spinup, mon := ⟨false, 0, 0, (s.head l).mon.count⟩
              spinup := some (1000 * s.set.spinupS) }
          else s.head l)

/-- STOP is answered in every line state. It takes a RUNNING line, and a STARTING one whose table holds records, to DRAINING with stop cause STOP, the start limit timer stopped, and nothing else but the LINE_STATE notice; it takes a STARTING or HALTED line with an empty table to READY; in DRAINING and READY it changes nothing; in HALTED with records in the table it is refused with WRONG_STATE and changes nothing. Each reply carries the line state after the request; over the states that steps keep, that is READY with an empty table and DRAINING otherwise, and the demand target is that of R183's row, the crawl speed in DRAINING while the reference is in ACQUIRE (R178). -/
def Obligations.Stop : Prop :=
  ∀ s tag, Handling ⟨0x21, tag, []⟩ s →
    let answered := Replies (.stop tag []) ⟨0x21, tag, []⟩ .ok (fun v => [byteOf v.lc.state.code]) s
    (s.lc.state = .ready ∨ s.lc.state = .draining → answered s) ∧
    (s.lc.state = .running ∨ (s.lc.state = .starting ∧ s.tableCount ≠ 0) →
      ∃ u, answered u ∧ SameBut { lp := true, lc := true } s u ∧ u.flag .lineState = true ∧
        u.lc = { s.lc with state := .draining, cause := .stop, startLimit := none, silence := none }) ∧
    (s.lc.state = .starting ∨ s.lc.state = .halted → s.tableCount = 0 →
      ∃ u, answered u ∧ ReadyTaken .stop s u) ∧
    (s.lc.state = .halted → s.tableCount ≠ 0 →
      Refused (.stop tag []) ⟨0x21, tag, []⟩ .wrongState s) ∧
    (LineHolds s → s.lc.state ≠ .halted ∨ s.tableCount = 0 →
      ∃ t, exec (.stop tag []) s = .next t ∧
        SameBut { lp := true, sru := true, lc := true, trk := true, hd := true, arb := true, tie := true, crm := true } s t ∧
        ReplyStands ⟨0x21, tag, []⟩ .ok [byteOf t.lc.state.code] none t ∧
        t.lc.state = (if s.tableCount = 0 then .ready else .draining) ∧
        t.lc.cause = (if s.lc.state = .ready ∨ s.lc.state = .draining then s.lc.cause else .stop) ∧
        (s.lc.state = .running ∨ s.lc.state = .starting → t.lc.startLimit = none ∧ t.lc.silence = none) ∧
        t.lc.target = t.demandTarget ∧ TargetFollows t)

/-- HALT and the E-stop input take a moving line to HALTED at once; in READY and HALTED HALT changes nothing and the E-stop input is only noted; its release is only noted (R181). That a purge, a bag attempt or a reindex still going on in READY is left to go on there, as the table of R181 says of READY against R104, R126 and R144, is the model's choice (log entry 36), and so is that the abort of a running purge leaves the queue as it is, its target's triggers not evaluated there (log entry 46). -/
def Obligations.Halts : Prop :=
  ∀ s tag, s.powered = true →
    let moving := s.lc.state = .starting ∨ s.lc.state = .running ∨ s.lc.state = .draining
    let noted := fun b => { s with lc := { s.lc with estop := b } }
    (Handling ⟨0x22, tag, []⟩ s →
      (moving → ∃ u, HaltTaken .halt s u ∧
        Replies (.halt tag []) ⟨0x22, tag, []⟩ .ok (fun v => [byteOf v.lc.state.code]) s u) ∧
      (¬moving → Replies (.halt tag []) ⟨0x22, tag, []⟩ .ok (fun v => [byteOf v.lc.state.code]) s s)) ∧
    (moving → ∃ u, HaltTaken .estop (noted true) u ∧ Effect .estopAsserted s u) ∧
    (¬moving → Effect .estopAsserted s (noted true)) ∧
    exec .estopReleased s = .next (noted false)

/-- SET_SPEED sets the set speed, clamped at the ceiling in force, and answers with both; the demand target follows at once (R182, R183). -/
def Obligations.SetSpeed : Prop :=
  ∀ s tag p, Handling ⟨0x25, tag, p⟩ s → p.length = 2 →
    let n := min (leNat p) s.lc.ceiling
    Replies (.setSpeed tag p) ⟨0x25, tag, p⟩ (if s.lc.ceiling < leNat p then .clamped else .ok)
        (fun _ => leBytes 2 n ++ leBytes 2 s.lc.ceiling) s
        { s with lc := { s.lc with setSpeed := n } } ∧
      ∃ t, exec (.setSpeed tag p) s = .next t ∧ t.lc.setSpeed = n ∧ t.lc.target = t.demandTarget

/-- SET_REFERENCE sets the four settings, refused whole for a byte other than 0 and 1. In IDLE it is only stored; elsewhere the source chosen under R13 becomes the selected one with the reference in TRACK, or, with none chosen in TRACK, track is lost to HOLDOVER at the standing estimate, or to CRAWL with every undecided record suspect when the holdover limit is 0, the loss being counted in its cell and in the shift that stands (R13, R14, R15, R19, R20, R21, R22, R156, R183). -/
def Obligations.SetReference : Prop :=
  ∀ s tag (a b c d : Byte), Handling ⟨0x26, tag, [a, b, c, d]⟩ s →
    let ok := a.toNat ≤ 1 ∧ b.toNat ≤ 1 ∧ c.toNat ≤ 1 ∧ d.toNat ≤ 1
    let x : RefSettings := ⟨if a = 0 then .auto else .fixed, if b = 0 then .w else .m, c = 1, d = 1⟩
    let cmd := Instr.setReference tag [a, b, c, d]
    let r : Req := ⟨0x26, tag, [a, b, c, d]⟩
    let wq := s.sru.w.mon.qualified = true
    let mq := s.sru.m.mon.qualified = true
    let chosen : Option LineSource → Prop := fun src =>
      (x.mode = .fixed → src = if (s.sru.line x.fixedSource).mon.qualified then some x.fixedSource else none) ∧
      (x.mode = .auto →
        (x.revertive = false ∧ s.sru.selected = .encoder .m ∧ mq → src = some .m) ∧
        (¬(x.revertive = false ∧ s.sru.selected = .encoder .m ∧ mq) →
          (wq → src = some .w) ∧ (¬wq → mq → src = some .m) ∧ (¬wq → ¬mq → src = none)))
    (¬ok → Refused cmd r .badField s) ∧
    (ok → ∃ src u, chosen src ∧ Replies cmd r .ok (fun _ => []) s u ∧ u.sru.settings = x ∧
      (s.sru.state = .idle ∨ (∃ y, src = some y ∧ s.sru.selected = .encoder y) ∨
          (src = none ∧ s.sru.state ≠ .track) →
        u = { s with sru := { s.sru with settings := x } }) ∧
      (∀ y, s.sru.state ≠ .idle → src = some y → s.sru.selected ≠ .encoder y →
        SameBut { lp := true, sru := true, lc := true, trk := true } s u ∧
          u.sru.state = .track ∧ u.sru.selected = .encoder y ∧ u.sru.holdover = none ∧
          u.lc = { s.lc with held := if s.sru.state = .track then s.lc.held else none } ∧
          u.flag .refState = true ∧
          (if x.hitless = true ∧ s.flag .slip = false then u.trk = s.trk else SuspectMarked s u)) ∧
      (s.sru.state = .track → src = none →
        SameBut { lp := true, sru := true, lc := true, trk := true, tot := true, nv := true } s u ∧
          LossCounted s u ∧ u.sru.selected = .pacer ∧ u.flag .refState = true ∧
          u.lc = { s.lc with held := if s.set.holdoverMs = 0 then none else some s.lc.demand } ∧
          (s.set.holdoverMs ≠ 0 → u.sru.state = .holdover ∧ u.sru.frozen = s.sru.estimate ∧
            u.sru.holdover = some s.set.holdoverMs ∧ u.trk = s.trk) ∧
          (s.set.holdoverMs = 0 → u.sru.state = .crawl ∧ u.sru.holdover = none ∧ SuspectMarked s u)))

/-- The holdover timer takes the reference to CRAWL and marks every undecided record suspect; the start limit returns the line to its start origin with cause START_FAIL; the silence timer raises LINK_SILENT and drains a RUNNING line. A timer that does not run does nothing (R21, R177, R179, R184; log entry 3; that the abort of a running purge at the return to HALTED leaves the purge queue as it is is log entry 46). -/
def Obligations.LineTimersExpire : Prop :=
  ∀ s, s.powered = true →
    (s.sru.holdover = none → exec .holdoverTimerExpiry s = .next s) ∧
    (s.sru.holdover.isSome = true → s.sru.state = .holdover →
      ∃ u, Effect .holdoverTimerExpiry s u ∧
        SameBut { lp := true, sru := true, lc := true, trk := true } s u ∧
        u.sru.state = .crawl ∧ u.sru.selected = .pacer ∧ u.sru.holdover = none ∧ u.lc.held = none ∧
        u.lc.state = s.lc.state ∧ u.flag .refState = true ∧ SuspectMarked s u) ∧
    (s.lc.startLimit = none ∨ s.lc.state ≠ .starting → exec .startLimitExpiry s = .next s) ∧
    (s.lc.startLimit.isSome = true → s.lc.state = .starting → s.lc.origin = .ready →
      ∃ u, Effect .startLimitExpiry s u ∧ ReadyTaken .startFail s u) ∧
    (s.lc.startLimit.isSome = true → s.lc.state = .starting → s.lc.origin = .halted →
      ∃ u, Effect .startLimitExpiry s u ∧ HaltTaken .startFail s u) ∧
    (s.lc.silence = none → exec .silenceTimerExpiry s = .next s) ∧
    (s.lc.silence.isSome = true → s.lc.state = .running →
      ∃ u, Effect .silenceTimerExpiry s u ∧ SameBut { lp := true, lc := true } s u ∧
        u.flag .linkSilent = true ∧ u.flag .lineState = true ∧ u.lc.silence = none ∧
        u.lc.state = .draining ∧ u.lc.cause = .linkSilent)

/-- A spin-up that runs out faults the blade and its lane and gives no record a reason; a retrial delay that runs out puts the lane in TRIAL with an empty list, its blade spinning up. A timer that does not run does nothing. A retrial timer runs exactly while its lane is DOWN and in the target set, the line RUNNING, the blade STOPPED or FAULT and the head not busy, starting at full delay (R73, R79 to R82; log entries 3 and 26). -/
def Obligations.HeadTimersExpire : Prop :=
  (∀ before h u l, (∀ k, ∀ r ∈ u.queue k, r.lane = k) →
    let t := settle before h u
    let c := t.lane l
    let runs := c.state = .down ∧ c.target = true ∧ t.lc.state = .running ∧
      ((t.head l).blade = .stopped ∨ (t.head l).blade = .fault) ∧
      ∀ r ∈ t.queue l, r.state ≠ .measuring ∧ r.state ≠ .planned ∧ r.state ≠ .slicing
    (runs → c.retrial = some ((u.lane l).retrial.getD (1000 * u.set.retrialS))) ∧
      (¬runs → c.retrial = none)) ∧
  ∀ s l, s.powered = true →
    ((s.head l).spinup = none → exec (.spinupTimerExpiry l) s = .next s) ∧
    ((s.head l).spinup.isSome = true → s.set.narrowing = true →
      ∃ u, Effect (.spinupTimerExpiry l) s u ∧ SameBut { lp := true, hd := true } s u ∧
        u.head l = { s.head l with blade := .fault, spinup := none } ∧ u.flag .bladeFault = true ∧
        FaultTaken .blade true l s u ∧ OtherLanesKept l s u) ∧
    ((s.head l).spinup.isSome = true → s.set.narrowing = false →
      ∃ u, Effect (.spinupTimerExpiry l) s u ∧
        SameBut { lp := true, sru := true, lc := true, hd := true } s u ∧
        u.head l = { s.head l with blade := .fault, spinup := none } ∧ u.flag .bladeFault = true ∧
        FaultDrains .blade true l s u) ∧
    ((s.lane l).retrial = none → exec (.retrialTimerExpiry l) s = .next s) ∧
    ((s.lane l).retrial.isSome = true → (s.lane l).state = .down →
      ∃ u, Effect (.retrialTimerExpiry l) s u ∧ SameBut { lp := true, hd := true } s u ∧
        u.lane l = { s.lane l with
          state := .trial, trialLeft := 0, trialList := [], trialRan := false, retrial := none } ∧
        u.flag .laneChange = true ∧ OtherLanesKept l s u ∧
        u.head l = if (s.head l).blade = .parked then s.head l else { s.head l with
          blade := .spinup, mon := ⟨false, 0, 0, (s.head l).mon.count⟩
          spinup := some (1000 * s.set.spinupS) })

/-- RESTART empties the table and brings every block to rest: the reference IDLE with both monitors and the window anew, the demand 0, the lanes IDLE but for PARKED ones, the blades stopped with their monitors unqualified, the bypass counts 0, the pushers at rest, a bag attempt and every timer ended. It keeps the position, the settings, assignments and increments, the clock, the supplies, the crumb estimates, last purges and purge queue, and the open shift. A pending or interrupted reindex starts anew, and so does the purge of the queue's front entry, whose head parks. The condition flags are those raised after it, LINE_STATE, the persisting conditions whose causes stand and SHIFT_CLOSED, whose notices alone stand in the queue in that order, the reply before them (R185's listing, with the persisting kinds in the order of their codes: the model's reading, log entries 11 and 12; the tyer's output: log entry 22; the restart of a running purge leaves the queue as it is, the target's triggers not evaluated there: log entry 46); and a CLOSING shift, having lost its records, is CLOSED (R25, R53, R89, R101, R109, R129, R138, R139, R147, R160, R185, R186, R199). -/
def Obligations.Restart : Prop :=
  ∀ s tag, Handling ⟨0x24, tag, []⟩ s →
    ∃ t, exec (.restart tag []) s = .next t ∧ ReplyStands ⟨0x24, tag, []⟩ .ok [] none t ∧
      SameBut { lp := true, sru := true, lc := true, trk := true, hd := true, arb := true, bag := true, tie := true, crm := true, tot := true, refs := true } s t ∧
      t.lc = { s.lc with
        state := .ready, cause := .restart, demand := 0, target := 0, held := none, startLimit := none
        silence := none, ceiling := s.set.lineMax, origin := t.lc.origin, rampCarry := t.lc.rampCarry } ∧
      t.sru = { s.sru with
        state := .idle, selected := .pacer, pacerSpeed := 0, estimate := 0, frozen := 0, holdover := none
        slipActive := false, w := ⟨⟨false, 0, 0, 0⟩, []⟩, m := ⟨⟨false, 0, 0, 0⟩, []⟩
        windowMs := s.set.windowMs, windowLeft := s.set.windowMs } ∧
      t.tableCount = 0 ∧ t.trk.nextLoaf = s.trk.nextLoaf ∧ t.trk.nextSeq = s.trk.nextSeq ∧
      t.trk.rejectGate = .pass ∧ t.trk.reserveHeld = false ∧ (∀ l, t.gateOpen l = false) ∧
      (∀ l, t.lane l = { s.lane l with
          state := if (s.lane l).state = .parked then .parked else .idle
          trialLeft := 0, trialList := [], trialRan := false, retrial := none } ∧
        t.head l = ⟨if s.crm.queue.head?.map PurgeEntry.target = some (.head l) then .parked else .stopped,
          ⟨false, 0, 0, 0⟩, 0, none⟩) ∧
      t.arb = { s.arb with
        withhold := t.arb.withhold, bypass := Vector.replicate 4 0, flight := none, spacing := none
        changeover := .none, pushers := Vector.replicate 4 false } ∧ WithholdFollows t ∧
      t.bag = { s.bag with
        state := if s.bag.state = .cycle then (if s.bag.supply = 0 then .empty else .ready) else s.bag.state
        attempt := none, confirm := none, cycleOut := false } ∧
      (s.crm.queue = [] → t.crm = { s.crm with
        state := .idle, cycle := none, purge := none, settle := none, weigh := none, air := none }) ∧
      (∀ e rest, s.crm.queue = e :: rest → t.crm = { s.crm with
        state := .purging, weigh := some 200, purge := none, settle := none, air := none
        cycle := some ⟨e.target, (match e.target with
          | .head l => s.crm.heads[l].estimate
          | .belt => s.crm.belt), none, none⟩ }) ∧
      (let pending := s.tie.state = .reindexPending ∨ s.tie.state = .reindex
      t.tie = { s.tie with
          openReads := [], state := if pending then .reindex else s.tie.state
          reindex := if pending then some s.set.reindexMs else none
          tyerOut := if pending then .reindex else .none } ∧
        (∀ k, t.flag k = true ↔ k = .lineState ∨ (k = .baggerDown ∧ s.bag.state = .down) ∨
          (k = .bagsLow ∧ s.bag.supply < s.set.bagsLow) ∨
          (k = .clipsLow ∧ s.tie.supply < s.set.clipsLow) ∨
          (k = .tyerReindex ∧ (pending ∨ s.tie.owed = true)) ∨
          (k = .verifierBlind ∧ s.tie.blind = true) ∨
          (k = .shiftClosed ∧ s.tot.closing ≠ none ∧ t.tot.closing = none))) ∧
      t.lp.queue.map Notice.kind =
        [Kind.lineState, .baggerDown, .bagsLow, .clipsLow, .tyerReindex, .verifierBlind,
          .shiftClosed].filter (fun k => t.flag k && !kindIn s.lp.mask k) ∧
      (AccountsHold s → ∀ sh, s.tot.closing = some sh → t.tot.closing = none ∧
        ∃ x, t.tot.closed = some x ∧ x.seq = sh.seq ∧ x.closeTime = sh.closeTime ∧ x.inTable = 0) ∧
      (∀ sh, s.tot.opened = some sh → ∃ sh', t.tot.opened = some sh' ∧ sh'.seq = sh.seq ∧
        sh'.digit = sh.digit ∧ sh'.bags = sh.bags ∧
        ∀ l : Lane, sh'.perLane[l].admitted = sh.perLane[l].admitted)

/-- SET_LANES is refused for a bit above lane 3 and for an unconfigured or unassigned lane; otherwise each lane whose flag changes takes the row of R86, and no other lane changes. After any event that changes a lane's state in RUNNING and leaves every configured lane IDLE or PARKED, the line drains with cause NO_LANES, to READY at once over an empty table (R85, R86, R166, R180; that the check is made once at the event's end is the model's choice, log entry 19, and so is that an IDLE lane added while its blade is in SPINUP already has it spun up anew, log entry 45). -/
def Obligations.SetLanes : Prop :=
  (∀ before h u l, u.lc.state = .running → (before.lane l).state ≠ (u.lane l).state →
    (∀ k, u.isConfigured k = true → (u.lane k).state = .idle ∨ (u.lane k).state = .parked) →
    let t := settle before h u
    t.lc.cause = .noLanes ∧ t.flag .lineState = true ∧ t.lc.silence = none ∧
      t.lc.state = (if u.tableCount = 0 then .ready else .draining)) ∧
  ∀ s tag (n : Byte), Handling ⟨0x30, tag, [n]⟩ s →
    let wanted := fun l : Lane => n.toNat.testBit l.val
    let bad := 16 ≤ n.toNat ∨ ∃ l : Lane, wanted l = true ∧ (s.isConfigured l = false ∨ s.pst.assign[l] = none)
    let spins := s.lc.state = .starting ∨ s.lc.state = .running
    let inService := fun l => (s.lane l).state = .running ∨ (s.lane l).state = .trial ∨ (s.lane l).state = .down
    (bad → Refused (.setLanes tag [n]) ⟨0x30, tag, [n]⟩ .badField s) ∧
    (¬bad → ∃ u, Replies (.setLanes tag [n]) ⟨0x30, tag, [n]⟩ .ok
        (fun v => lanes.map fun l => byteOf (v.lane l).state.code) s u ∧
      SameBut { lp := true, hd := true } s u ∧
      ∀ l, (u.lane l).target = wanted l ∧ (u.lane l).trialFails = (s.lane l).trialFails ∧
        (wanted l = (s.lane l).target → u.lane l = s.lane l ∧ u.head l = s.head l) ∧
        (wanted l = true → (s.lane l).target = false → (s.lane l).state = .idle → spins →
          ((s.head l).blade = .running → (u.lane l).state = .running ∧ u.head l = s.head l) ∧
          ((s.head l).blade = .parked → (u.lane l).state = .idle ∧ u.head l = s.head l) ∧
          ((s.head l).blade ≠ .running → (s.head l).blade ≠ .parked → (u.lane l).state = .idle ∧
            (u.head l).blade = .spinup ∧ (u.head l).spinup = some (1000 * s.set.spinupS))) ∧
        (wanted l = true → (s.lane l).target = false → ¬((s.lane l).state = .idle ∧ spins) →
          (u.lane l).state = (s.lane l).state ∧ u.head l = s.head l) ∧
        (wanted l = false → (s.lane l).target = true →
          (u.head l).blade = (if (s.head l).blade = .spinup ∧ (s.lane l).state ≠ .parked then .stopped else (s.head l).blade) ∧
          (inService l → (u.lane l).state = .idle ∧ (u.lane l).trialList = [] ∧
            (u.lane l).trialLeft = 0 ∧ (u.lane l).retrial = none) ∧
          (¬inService l → u.lane l = { s.lane l with target := false })))

/-- CLEAR_LANE is refused for a lane that is not configured or not PARKED; a PARKED lane's trial-fail count returns to 0 and it goes DOWN in the target set of a moving line, IDLE otherwise, its blade as it was, and the reply carries its new state (R87). -/
def Obligations.ClearLane : Prop :=
  ∀ s tag (n : Byte), Handling ⟨0x32, tag, [n]⟩ s →
    let cmd := Instr.clearLane tag [n]
    let r : Req := ⟨0x32, tag, [n]⟩
    (s.set.configured ≤ n.toNat → Refused cmd r .badField s) ∧
    ∀ l : Lane, n.toNat = l.val → s.isConfigured l = true →
      ((s.lane l).state ≠ .parked → Refused cmd r .wrongState s) ∧
      ((s.lane l).state = .parked →
        let st : LaneState := if (s.lane l).target = true ∧
            (s.lc.state = .starting ∨ s.lc.state = .running ∨ s.lc.state = .draining) then .down else .idle
        (∃ u, Replies cmd r .ok (fun v => [byteOf (v.lane l).state.code]) s u ∧
          SameBut { lp := true, hd := true } s u ∧ u.flag .laneChange = true ∧
          u.lane l = { s.lane l with state := st, trialFails := 0 } ∧ u.head l = s.head l ∧
          OtherLanesKept l s u) ∧
        (LineHolds s → ∃ t, exec cmd s = .next t ∧ (t.lane l).state = st ∧
          ReplyStands r .ok [byteOf st.code] none t))

/-- SET_LANE_PROFILE is refused for a lane that is not configured and for a slot that is out of range or empty; a new slot becomes the lane's, marks the settings unsaved and returns the head's correction to 64; the slot already assigned changes nothing; the reply carries the lane ceiling (R64, R132, R167). -/
def Obligations.SetLaneProfile : Prop :=
  ∀ s tag (a b : Byte), Handling ⟨0x31, tag, [a, b]⟩ s →
    let cmd := Instr.setLaneProfile tag [a, b]
    let r : Req := ⟨0x31, tag, [a, b]⟩
    (s.set.configured ≤ a.toNat ∨ 16 ≤ b.toNat → Refused cmd r .badField s) ∧
    ∀ (l : Lane) (i : Slot), a.toNat = l.val → b.toNat = i.val →
      (s.pst.slots[i] = none → Refused cmd r .badField s) ∧
      ∀ p, s.isConfigured l = true → s.pst.slots[i] = some p →
        Replies cmd r .ok (fun _ => [a, b] ++ leBytes 2 (s.set.rmax[l] * p.t * 15 / 16)) s
          (if s.pst.assign[l] = some i then s else { s with
            pst := { s.pst with
              assign := putAt s.pst.assign l (some i)
              unsaved := true
              store := s.pst.store.touch 0 }
            crm := { s.crm with
              heads := putAt s.crm.heads l { s.crm.heads[l] with correction := 64 } } })

/-! ### The message link -/

/-- A frame of R187 from HUNT is a valid frame for every kind, tag and payload: it is counted, restarts the silence timer of a RUNNING line, and its request takes the hand, else the waiting place, else is dropped as an overrun. The same frame with another CRC, a bad length and a silence inside a frame are counted and discarded (R184, R187, R188, R190; the bytes of one command can be a part of a frame, log entry 27). -/
def Obligations.FramesAreTaken : Prop :=
  ∀ (s : State) (k tag : Byte) (p : List Byte), s.powered = true → p.length ≤ 250 → s.lp.receiver = .hunt →
    let c := s.lp.counters
    let up := fun n : Nat => min 4294967295 (n + 1)
    let counted := fun (d : LinkCounters) (r : Receiver) => { s with lp := { s.lp with counters := d, receiver := r } }
    let silence : Timer := if s.lc.state = .running ∧ s.set.linkTimeoutS ≠ 0 then
      some (1000 * s.set.linkTimeoutS) else s.lc.silence
    let heard := { s with
      lp := { s.lp with counters := { c with framesTaken := up c.framesTaken } }
      lc := { s.lc with silence := silence } }
    (s.lp.hand = none → s.lp.waiting = none → exec (.frameReceived (frameBytes k tag p)) s =
      .next { heard with lp := { heard.lp with hand := some ⟨k, tag, p⟩ } }) ∧
    (s.lp.hand.isSome = true → s.lp.waiting = none → exec (.frameReceived (frameBytes k tag p)) s =
      .next { heard with lp := { heard.lp with waiting := some ⟨k, tag, p⟩ } }) ∧
    (s.lp.waiting.isSome = true → exec (.frameReceived (frameBytes k tag p)) s =
      .next { heard with lp := { heard.lp with counters := { heard.lp.counters with overrun := up c.overrun } } }) ∧
    (∀ x y : Byte, x.toNat * 256 + y.toNat ≠ crc16 (leBytes 2 (p.length + 2) ++ k :: tag :: p) →
      exec (.frameReceived (0x7E :: (leBytes 2 (p.length + 2) ++ k :: tag :: p) ++ [x, y])) s =
        .next (counted { c with badCrc := up c.badCrc } .hunt)) ∧
    (∀ x y : Byte, x.toNat + 256 * y.toNat < 2 ∨ 252 < x.toNat + 256 * y.toNat →
      exec (.frameReceived [0x7E, x, y]) s = .next (counted { c with badLength := up c.badLength } .hunt)) ∧
    exec .interbyteTimeout s = .next s ∧
    ∀ bs, exec .interbyteTimeout (counted c (.receiving bs)) =
      .next (counted { c with truncated := up c.truncated } .hunt)

/-- At the end of a frame the transmitter begins the ready reply, taking the waiting request into the hand, else the notice at the front of the queue, else goes idle; a notice's end counts it (log entry 13), and the end of the reply to SET_LINK, which names the rate it asked for, takes that rate and discards a frame partly received (R189, R190, R192, R195). -/
def Obligations.FramesAreSent : Prop :=
  ∀ s, s.powered = true →
    let after := fun (t v : State) =>
      (∀ r, v.lp.reply = some r → t = { v with lp := { v.lp with
        tx := .sendingReply r, reply := none, hand := v.lp.waiting, waiting := none } }) ∧
      (∀ n rest, v.lp.reply = none → v.lp.queue = n :: rest → t = { v with lp := { v.lp with
        tx := .sendingNotice (noticeFrame n), queue := rest, attn := !rest.isEmpty } }) ∧
      (v.lp.reply = none → v.lp.queue = [] → t = { v with lp := { v.lp with tx := .idle } })
    let c := s.lp.counters
    (s.lp.tx = .idle → exec .frameSent s = .next s) ∧
    (∀ f, s.lp.tx = .sendingNotice f → ∃ t, exec .frameSent s = .next t ∧
      after t { s with lp := { s.lp with
        counters := { c with noticesSent := min 4294967295 (c.noticesSent + 1) } } }) ∧
    (∀ f, s.lp.tx = .sendingReply ⟨f, none⟩ → ∃ t, exec .frameSent s = .next t ∧ after t s) ∧
    (∀ f x, s.lp.tx = .sendingReply ⟨f, some x⟩ → ∃ t, exec .frameSent s = .next t ∧
      (s.lp.receiver = .hunt → after t { s with lp := { s.lp with rate := x } }) ∧
      ∀ bs, s.lp.receiver = .receiving bs → after t { s with lp := { s.lp with
        rate := x, receiver := .hunt
        counters := { c with truncated := min 4294967295 (c.truncated + 1) } } }) ∧
    ∀ tag (n : Byte), Handling ⟨0x03, tag, [n]⟩ s →
      (3 ≤ n.toNat → Refused (.setLink tag [n]) ⟨0x03, tag, [n]⟩ .badField s) ∧
      (∀ x : LinkRate, x.code = n.toNat → exec (.setLink tag [n]) s =
        .next (replyReady ⟨replyFrame 0x03 tag .ok [n], some x⟩ s))

/-- The request in hand, whatever its kind, tag and payload, is answered at once by a reply, ready or on the wire: UNKNOWN_KIND outside the catalogue, BAD_LENGTH for a length the catalogue does not give; and a reply whose status is a refusal leaves every state as it was; UNKNOWN_KIND_REQUEST does nothing but make that reply (R190, R191). -/
def Obligations.EveryRequestIsAnswered : Prop :=
  (∀ r s, Handling r s →
    ∃ t st fields rate, exec (commandOf r) s = .next t ∧ ReplyStands r st fields rate t ∧
      (st.carriesFields = false →
        t = replyReady ⟨replyFrame r.kind r.tag st [], none⟩ s) ∧
      (st = .unknownKind ↔ requestLength r.kind.toNat = none) ∧
      (st = .badLength ↔ ∃ n, requestLength r.kind.toNat = some n ∧ n ≠ r.payload.length)) ∧
    ∀ (kind tag : Byte) p s, requestLength kind.toNat = none → Handling ⟨kind, tag, p⟩ s →
      Refused (.unknownKindRequest kind tag p) ⟨kind, tag, p⟩ .unknownKind s

/-- The requests that read answer OK with fields of their catalogue length and change nothing but the link: IDENTIFY, READ_STATUS, GET_LINE, READ_CODECHECK, READ_CRUMB, READ_TOTALS, READ_TRACK (R52, R128, R146, R158, R169, R198, R201, R202, R204). -/
def Obligations.ReadsOnlyRead : Prop :=
  ∀ s tag,
    let answers := fun (c : Instr) (k : Byte) (p : List Byte) (n : Nat) (head : List Byte) =>
      Handling ⟨k, tag, p⟩ s → ∃ fields : List Byte, fields.length = n ∧ head <+: fields ∧
        exec c s = .next (replyReady ⟨replyFrame k tag .ok fields, none⟩ s)
    let refuses := fun (c : Instr) (k : Byte) (p : List Byte) (st : Status) =>
      Handling ⟨k, tag, p⟩ s → Refused c ⟨k, tag, p⟩ st s
    answers (.identify tag []) 0x01 [] 19
      ([0x4F, 0x52, 0x46, 0x45, 0x4C, 0x44, 0x20, 0x53, 0x42, 0x2D, 0x34, 0x34, 0x30, 0, 0, 0, 1] ++
        [byteOf s.set.configured, byteOf s.lp.rate.code]) ∧
    answers (.readStatus tag [0]) 0x02 [0] 20 [0, byteOf s.lc.state.code] ∧
    answers (.readStatus tag [1]) 0x02 [1] 20 [1, byteOf s.sru.state.code, byteOf s.sru.selected.code] ∧
    answers (.readStatus tag [2]) 0x02 [2] 105 [2, byteOf (s.lane 0).state.code] ∧
    answers (.readStatus tag [3]) 0x02 [3] 29 [3, byteOf (withholdCode s.arb.withhold), byteOf s.arb.bagClass] ∧
    answers (.readStatus tag [4]) 0x02 [4] 28 [4, flagByte s.tot.opened.isSome] ∧
    answers (.readStatus tag [5]) 0x02 [5] 33 [5, byteOf s.lp.rate.code] ∧
    (∀ n : Byte, 6 ≤ n.toNat → refuses (.readStatus tag [n]) 0x02 [n] .badField) ∧
    answers (.getLine tag []) 0x15 [] 160 (settingsBytes s.set) ∧
    answers (.readCodecheck tag []) 0x43 [] 51 [byteOf s.tie.counters.mismatches] ∧
    answers (.readCrumb tag []) 0x51 [] 142
      (if s.isConfigured 0 then leBytes 4 s.crm.heads[0].estimate else []) ∧
    (∀ sh, s.tot.opened = some sh → answers (.readTotals tag [0, 0, 0]) 0x62 [0, 0, 0] 160
      ([0, 0, 0] ++ leBytes 2 sh.seq ++ [byteOf sh.digit, 1])) ∧
    (∀ (g : Byte) sh, g.toNat ≤ 3 → s.tot.closing = some sh →
      answers (.readTotals tag [1, 1, g]) 0x62 [1, 1, g] 160 ([1, 1, g] ++ leBytes 2 sh.seq ++ [byteOf sh.digit, 2])) ∧
    (∀ sh, s.tot.closed = some sh → answers (.readTotals tag [2, 2, 0]) 0x62 [2, 2, 0] 124
      ([2, 2, 0] ++ leBytes 2 sh.seq ++ [byteOf sh.digit, 3])) ∧
    (s.tot.closed = none → refuses (.readTotals tag [2, 0, 0]) 0x62 [2, 0, 0] .notFound) ∧
    (∀ a b c d : Byte, let p := [0, a, b, c, d]
      (∀ r, s.find (leNat [a, b, c, d]) = some r →
        answers (.readTrack tag p) 0x70 p 72 (leBytes 4 r.loaf ++ [byteOf r.lane.val])) ∧
      (s.find (leNat [a, b, c, d]) = none → refuses (.readTrack tag p) 0x70 p .notFound)) ∧
    (∀ start : Byte, let p := [1, 4, start, 0, 0]
      answers (.readTrack tag p) 0x70 p (3 + 72 * min 3 (s.trk.post.length - start.toNat))
        [byteOf s.trk.post.length, start])

/-- SET_NOTICE_MASK puts the mask in force and takes the queued notices of masked kinds out of the queue, the rest in their order; a raising of a masked kind sets its flag and appends nothing, one of an unmasked kind not yet queued joins the tail (R193, R196). -/
def Obligations.SetNoticeMask : Prop :=
  ∀ s tag (a b c : Byte), Handling ⟨0x04, tag, [a, b, c]⟩ s →
    let mask := kindSet [a, b, c]
    let left := s.lp.queue.filter fun n => !kindIn mask n.kind
    (exec (.setNoticeMask tag [a, b, c]) s =
      .next (replyReady ⟨replyFrame 0x04 tag .ok [a, b, c], none⟩
        { s with lp := { s.lp with mask := mask, queue := left, attn := !left.isEmpty } })) ∧
    (∀ k : Kind, kindIn mask k = (a.toNat + 256 * b.toNat + 65536 * c.toNat).testBit (k.code - 1)) ∧
    ∀ (k : Kind) (x : List Byte) (u : State),
      (raise k x u).flag k = true ∧
      (kindIn u.lp.mask k = true → (raise k x u).lp = { u.lp with flags := u.lp.flags ||| k.bit }) ∧
      (kindIn u.lp.mask k = false → (∀ n ∈ u.lp.queue, n.kind ≠ k) → u.lp.tx ≠ .idle →
        (raise k x u).lp = { u.lp with
          flags := u.lp.flags ||| k.bit, queue := u.lp.queue ++ [⟨k, u.pst.clock, x⟩], attn := true }) ∧
      (∀ j, j ≠ k → (raise k x u).flag j = u.flag j)

/-- CLEAR clears the flag of each named kind unless its cause stands, answers with the kinds refused, returns a DOWN bagger with bags to READY, and clears the blind latch in READY; nothing else changes (R108, R122, R197). -/
def Obligations.Clear : Prop :=
  ∀ s tag (a b c : Byte), Handling ⟨0x05, tag, [a, b, c]⟩ s →
    let named := fun k => kindIn (kindSet [a, b, c]) k
    let refused : Kind → Prop := fun k => named k = true ∧
      ((k = .slip ∧ s.sru.slipActive = true) ∨ (k = .tableReserve ∧ s.trk.reserveHeld = true) ∨
        (k = .baggerDown ∧ s.bag.state = .down ∧ s.bag.supply = 0) ∨
        (k = .bagsLow ∧ s.bag.supply < s.set.bagsLow) ∨ (k = .clipsLow ∧ s.tie.supply < s.set.clipsLow) ∨
        (k = .tyerReindex ∧ (s.tie.state = .reindexPending ∨ s.tie.state = .reindex ∨ s.tie.owed = true)) ∨
        (k = .verifierBlind ∧ s.lc.state ≠ .ready))
    ∃ u set, Replies (.clear tag [a, b, c]) ⟨0x05, tag, [a, b, c]⟩ .ok (fun _ => leBytes 3 (BitVec.toNat set)) s u ∧
      (∀ k, kindIn set k = true ↔ refused k) ∧
      SameBut { lp := true, bag := true, tie := true } s u ∧
      (∀ k, u.flag k = true ↔ s.flag k = true ∧ (named k = false ∨ refused k)) ∧
      u.lp = { s.lp with flags := u.lp.flags } ∧
      u.bag = (if named .baggerDown = true ∧ s.bag.state = .down ∧ 0 < s.bag.supply then
        { s.bag with state := .ready, misses := 0 } else s.bag) ∧
      u.tie = (if named .verifierBlind = true ∧ s.lc.state = .ready then { s.tie with blind := false } else s.tie)

/-! ### Profiles, settings, store, shifts -/

/-- PUT_PROFILE of the 28 bytes of any valid profile, or of the empty slot, puts exactly that into a slot not in use, marks a change unsaved, and GET_PROFILE then reads the same bytes back; a slot in use, a number outside 0 to 15 and, with the valid flag set, any 28 bytes that carry no valid profile are refused; with the flag clear the slot becomes empty whatever the other bytes (R162 to R165, R203; a flag byte above 1 is refused, log entry 18). -/
def Obligations.ProfilesReadBack : Prop :=
  (∀ (s : State) (i : Slot) tag (b : List Byte) (flag : Byte), b.length = 27 →
    let body := byteOf i.val :: b ++ [flag]
    let r : Req := ⟨0x12, tag, body⟩
    let p := parseProfile (b ++ [flag])
    let inRange := p.name.all (fun c => decide (0x20 ≤ c.toNat ∧ c.toNat ≤ 0x7E)) = true ∧
      60 ≤ p.t ∧ p.t ≤ 300 ∧ p.e ≤ 300 ∧ 500 ≤ p.lmin ∧ p.lmin ≤ p.lmax ∧ p.lmax ≤ 6000 ∧
      3 ≤ p.nmin ∧ p.nmin ≤ p.nmax ∧ p.nmax ≤ 60 ∧ 1 ≤ p.shelf ∧ p.shelf ≤ 60 ∧
      1 ≤ p.bagClass ∧ p.bagClass ≤ 4 ∧ 2 * p.e + p.t < p.lmin
    let inUse := (∃ l : Lane, s.pst.assign[l] = some i) ∨ 0 < s.pst.refs[i]
    let put := fun x : Option Profile => exec (.putProfile tag body) s = .next
      (replyReady ⟨replyFrame 0x12 tag .ok [byteOf i.val, flagByte x.isSome,
          flagByte (s.pst.slotUnsaved[i] || decide (s.pst.slots[i] ≠ x))], none⟩
        (if s.pst.slots[i] = x then s else { s with pst := { s.pst with
          slots := putAt s.pst.slots i x
          slotUnsaved := putAt s.pst.slotUnsaved i true
          store := s.pst.store.touch (i.val + 1) } }))
    Handling r s →
      (flag = 1 → ¬inRange → Refused (.putProfile tag body) r .badField s) ∧
      (2 ≤ flag.toNat → Refused (.putProfile tag body) r .badField s) ∧
      (flag = 0 ∨ (flag = 1 ∧ inRange) → inUse → Refused (.putProfile tag body) r .wrongState s) ∧
      (flag = 1 → inRange → ¬inUse → put (some p)) ∧
      (flag = 0 → ¬inUse → put none)) ∧
  ∀ (s : State) (i : Slot) (x : Option Profile), (∀ p, x = some p → profileValid p = true) →
    let body := byteOf i.val :: profileBytes x
    let inUse := (∃ l : Lane, s.pst.assign[l] = some i) ∨ 0 < s.pst.refs[i]
    (∀ tag, Handling ⟨0x12, tag, body⟩ s → inUse →
      Refused (.putProfile tag body) ⟨0x12, tag, body⟩ .wrongState s) ∧
    (∀ tag, Handling ⟨0x12, tag, body⟩ s → ¬inUse →
      let mark := s.pst.slotUnsaved[i] || decide (s.pst.slots[i] ≠ x)
      exec (.putProfile tag body) s = .next
        (replyReady ⟨replyFrame 0x12 tag .ok [byteOf i.val, flagByte x.isSome, flagByte mark], none⟩
          (if s.pst.slots[i] = x then s else { s with pst := { s.pst with
            slots := putAt s.pst.slots i x
            slotUnsaved := putAt s.pst.slotUnsaved i true
            store := s.pst.store.touch (i.val + 1) } }))) ∧
    (∀ tag, Handling ⟨0x13, tag, [byteOf i.val]⟩ s → s.pst.slots[i] = x →
      exec (.getProfile tag [byteOf i.val]) s = .next
        (replyReady ⟨replyFrame 0x13 tag .ok (byteOf i.val :: profileBytes x ++
          [byteOf (laneSet fun l => decide (s.pst.assign[l] = some i)), byteOf s.pst.refs[i],
            flagByte s.pst.slotUnsaved[i]]), none⟩ s)) ∧
    (∀ tag (n : Byte) (p : List Byte), 16 ≤ n.toNat →
      (p.length = 28 → Handling ⟨0x12, tag, n :: p⟩ s →
        Refused (.putProfile tag (n :: p)) ⟨0x12, tag, n :: p⟩ .badField s) ∧
      (Handling ⟨0x13, tag, [n]⟩ s → Refused (.getProfile tag [n]) ⟨0x13, tag, [n]⟩ .badField s)) ∧
    ∀ p q, x = some p → parseProfile (profileBytes (some p)) = p ∧
      (profileBytes (some p) = profileBytes (some q) → profileValid q = true → p = q)

/-- SET_LINE takes the set of GET_LINE in READY. A set is accepted exactly when its values lie in the ranges of their chapters, on their steps, and agree with one another; it is then put in force whole, the settings in force sent back change nothing in the store, a lane that stays configured or unconfigured keeps its head and lane, one configured or unconfigured is IDLE outside the target set, and SRU takes the increments alone. Any other 154 bytes are refused with BAD_FIELD, and outside READY every set with WRONG_STATE. A set in force has every target's triggers evaluated, heads 0 to 3 and then the belt, after the entries of the heads it unconfigures have left, and raises BAGS_LOW and CLIPS_LOW for a supply that its threshold has come above (R1, R8, R40, R54, R69, R106, R113, R127, R130, R133, R145, R166, R168, R169; the order of the targets is log entry 20, the place of a FORCED entry behind a running front log entry 32, a threshold already above the supply log entry 37, that a front in WAIT starts only after all the evaluations log entry 48). -/
def Obligations.SettingsReadBack : Prop :=
  (∀ x, (settingsValid x = true ↔ SettingsInRange x ∧ SettingsOnSteps x ∧ SettingsAgree x) ∧
    settingsBytes x = SettingsLayout x) ∧
  (∀ s tag p, p.length = 154 → Handling ⟨0x14, tag, p⟩ s →
    let cmd := Instr.setLine tag p
    let r : Req := ⟨0x14, tag, p⟩
    (s.lc.state ≠ .ready → Refused cmd r .wrongState s) ∧
    (s.lc.state = .ready →
      (∀ y, SettingsInRange y → SettingsOnSteps y → SettingsAgree y → SettingsLayout y ≠ p) →
      Refused cmd r .badField s)) ∧
  ∀ s tag x, Handling ⟨0x14, tag, settingsBytes x⟩ s →
    let cmd := Instr.setLine tag (settingsBytes x)
    let r : Req := ⟨0x14, tag, settingsBytes x⟩
    let fits := fun l : Lane => l.val < x.configured
    (s.lc.state ≠ .ready → Refused cmd r .wrongState s) ∧
    (s.lc.state = .ready → settingsValid x = true →
      ∃ u, Replies cmd r .ok (fun _ => []) s u ∧
        SameBut { lp := true, sru := true, hd := true, tie := true, crm := true, pst := true } s u ∧
        u.set = x ∧ u.pst.assign = s.pst.assign ∧ u.pst.slots = s.pst.slots ∧
        u.sru = { s.sru with incW := increment x.scaleW, incM := increment x.scaleM } ∧
        (x = s.set → u.pst = s.pst) ∧
        (x ≠ s.set → u.pst = { s.pst with
            settings := x, unsaved := true, defaulted := false, store := u.pst.store } ∧
          (s.pst.store = .idle → u.pst.store = .idle) ∧
          ∀ snap changed, s.pst.store = .writing snap changed → u.pst.store = .writing snap (changed ||| 1)) ∧
        (x.challengeInterval = s.set.challengeInterval → u.tie = s.tie) ∧
        (x.challengeInterval ≠ s.set.challengeInterval → u.tie = { s.tie with
          challengeCount := 0, counters := ⟨0, 0, 0, 0, 0⟩, capture := none }) ∧
        (∀ l, u.isConfigured l = decide (fits l)) ∧
        (∀ l, s.isConfigured l = u.isConfigured l → u.head l = s.head l ∧ u.lane l = s.lane l) ∧
        (∀ l, s.isConfigured l ≠ u.isConfigured l →
          u.lane l = { s.lane l with
            state := .idle, target := false, trialLeft := 0, trialList := [], trialRan := false
            trialFails := 0, retrial := none } ∧
          ((s.lane l).state ≠ .idle → u.flag .laneChange = true)) ∧
        (∀ l, s.isConfigured l = false → u.isConfigured l = true → u.head l = s.head l) ∧
        (∀ l, s.isConfigured l = true → u.isConfigured l = false →
          u.head l = { s.head l with blade := .stopped, spinup := none } ∧
            ∀ e ∈ u.crm.queue, e.target ≠ .head l) ∧
        (s.set.bagsLow ≤ s.bag.supply → s.bag.supply < x.bagsLow → u.flag .bagsLow = true) ∧
        (s.set.clipsLow ≤ s.tie.supply → s.tie.supply < x.clipsLow → u.flag .clipsLow = true) ∧
        ForcedRaised s u ∧
        (PurgesHold s → ∃ c : Nat → Crm,
          HeadsDropped (fun l => s.isConfigured l && !u.isConfigured l) s.crm (c 0) ∧
            (∀ l : Lane, TriggersTaken u (.head l) (c l.val) (c (l.val + 1))) ∧
            TriggersTaken u .belt (c 4) u.crm)) ∧
    (s.lc.state = .ready → (∀ f ∈ [x.windowMs % 10, x.holdoverMs % 100, x.changeoverMs % 100, x.purgeMs % 100, x.reindexMs % 100], f = 0) →
      inRanges settingsFields (settingsValues x) = true → settingsValid x = false → Refused cmd r .badField s)

/-- STORE takes its snapshot and is refused while one is being written. Its end writes the snapshot's sections, but for those whose read-back failed, clears the marks of the sections that are safe, and raises STORE_DONE, and STORE_FAULT for failures; a loss of power leaves each section the snapshot's, the damaged one bad, or as before (R170; that a failed section's CRC is bad is log entry 24). -/
def Obligations.StoreWritesSections : Prop :=
  ∀ s tag, s.powered = true →
    (Handling ⟨0x16, tag, []⟩ s → s.pst.store = .idle → exec (.store tag []) s = .next
      (replyReady ⟨replyFrame 0x16 tag .ok [], none⟩ { s with pst := { s.pst with
        store := .writing ⟨s.pst.settings, s.pst.assign, s.pst.slots⟩ 0 } })) ∧
    (Handling ⟨0x16, tag, []⟩ s → s.pst.store ≠ .idle →
      Refused (.store tag []) ⟨0x16, tag, []⟩ .busy s) ∧
    (s.pst.store = .idle → ∀ f, exec (.storeComplete f) s = .next s) ∧
    (∀ snap changed f, s.pst.store = .writing snap changed →
      let bit := fun (v : BitVec 17) (i : Slot) => v.getLsbD (i.val + 1)
      ∃ t, exec (.storeComplete f) s = .next t ∧
        SameBut { lp := true, pst := true, nv := true } s t ∧
        t.flag .storeDone = true ∧ (f ≠ 0 → t.flag .storeFault = true) ∧
        (f = 0 → t.flag .storeFault = s.flag .storeFault) ∧
        t.nv.settings = (if f.getLsbD 0 then .bad else .good (snap.settings, snap.assign)) ∧
        (∀ i : Slot, t.nv.slots[i] = if bit f i then .bad else .good snap.slots[i]) ∧
        t.nv.lossCell = s.nv.lossCell ∧ t.nv.seqCell = s.nv.seqCell ∧
        t.pst.store = .idle ∧ t.pst.settings = s.pst.settings ∧ t.pst.slots = s.pst.slots ∧
        t.pst.assign = s.pst.assign ∧ t.pst.clock = s.pst.clock ∧
        t.pst.unsaved = (s.pst.unsaved && (f.getLsbD 0 || changed.getLsbD 0)) ∧
        ∀ i : Slot, t.pst.slotUnsaved[i] = (s.pst.slotUnsaved[i] && (bit f i || bit changed i))) ∧
    (∀ n d, ∃ t, exec (.powerLoss n d) s = .next t ∧ t.powered = false ∧ t.pending = s.pending ∧
      t.nv.lossCell = s.nv.lossCell ∧ t.nv.seqCell = s.nv.seqCell ∧
      (s.pst.store = .idle → t.nv = s.nv) ∧
      ∀ snap changed, s.pst.store = .writing snap changed →
        t.nv.settings = (if 0 < n then .good (snap.settings, snap.assign) else if n = 0 ∧ d = true then .bad else s.nv.settings) ∧
        ∀ i : Slot, t.nv.slots[i] =
          if i.val + 1 < n then .good snap.slots[i] else if i.val + 1 = n ∧ d = true then .bad else s.nv.slots[i])

/-- What STORE has written comes back: after a STORE in IDLE that ends without a failed section, a loss of power and a power-on leave the settings, the assignments and every slot as they were at the STORE, with no unsaved mark (R170, R171). -/
def Obligations.StoreSurvivesPowerLoss : Prop :=
  ∀ s tag n d estop, Handling ⟨0x16, tag, []⟩ s → StoreHolds s → s.pst.store = .idle →
    ∃ t1 t2 t3 t4, exec (.store tag []) s = .next t1 ∧ exec (.storeComplete 0) t1 = .next t2 ∧
      exec (.powerLoss n d) t2 = .next t3 ∧ exec (.powerOn estop) t3 = .next t4 ∧
      t4.set = s.set ∧ t4.pst.assign = s.pst.assign ∧ t4.pst.slots = s.pst.slots ∧
      t4.pst.unsaved = false ∧ t4.pst.defaulted = false ∧ (∀ i : Slot, t4.pst.slotUnsaved[i] = false) ∧
      t4.flag .storeFault = false ∧ t4.lossCount = s.lossCount ∧ t4.nextShiftSeq = s.nextShiftSeq

/-- OPEN_SHIFT is refused in the order of R150; accepted, it opens an empty shift with the next sequence, the digit and the clock, moves the sequence on, 65535 being followed by 1, and has every gate evaluated again (R148, R149, R150). -/
def Obligations.OpenShift : Prop :=
  ∀ s tag (d : Byte), Handling ⟨0x60, tag, [d]⟩ s →
    let ok := 1 ≤ d.toNat ∧ d.toNat ≤ 9
    let no := fun st => Refused (.openShift tag [d]) ⟨0x60, tag, [d]⟩ st s
    let seq := s.nextShiftSeq
    (¬ok → no .badField) ∧
    (ok → s.tot.opened ≠ none → no .wrongState) ∧
    (ok → s.tot.opened = none → s.pst.clockValid = false → no .noClock) ∧
    (ok → s.tot.opened = none → s.pst.clockValid = true →
      Replies (.openShift tag [d]) ⟨0x60, tag, [d]⟩ .ok
        (fun _ => leBytes 2 seq ++ [d] ++ leBytes 4 s.pst.clock) s
        { s with
          tot := { s.tot with opened := some {
              seq := seq, digit := d.toNat, openTime := s.pst.clock, closeTime := none, inTable := 0
              perLane := Vector.replicate 4 ⟨0, 0, 0, 0, 0, 0, 0, 0, 0⟩
              perSlot := Vector.replicate 16 ⟨0, 0, 0, 0, 0, 0, 0, 0, 0⟩
              reasons := Vector.replicate 12 0, bags := 0, clips := 0, purges := Vector.replicate 4 0
              beltPurges := 0, crumb := Vector.replicate 4 0, lossEvents := 0, phantoms := 0
              divertFails := 0, caught := 0 } }
          nv := { s.nv with seqCell := some (if seq = 65535 then 1 else seq + 1) } } ∧
        ∃ t, exec (.openShift tag [d]) s = .next t ∧ ∀ l : Lane, t.trk.closedBy[l] = t.closedBy l)

/-- CLOSE_SHIFT is refused in the order of R151; accepted, the OPEN shift with its close time waits in the CLOSING place, or is CLOSED at once with SHIFT_CLOSED when none of its records is left; DRAIN leaves no shift OPEN and drains a RUNNING line and a STARTING one, which over an empty table returns to READY; ROLLING opens the next shift in the same event and leaves the line, the reference and the heads as they are. No mode touches the table, the grants, the supplies, the reads or the purges (R151, R152, R153, R179). -/
def Obligations.CloseShift : Prop :=
  ∀ s tag (m d : Byte), Handling ⟨0x61, tag, [m, d]⟩ s →
    let no := fun st => Refused (.closeShift tag [m, d]) ⟨0x61, tag, [m, d]⟩ st s
    let okDigit := 1 ≤ d.toNat ∧ d.toNat ≤ 9
    let okForm := m.toNat = 0 ∨ (m.toNat = 1 ∧ okDigit)
    (¬okForm → no .badField) ∧
    (okForm → s.tot.opened = none → no .noShift) ∧
    (okForm → s.tot.opened ≠ none → s.tot.closing ≠ none → no .busy) ∧
    (okForm → s.tot.opened ≠ none → s.tot.closing = none → m.toNat = 1 → s.pst.clockValid = false → no .noClock) ∧
    ∀ sh, okForm → s.tot.opened = some sh → s.tot.closing = none → (m.toNat = 1 → s.pst.clockValid = true) →
      let ended := { sh with closeTime := some s.pst.clock }
      ∃ u, Replies (.closeShift tag [m, d]) ⟨0x61, tag, [m, d]⟩ .ok
          (fun _ => leBytes 2 sh.seq ++ [byteOf sh.inTable, flagByte (decide (sh.inTable = 0))] ++
            leBytes 2 (if m.toNat = 1 then s.nextShiftSeq else 0)) s u ∧
        SameBut { lp := true, sru := true, lc := true, hd := true, tot := true, nv := true } s u ∧
        u.trk = s.trk ∧ u.pst = s.pst ∧ u.bag = s.bag ∧ u.tie = s.tie ∧ u.crm = s.crm ∧
        u.tot.closing = (if sh.inTable = 0 then none else some ended) ∧
        u.tot.closed = (if sh.inTable = 0 then some ended else s.tot.closed) ∧
        (sh.inTable = 0 → u.flag .shiftClosed = true) ∧
        (m.toNat = 0 → u.tot.opened = none ∧ u.nv = s.nv) ∧
        (m.toNat = 0 → s.lc.state = .running ∨ (s.lc.state = .starting ∧ s.tableCount ≠ 0) →
          u.lc = { s.lc with state := .draining, cause := .shiftClose, startLimit := none, silence := none } ∧
            u.flag .lineState = true ∧ u.sru = s.sru ∧ u.hd = s.hd) ∧
        (m.toNat = 0 → s.lc.state = .starting → s.tableCount = 0 →
          u.lc.state = .ready ∧ u.lc.cause = .shiftClose ∧ u.lc.startLimit = none ∧ u.sru.state = .idle ∧
            u.flag .lineState = true ∧ ∀ l, LaneAtRest (s.lane l) (u.lane l)) ∧
        (m.toNat = 0 → s.lc.state ≠ .running → s.lc.state ≠ .starting →
          u.lc = s.lc ∧ u.sru = s.sru ∧ u.hd = s.hd) ∧
        (m.toNat = 1 → u.lc = s.lc ∧ u.sru = s.sru ∧ u.hd = s.hd ∧ ∃ new, u.tot.opened = some new ∧ new.seq = s.nextShiftSeq ∧
          new.digit = d.toNat ∧ new.openTime = s.pst.clock ∧ new.inTable = 0 ∧
          u.nv.seqCell = some (if s.nextShiftSeq = 65535 then 1 else s.nextShiftSeq + 1))
end

