-- ==== Sys2Proof/Laws/State.lean ====
section
/-! SUPPORT. What each named update of the state leaves in each field. -/

namespace Sys2Proof.Machine

variable (s : State)

@[simp] theorem onLp_pending (f : Lp → Lp) : (s.onLp f).pending = s.pending := rfl
@[simp] theorem onLp_powered (f : Lp → Lp) : (s.onLp f).powered = s.powered := rfl
@[simp] theorem onLp_lp (f : Lp → Lp) : (s.onLp f).lp = f s.lp := rfl
@[simp] theorem onLp_sru (f : Lp → Lp) : (s.onLp f).sru = s.sru := rfl
@[simp] theorem onLp_lc (f : Lp → Lp) : (s.onLp f).lc = s.lc := rfl
@[simp] theorem onLp_trk (f : Lp → Lp) : (s.onLp f).trk = s.trk := rfl
@[simp] theorem onLp_hd (f : Lp → Lp) : (s.onLp f).hd = s.hd := rfl
@[simp] theorem onLp_arb (f : Lp → Lp) : (s.onLp f).arb = s.arb := rfl
@[simp] theorem onLp_bag (f : Lp → Lp) : (s.onLp f).bag = s.bag := rfl
@[simp] theorem onLp_tie (f : Lp → Lp) : (s.onLp f).tie = s.tie := rfl
@[simp] theorem onLp_crm (f : Lp → Lp) : (s.onLp f).crm = s.crm := rfl
@[simp] theorem onLp_tot (f : Lp → Lp) : (s.onLp f).tot = s.tot := rfl
@[simp] theorem onLp_pst (f : Lp → Lp) : (s.onLp f).pst = s.pst := rfl
@[simp] theorem onLp_nv (f : Lp → Lp) : (s.onLp f).nv = s.nv := rfl

@[simp] theorem onSru_pending (f : Sru → Sru) : (s.onSru f).pending = s.pending := rfl
@[simp] theorem onSru_powered (f : Sru → Sru) : (s.onSru f).powered = s.powered := rfl
@[simp] theorem onSru_lp (f : Sru → Sru) : (s.onSru f).lp = s.lp := rfl
@[simp] theorem onSru_sru (f : Sru → Sru) : (s.onSru f).sru = f s.sru := rfl
@[simp] theorem onSru_lc (f : Sru → Sru) : (s.onSru f).lc = s.lc := rfl
@[simp] theorem onSru_trk (f : Sru → Sru) : (s.onSru f).trk = s.trk := rfl
@[simp] theorem onSru_hd (f : Sru → Sru) : (s.onSru f).hd = s.hd := rfl
@[simp] theorem onSru_arb (f : Sru → Sru) : (s.onSru f).arb = s.arb := rfl
@[simp] theorem onSru_bag (f : Sru → Sru) : (s.onSru f).bag = s.bag := rfl
@[simp] theorem onSru_tie (f : Sru → Sru) : (s.onSru f).tie = s.tie := rfl
@[simp] theorem onSru_crm (f : Sru → Sru) : (s.onSru f).crm = s.crm := rfl
@[simp] theorem onSru_tot (f : Sru → Sru) : (s.onSru f).tot = s.tot := rfl
@[simp] theorem onSru_pst (f : Sru → Sru) : (s.onSru f).pst = s.pst := rfl
@[simp] theorem onSru_nv (f : Sru → Sru) : (s.onSru f).nv = s.nv := rfl

@[simp] theorem onLc_pending (f : Lc → Lc) : (s.onLc f).pending = s.pending := rfl
@[simp] theorem onLc_powered (f : Lc → Lc) : (s.onLc f).powered = s.powered := rfl
@[simp] theorem onLc_lp (f : Lc → Lc) : (s.onLc f).lp = s.lp := rfl
@[simp] theorem onLc_sru (f : Lc → Lc) : (s.onLc f).sru = s.sru := rfl
@[simp] theorem onLc_lc (f : Lc → Lc) : (s.onLc f).lc = f s.lc := rfl
@[simp] theorem onLc_trk (f : Lc → Lc) : (s.onLc f).trk = s.trk := rfl
@[simp] theorem onLc_hd (f : Lc → Lc) : (s.onLc f).hd = s.hd := rfl
@[simp] theorem onLc_arb (f : Lc → Lc) : (s.onLc f).arb = s.arb := rfl
@[simp] theorem onLc_bag (f : Lc → Lc) : (s.onLc f).bag = s.bag := rfl
@[simp] theorem onLc_tie (f : Lc → Lc) : (s.onLc f).tie = s.tie := rfl
@[simp] theorem onLc_crm (f : Lc → Lc) : (s.onLc f).crm = s.crm := rfl
@[simp] theorem onLc_tot (f : Lc → Lc) : (s.onLc f).tot = s.tot := rfl
@[simp] theorem onLc_pst (f : Lc → Lc) : (s.onLc f).pst = s.pst := rfl
@[simp] theorem onLc_nv (f : Lc → Lc) : (s.onLc f).nv = s.nv := rfl

@[simp] theorem onTrk_pending (f : Trk → Trk) : (s.onTrk f).pending = s.pending := rfl
@[simp] theorem onTrk_powered (f : Trk → Trk) : (s.onTrk f).powered = s.powered := rfl
@[simp] theorem onTrk_lp (f : Trk → Trk) : (s.onTrk f).lp = s.lp := rfl
@[simp] theorem onTrk_sru (f : Trk → Trk) : (s.onTrk f).sru = s.sru := rfl
@[simp] theorem onTrk_lc (f : Trk → Trk) : (s.onTrk f).lc = s.lc := rfl
@[simp] theorem onTrk_trk (f : Trk → Trk) : (s.onTrk f).trk = f s.trk := rfl
@[simp] theorem onTrk_hd (f : Trk → Trk) : (s.onTrk f).hd = s.hd := rfl
@[simp] theorem onTrk_arb (f : Trk → Trk) : (s.onTrk f).arb = s.arb := rfl
@[simp] theorem onTrk_bag (f : Trk → Trk) : (s.onTrk f).bag = s.bag := rfl
@[simp] theorem onTrk_tie (f : Trk → Trk) : (s.onTrk f).tie = s.tie := rfl
@[simp] theorem onTrk_crm (f : Trk → Trk) : (s.onTrk f).crm = s.crm := rfl
@[simp] theorem onTrk_tot (f : Trk → Trk) : (s.onTrk f).tot = s.tot := rfl
@[simp] theorem onTrk_pst (f : Trk → Trk) : (s.onTrk f).pst = s.pst := rfl
@[simp] theorem onTrk_nv (f : Trk → Trk) : (s.onTrk f).nv = s.nv := rfl

@[simp] theorem onHd_pending (f : Hd → Hd) : (s.onHd f).pending = s.pending := rfl
@[simp] theorem onHd_powered (f : Hd → Hd) : (s.onHd f).powered = s.powered := rfl
@[simp] theorem onHd_lp (f : Hd → Hd) : (s.onHd f).lp = s.lp := rfl
@[simp] theorem onHd_sru (f : Hd → Hd) : (s.onHd f).sru = s.sru := rfl
@[simp] theorem onHd_lc (f : Hd → Hd) : (s.onHd f).lc = s.lc := rfl
@[simp] theorem onHd_trk (f : Hd → Hd) : (s.onHd f).trk = s.trk := rfl
@[simp] theorem onHd_hd (f : Hd → Hd) : (s.onHd f).hd = f s.hd := rfl
@[simp] theorem onHd_arb (f : Hd → Hd) : (s.onHd f).arb = s.arb := rfl
@[simp] theorem onHd_bag (f : Hd → Hd) : (s.onHd f).bag = s.bag := rfl
@[simp] theorem onHd_tie (f : Hd → Hd) : (s.onHd f).tie = s.tie := rfl
@[simp] theorem onHd_crm (f : Hd → Hd) : (s.onHd f).crm = s.crm := rfl
@[simp] theorem onHd_tot (f : Hd → Hd) : (s.onHd f).tot = s.tot := rfl
@[simp] theorem onHd_pst (f : Hd → Hd) : (s.onHd f).pst = s.pst := rfl
@[simp] theorem onHd_nv (f : Hd → Hd) : (s.onHd f).nv = s.nv := rfl

@[simp] theorem onArb_pending (f : Arb → Arb) : (s.onArb f).pending = s.pending := rfl
@[simp] theorem onArb_powered (f : Arb → Arb) : (s.onArb f).powered = s.powered := rfl
@[simp] theorem onArb_lp (f : Arb → Arb) : (s.onArb f).lp = s.lp := rfl
@[simp] theorem onArb_sru (f : Arb → Arb) : (s.onArb f).sru = s.sru := rfl
@[simp] theorem onArb_lc (f : Arb → Arb) : (s.onArb f).lc = s.lc := rfl
@[simp] theorem onArb_trk (f : Arb → Arb) : (s.onArb f).trk = s.trk := rfl
@[simp] theorem onArb_hd (f : Arb → Arb) : (s.onArb f).hd = s.hd := rfl
@[simp] theorem onArb_arb (f : Arb → Arb) : (s.onArb f).arb = f s.arb := rfl
@[simp] theorem onArb_bag (f : Arb → Arb) : (s.onArb f).bag = s.bag := rfl
@[simp] theorem onArb_tie (f : Arb → Arb) : (s.onArb f).tie = s.tie := rfl
@[simp] theorem onArb_crm (f : Arb → Arb) : (s.onArb f).crm = s.crm := rfl
@[simp] theorem onArb_tot (f : Arb → Arb) : (s.onArb f).tot = s.tot := rfl
@[simp] theorem onArb_pst (f : Arb → Arb) : (s.onArb f).pst = s.pst := rfl
@[simp] theorem onArb_nv (f : Arb → Arb) : (s.onArb f).nv = s.nv := rfl

@[simp] theorem onBag_pending (f : Bag → Bag) : (s.onBag f).pending = s.pending := rfl
@[simp] theorem onBag_powered (f : Bag → Bag) : (s.onBag f).powered = s.powered := rfl
@[simp] theorem onBag_lp (f : Bag → Bag) : (s.onBag f).lp = s.lp := rfl
@[simp] theorem onBag_sru (f : Bag → Bag) : (s.onBag f).sru = s.sru := rfl
@[simp] theorem onBag_lc (f : Bag → Bag) : (s.onBag f).lc = s.lc := rfl
@[simp] theorem onBag_trk (f : Bag → Bag) : (s.onBag f).trk = s.trk := rfl
@[simp] theorem onBag_hd (f : Bag → Bag) : (s.onBag f).hd = s.hd := rfl
@[simp] theorem onBag_arb (f : Bag → Bag) : (s.onBag f).arb = s.arb := rfl
@[simp] theorem onBag_bag (f : Bag → Bag) : (s.onBag f).bag = f s.bag := rfl
@[simp] theorem onBag_tie (f : Bag → Bag) : (s.onBag f).tie = s.tie := rfl
@[simp] theorem onBag_crm (f : Bag → Bag) : (s.onBag f).crm = s.crm := rfl
@[simp] theorem onBag_tot (f : Bag → Bag) : (s.onBag f).tot = s.tot := rfl
@[simp] theorem onBag_pst (f : Bag → Bag) : (s.onBag f).pst = s.pst := rfl
@[simp] theorem onBag_nv (f : Bag → Bag) : (s.onBag f).nv = s.nv := rfl

@[simp] theorem onTie_pending (f : Tie → Tie) : (s.onTie f).pending = s.pending := rfl
@[simp] theorem onTie_powered (f : Tie → Tie) : (s.onTie f).powered = s.powered := rfl
@[simp] theorem onTie_lp (f : Tie → Tie) : (s.onTie f).lp = s.lp := rfl
@[simp] theorem onTie_sru (f : Tie → Tie) : (s.onTie f).sru = s.sru := rfl
@[simp] theorem onTie_lc (f : Tie → Tie) : (s.onTie f).lc = s.lc := rfl
@[simp] theorem onTie_trk (f : Tie → Tie) : (s.onTie f).trk = s.trk := rfl
@[simp] theorem onTie_hd (f : Tie → Tie) : (s.onTie f).hd = s.hd := rfl
@[simp] theorem onTie_arb (f : Tie → Tie) : (s.onTie f).arb = s.arb := rfl
@[simp] theorem onTie_bag (f : Tie → Tie) : (s.onTie f).bag = s.bag := rfl
@[simp] theorem onTie_tie (f : Tie → Tie) : (s.onTie f).tie = f s.tie := rfl
@[simp] theorem onTie_crm (f : Tie → Tie) : (s.onTie f).crm = s.crm := rfl
@[simp] theorem onTie_tot (f : Tie → Tie) : (s.onTie f).tot = s.tot := rfl
@[simp] theorem onTie_pst (f : Tie → Tie) : (s.onTie f).pst = s.pst := rfl
@[simp] theorem onTie_nv (f : Tie → Tie) : (s.onTie f).nv = s.nv := rfl

@[simp] theorem onCrm_pending (f : Crm → Crm) : (s.onCrm f).pending = s.pending := rfl
@[simp] theorem onCrm_powered (f : Crm → Crm) : (s.onCrm f).powered = s.powered := rfl
@[simp] theorem onCrm_lp (f : Crm → Crm) : (s.onCrm f).lp = s.lp := rfl
@[simp] theorem onCrm_sru (f : Crm → Crm) : (s.onCrm f).sru = s.sru := rfl
@[simp] theorem onCrm_lc (f : Crm → Crm) : (s.onCrm f).lc = s.lc := rfl
@[simp] theorem onCrm_trk (f : Crm → Crm) : (s.onCrm f).trk = s.trk := rfl
@[simp] theorem onCrm_hd (f : Crm → Crm) : (s.onCrm f).hd = s.hd := rfl
@[simp] theorem onCrm_arb (f : Crm → Crm) : (s.onCrm f).arb = s.arb := rfl
@[simp] theorem onCrm_bag (f : Crm → Crm) : (s.onCrm f).bag = s.bag := rfl
@[simp] theorem onCrm_tie (f : Crm → Crm) : (s.onCrm f).tie = s.tie := rfl
@[simp] theorem onCrm_crm (f : Crm → Crm) : (s.onCrm f).crm = f s.crm := rfl
@[simp] theorem onCrm_tot (f : Crm → Crm) : (s.onCrm f).tot = s.tot := rfl
@[simp] theorem onCrm_pst (f : Crm → Crm) : (s.onCrm f).pst = s.pst := rfl
@[simp] theorem onCrm_nv (f : Crm → Crm) : (s.onCrm f).nv = s.nv := rfl

@[simp] theorem onTot_pending (f : Tot → Tot) : (s.onTot f).pending = s.pending := rfl
@[simp] theorem onTot_powered (f : Tot → Tot) : (s.onTot f).powered = s.powered := rfl
@[simp] theorem onTot_lp (f : Tot → Tot) : (s.onTot f).lp = s.lp := rfl
@[simp] theorem onTot_sru (f : Tot → Tot) : (s.onTot f).sru = s.sru := rfl
@[simp] theorem onTot_lc (f : Tot → Tot) : (s.onTot f).lc = s.lc := rfl
@[simp] theorem onTot_trk (f : Tot → Tot) : (s.onTot f).trk = s.trk := rfl
@[simp] theorem onTot_hd (f : Tot → Tot) : (s.onTot f).hd = s.hd := rfl
@[simp] theorem onTot_arb (f : Tot → Tot) : (s.onTot f).arb = s.arb := rfl
@[simp] theorem onTot_bag (f : Tot → Tot) : (s.onTot f).bag = s.bag := rfl
@[simp] theorem onTot_tie (f : Tot → Tot) : (s.onTot f).tie = s.tie := rfl
@[simp] theorem onTot_crm (f : Tot → Tot) : (s.onTot f).crm = s.crm := rfl
@[simp] theorem onTot_tot (f : Tot → Tot) : (s.onTot f).tot = f s.tot := rfl
@[simp] theorem onTot_pst (f : Tot → Tot) : (s.onTot f).pst = s.pst := rfl
@[simp] theorem onTot_nv (f : Tot → Tot) : (s.onTot f).nv = s.nv := rfl

@[simp] theorem onPst_pending (f : Pst → Pst) : (s.onPst f).pending = s.pending := rfl
@[simp] theorem onPst_powered (f : Pst → Pst) : (s.onPst f).powered = s.powered := rfl
@[simp] theorem onPst_lp (f : Pst → Pst) : (s.onPst f).lp = s.lp := rfl
@[simp] theorem onPst_sru (f : Pst → Pst) : (s.onPst f).sru = s.sru := rfl
@[simp] theorem onPst_lc (f : Pst → Pst) : (s.onPst f).lc = s.lc := rfl
@[simp] theorem onPst_trk (f : Pst → Pst) : (s.onPst f).trk = s.trk := rfl
@[simp] theorem onPst_hd (f : Pst → Pst) : (s.onPst f).hd = s.hd := rfl
@[simp] theorem onPst_arb (f : Pst → Pst) : (s.onPst f).arb = s.arb := rfl
@[simp] theorem onPst_bag (f : Pst → Pst) : (s.onPst f).bag = s.bag := rfl
@[simp] theorem onPst_tie (f : Pst → Pst) : (s.onPst f).tie = s.tie := rfl
@[simp] theorem onPst_crm (f : Pst → Pst) : (s.onPst f).crm = s.crm := rfl
@[simp] theorem onPst_tot (f : Pst → Pst) : (s.onPst f).tot = s.tot := rfl
@[simp] theorem onPst_pst (f : Pst → Pst) : (s.onPst f).pst = f s.pst := rfl
@[simp] theorem onPst_nv (f : Pst → Pst) : (s.onPst f).nv = s.nv := rfl

@[simp] theorem onNv_pending (f : Nonvolatile → Nonvolatile) : (s.onNv f).pending = s.pending := rfl
@[simp] theorem onNv_powered (f : Nonvolatile → Nonvolatile) : (s.onNv f).powered = s.powered := rfl
@[simp] theorem onNv_lp (f : Nonvolatile → Nonvolatile) : (s.onNv f).lp = s.lp := rfl
@[simp] theorem onNv_sru (f : Nonvolatile → Nonvolatile) : (s.onNv f).sru = s.sru := rfl
@[simp] theorem onNv_lc (f : Nonvolatile → Nonvolatile) : (s.onNv f).lc = s.lc := rfl
@[simp] theorem onNv_trk (f : Nonvolatile → Nonvolatile) : (s.onNv f).trk = s.trk := rfl
@[simp] theorem onNv_hd (f : Nonvolatile → Nonvolatile) : (s.onNv f).hd = s.hd := rfl
@[simp] theorem onNv_arb (f : Nonvolatile → Nonvolatile) : (s.onNv f).arb = s.arb := rfl
@[simp] theorem onNv_bag (f : Nonvolatile → Nonvolatile) : (s.onNv f).bag = s.bag := rfl
@[simp] theorem onNv_tie (f : Nonvolatile → Nonvolatile) : (s.onNv f).tie = s.tie := rfl
@[simp] theorem onNv_crm (f : Nonvolatile → Nonvolatile) : (s.onNv f).crm = s.crm := rfl
@[simp] theorem onNv_tot (f : Nonvolatile → Nonvolatile) : (s.onNv f).tot = s.tot := rfl
@[simp] theorem onNv_pst (f : Nonvolatile → Nonvolatile) : (s.onNv f).pst = s.pst := rfl
@[simp] theorem onNv_nv (f : Nonvolatile → Nonvolatile) : (s.onNv f).nv = f s.nv := rfl

end Sys2Proof.Machine
end

