-- ==== Sys2Proof/Laws/Frames.lean ====
section
/-! SUPPORT. Frames: which blocks each shared operation can touch. One lemma for each operation; everything the operation is not said to touch reads after it as before. -/

namespace Sys2Proof.Machine

/-! ### Reading a frame -/

section Reading

variable {b : Parts} {s t : State} (h : t.without b = s.without b)
include h

theorem kept_pending : t.pending = s.pending := by simpa [State.without] using congrArg State.pending h
theorem kept_powered : t.powered = s.powered := by simpa [State.without] using congrArg State.powered h
theorem kept_pos (hb : b.pos = false) : t.sru.pos = s.sru.pos := by
  simpa [State.without, hb] using congrArg (fun x => x.sru.pos) h
theorem kept_trk (hb : b.trk = false) : t.trk = s.trk := by
  simpa [State.without, hb] using congrArg State.trk h
theorem kept_hd (hb : b.hd = false) : t.hd = s.hd := by
  simpa [State.without, hb] using congrArg State.hd h
theorem kept_arb (hb : b.arb = false) : t.arb = s.arb := by
  simpa [State.without, hb] using congrArg State.arb h
theorem kept_bag (hb : b.bag = false) : t.bag = s.bag := by
  simpa [State.without, hb] using congrArg State.bag h
theorem kept_tie (hb : b.tie = false) : t.tie = s.tie := by
  simpa [State.without, hb] using congrArg State.tie h
theorem kept_crm (hb : b.crm = false) : t.crm = s.crm := by
  simpa [State.without, hb] using congrArg State.crm h
theorem kept_tot (hb : b.tot = false) : t.tot = s.tot := by
  simpa [State.without, hb] using congrArg State.tot h
theorem kept_nv (hb : b.nv = false) : t.nv = s.nv := by
  simpa [State.without, hb] using congrArg State.nv h
theorem kept_lp (hb : b.lp = false) (hl : b.link = false) : t.lp = s.lp := by
  have k := congrArg State.lp h
  simp only [State.without, hb, hl, Bool.false_eq_true, if_false] at k
  exact k
theorem kept_receiver (hl : b.link = false) : t.lp.receiver = s.lp.receiver := by
  simpa [State.without, hl] using congrArg (fun x => x.lp.receiver) h
theorem kept_rate (hl : b.link = false) : t.lp.rate = s.lp.rate := by
  simpa [State.without, hl] using congrArg (fun x => x.lp.rate) h
theorem kept_mask (hl : b.link = false) : t.lp.mask = s.lp.mask := by
  simpa [State.without, hl] using congrArg (fun x => x.lp.mask) h
theorem kept_counters (hl : b.link = false) : t.lp.counters = s.lp.counters := by
  simpa [State.without, hl] using congrArg (fun x => x.lp.counters) h
theorem kept_sru (hb : b.sru = false) (hp : b.pos = false) : t.sru = s.sru := by
  have k := congrArg State.sru h
  simp only [State.without, hb, hp, Bool.false_eq_true, if_false] at k
  exact k
theorem kept_lc (hb : b.lc = false) (ha : b.ask = false) : t.lc = s.lc := by
  have k := congrArg State.lc h
  simp only [State.without, hb, ha, Bool.false_eq_true, if_false] at k
  exact k
theorem kept_setSpeed (ha : b.ask = false) : t.lc.setSpeed = s.lc.setSpeed := by
  simpa [State.without, ha] using congrArg (fun x => x.lc.setSpeed) h
theorem kept_estop (ha : b.ask = false) : t.lc.estop = s.lc.estop := by
  simpa [State.without, ha] using congrArg (fun x => x.lc.estop) h
theorem kept_pst (hb : b.pst = false) (hr : b.refs = false) : t.pst = s.pst := by
  have k := congrArg State.pst h
  simp only [State.without, hb, hr, Bool.false_eq_true, if_false] at k
  exact k
theorem kept_slots (hb : b.pst = false) : t.pst.slots = s.pst.slots := by
  simpa [State.without, hb] using congrArg (fun x => x.pst.slots) h
theorem kept_assign (hb : b.pst = false) : t.pst.assign = s.pst.assign := by
  simpa [State.without, hb] using congrArg (fun x => x.pst.assign) h
theorem kept_settings (hb : b.pst = false) : t.pst.settings = s.pst.settings := by
  simpa [State.without, hb] using congrArg (fun x => x.pst.settings) h
theorem kept_clock (hb : b.pst = false) : t.pst.clock = s.pst.clock := by
  simpa [State.without, hb] using congrArg (fun x => x.pst.clock) h
theorem kept_clockValid (hb : b.pst = false) : t.pst.clockValid = s.pst.clockValid := by
  simpa [State.without, hb] using congrArg (fun x => x.pst.clockValid) h
theorem kept_unsaved (hb : b.pst = false) : t.pst.unsaved = s.pst.unsaved := by
  simpa [State.without, hb] using congrArg (fun x => x.pst.unsaved) h
theorem kept_slotUnsaved (hb : b.pst = false) : t.pst.slotUnsaved = s.pst.slotUnsaved := by
  simpa [State.without, hb] using congrArg (fun x => x.pst.slotUnsaved) h
theorem kept_store (hb : b.pst = false) : t.pst.store = s.pst.store := by
  simpa [State.without, hb] using congrArg (fun x => x.pst.store) h
theorem kept_defaulted (hb : b.pst = false) : t.pst.defaulted = s.pst.defaulted := by
  simpa [State.without, hb] using congrArg (fun x => x.pst.defaulted) h

end Reading

/-! ### The named updates -/

variable {b : Parts} (s : State)

@[simp] theorem without_onTrk (f : Trk → Trk) (h : b.trk = true) :
    (s.onTrk f).without b = s.without b := by simp [State.without, h]
@[simp] theorem without_onHd (f : Hd → Hd) (h : b.hd = true) :
    (s.onHd f).without b = s.without b := by simp [State.without, h]
@[simp] theorem without_onArb (f : Arb → Arb) (h : b.arb = true) :
    (s.onArb f).without b = s.without b := by simp [State.without, h]
@[simp] theorem without_onBag (f : Bag → Bag) (h : b.bag = true) :
    (s.onBag f).without b = s.without b := by simp [State.without, h]
@[simp] theorem without_onTie (f : Tie → Tie) (h : b.tie = true) :
    (s.onTie f).without b = s.without b := by simp [State.without, h]
@[simp] theorem without_onCrm (f : Crm → Crm) (h : b.crm = true) :
    (s.onCrm f).without b = s.without b := by simp [State.without, h]
@[simp] theorem without_onTot (f : Tot → Tot) (h : b.tot = true) :
    (s.onTot f).without b = s.without b := by simp [State.without, h]
@[simp] theorem without_onNv (f : Nonvolatile → Nonvolatile) (h : b.nv = true) :
    (s.onNv f).without b = s.without b := by simp [State.without, h]
@[simp] theorem without_onLp (f : Lp → Lp) (h : b.lp = true)
    (k : ∀ x, (f x).receiver = x.receiver ∧ (f x).rate = x.rate ∧ (f x).mask = x.mask ∧
      (f x).counters = x.counters) : (s.onLp f).without b = s.without b := by
  simp [State.without, h, k]
theorem without_onLink (f : Lp → Lp) (h : b.lp = true) (hl : b.link = true) :
    (s.onLp f).without b = s.without b := by
  simp [State.without, h, hl]
@[simp] theorem without_onSru (f : Sru → Sru) (h : b.sru = true) (k : ∀ x, (f x).pos = x.pos) :
    (s.onSru f).without b = s.without b := by
  simp [State.without, h, k]
@[simp] theorem without_onLc (f : Lc → Lc) (h : b.lc = true)
    (k : ∀ x, (f x).setSpeed = x.setSpeed ∧ (f x).estop = x.estop) :
    (s.onLc f).without b = s.without b := by
  simp [State.without, h, k]
@[simp] theorem without_onPst (f : Pst → Pst) (h : b.pst = true) (k : ∀ x, (f x).refs = x.refs) :
    (s.onPst f).without b = s.without b := by
  simp [State.without, h, k]
theorem without_onRefs (f : PerSlot Nat → PerSlot Nat) (h : b.refs = true) :
    (s.onPst fun p => { p with refs := f p.refs }).without b = s.without b := by
  cases hb : b.pst <;> simp [State.without, h, hb]

/-- A frame of the operation done for one lane is a frame of it done for every lane. -/
theorem without_forLanes (f : Lane → State → State) (k : ∀ l s, (f l s).without b = s.without b) :
    (forLanes f s).without b = s.without b := by
  simp [forLanes, lanes, k]

/-- A frame of the operation done for one element is a frame of it done for a list. -/
theorem without_foldl {α : Type} (f : State → α → State) (xs : List α)
    (k : ∀ s x, (f s x).without b = s.without b) : (xs.foldl f s).without b = s.without b := by
  induction xs generalizing s with
  | nil => rfl
  | cons x xs ih => simp [ih, k]

/-! ### The operations -/

@[simp] theorem raise_without (k : Kind) (x : List Byte) (h0 : b.lp = true) :
    (raise k x s).without b = s.without b := by
  refine without_onLp s _ h0 fun lp => ?_
  unfold Lp.raise Lp.beginNext Lp.withAttn
  dsimp only
  repeat' split
  all_goals exact ⟨rfl, rfl, rfl, rfl⟩
@[simp] theorem replyReady_without (r : Reply) (h0 : b.lp = true) :
    (replyReady r s).without b = s.without b := by
  refine without_onLp s _ h0 fun lp => ?_
  unfold Lp.beginNext Lp.withAttn
  dsimp only
  repeat' split
  all_goals exact ⟨rfl, rfl, rfl, rfl⟩
@[simp] theorem onHead_without (l : Lane) (f : Head → Head) (h0 : b.hd = true) :
    (onHead l f s).without b = s.without b := by
  simp [onHead, h0]
@[simp] theorem onLane_without (l : Lane) (f : LaneCtl → LaneCtl) (h0 : b.hd = true) :
    (onLane l f s).without b = s.without b := by
  simp [onLane, h0]
@[simp] theorem onQueue_without (l : Lane) (f : List Rec → List Rec) (h0 : b.trk = true) :
    (onQueue l f s).without b = s.without b := by
  simp [onQueue, h0]
@[simp] theorem onPost_without (f : List Rec → List Rec) (h0 : b.trk = true) :
    (onPost f s).without b = s.without b := by
  simp [onPost, h0]
@[simp] theorem mapRecords_without (p : Rec → Bool) (f : Rec → Rec) (h0 : b.trk = true) :
    (mapRecords p f s).without b = s.without b := by
  simp [mapRecords, h0]
@[simp] theorem onRec_without (n : Nat) (f : Rec → Rec) (h0 : b.trk = true) :
    (onRec n f s).without b = s.without b := by
  simp [onRec, h0]
@[simp] theorem removeRec_without (n : Nat) (h0 : b.trk = true) :
    (removeRec n s).without b = s.without b := by
  simp [removeRec, h0]
@[simp] theorem markSuspect_without (h0 : b.trk = true) :
    (markSuspect s).without b = s.without b := by
  simp [markSuspect, h0]
@[simp] theorem lineEvent_without (f : Shift → Shift) (h0 : b.tot = true) :
    (lineEvent f s).without b = s.without b := by
  simp [lineEvent, h0]
@[simp] theorem countPhantom_without (h0 : b.tot = true) :
    (countPhantom s).without b = s.without b := by
  simp [countPhantom, h0]
@[simp] theorem raiseIfClosed_without (t : Tot) (h0 : b.lp = true) :
    (raiseIfClosed t s).without b = s.without b := by
  unfold raiseIfClosed
  (repeat' split) <;> simp [h0]
@[simp] theorem dropRead_without (n : Nat) (h0 : b.tie = true) :
    (dropRead n s).without b = s.without b := by
  simp [dropRead, h0]
@[simp] theorem dropRef_without (i : Slot) (h0 : b.refs = true) :
    (dropRef i s).without b = s.without b := without_onRefs s (fun r => modAt r i (· - 1)) h0
@[simp] theorem endFlightOf_without (n : Nat) (h0 : b.arb = true) :
    (endFlightOf n s).without b = s.without b := by
  unfold endFlightOf
  (repeat' split) <;> simp [h0]
@[simp] theorem retireQuiet_without (r : Rec) (d : Disposition) (h0 : b.trk = true) (h1 : b.tot = true) (h2 : b.arb = true) (h3 : b.tie = true) (h4 : b.refs = true) :
    (retireQuiet r d s).without b = s.without b := by
  simp [retireQuiet, h0, h1, h2, h3, h4]
@[simp] theorem retireRec_without (r : Rec) (d : Disposition) (h0 : b.lp = true) (h1 : b.trk = true) (h2 : b.tot = true) (h3 : b.arb = true) (h4 : b.tie = true) (h5 : b.refs = true) :
    (retireRec r d s).without b = s.without b := by
  simp [retireRec, h0, h1, h2, h3, h4, h5]
@[simp] theorem refreshPacer_without (h0 : b.sru = true) :
    (refreshPacer s).without b = s.without b := by
  simp [refreshPacer, h0]
@[simp] theorem refreshEstimate_without (h0 : b.sru = true) :
    (refreshEstimate s).without b = s.without b := by
  simp [refreshEstimate, h0]
@[simp] theorem setReferenceState_without (st : RefState) (src : Source) (h0 : b.lp = true) (h1 : b.sru = true) (h2 : b.lc = true) :
    (setReferenceState st src s).without b = s.without b := by
  simp [setReferenceState, h0, h1, h2]
@[simp] theorem enterIdle_without (h0 : b.lp = true) (h1 : b.sru = true) (h2 : b.lc = true) :
    (enterIdle s).without b = s.without b := by
  unfold enterIdle
  (repeat' split) <;> simp [h0, h1, h2]
@[simp] theorem enterAcquire_without (h0 : b.lp = true) (h1 : b.sru = true) (h2 : b.lc = true) :
    (enterAcquire s).without b = s.without b := by
  simp [enterAcquire, h0, h1, h2]
@[simp] theorem switchTo_without (src : LineSource) (h0 : b.lp = true) (h1 : b.sru = true) (h2 : b.lc = true) (h3 : b.trk = true) :
    (switchTo src s).without b = s.without b := by
  unfold switchTo
  dsimp only
  (repeat' split) <;> simp [h0, h1, h2, h3]
@[simp] theorem enterCrawl_without (h0 : b.lp = true) (h1 : b.sru = true) (h2 : b.lc = true) (h3 : b.trk = true) :
    (enterCrawl s).without b = s.without b := by
  simp [enterCrawl, h0, h1, h2, h3]
@[simp] theorem enterHoldover_without (n : Nat) (h0 : b.lp = true) (h1 : b.sru = true) (h2 : b.lc = true) :
    (enterHoldover n s).without b = s.without b := by
  simp [enterHoldover, h0, h1, h2]
@[simp] theorem countLoss_without (h0 : b.tot = true) (h1 : b.nv = true) :
    (countLoss s).without b = s.without b := by
  simp [countLoss, h0, h1]
@[simp] theorem lossOfTrack_without (n : Nat) (h0 : b.lp = true) (h1 : b.sru = true) (h2 : b.lc = true) (h3 : b.trk = true) (h4 : b.tot = true) (h5 : b.nv = true) :
    (lossOfTrack n s).without b = s.without b := by
  unfold lossOfTrack
  (repeat' split) <;> simp [h0, h1, h2, h3, h4, h5]
@[simp] theorem evaluateSelection_without (n : Nat) (h0 : b.lp = true) (h1 : b.sru = true) (h2 : b.lc = true) (h3 : b.trk = true) (h4 : b.tot = true) (h5 : b.nv = true) :
    (evaluateSelection n s).without b = s.without b := by
  unfold evaluateSelection
  (repeat' split) <;> simp [h0, h1, h2, h3, h4, h5]
@[simp] theorem slipCheck_without (h0 : b.lp = true) (h1 : b.sru = true) :
    (slipCheck s).without b = s.without b := by
  unfold slipCheck
  dsimp only
  (repeat' split) <;> simp [h0, h1]
@[simp] theorem spinUp_without (l : Lane) (h0 : b.hd = true) :
    (spinUp l s).without b = s.without b := by
  simp [spinUp, h0]
@[simp] theorem spinUpUnlessParked_without (l : Lane) (h0 : b.hd = true) :
    (spinUpUnlessParked l s).without b = s.without b := by
  unfold spinUpUnlessParked
  (repeat' split) <;> simp [h0]
@[simp] theorem setBlade_without (x : BladeState) (l : Lane) (h0 : b.hd = true) :
    (setBlade x l s).without b = s.without b := by
  simp [setBlade, h0]
@[simp] theorem stopBladeIf_without (p : BladeState → Bool) (l : Lane) (h0 : b.hd = true) :
    (stopBladeIf p l s).without b = s.without b := by
  unfold stopBladeIf
  (repeat' split) <;> simp [h0]
@[simp] theorem raiseLane_without (l : Lane) (h0 : b.lp = true) :
    (raiseLane l s).without b = s.without b := by
  simp [raiseLane, h0]
@[simp] theorem setLaneState_without (st : LaneState) (l : Lane) (h0 : b.lp = true) (h1 : b.hd = true) :
    (setLaneState st l s).without b = s.without b := by
  unfold setLaneState
  (repeat' split) <;> simp [h0, h1]
@[simp] theorem endTrial_without (l : Lane) (h0 : b.hd = true) :
    (endTrial l s).without b = s.without b := by
  simp [endTrial, h0]
@[simp] theorem laneOutOfMotion_without (l : Lane) (h0 : b.lp = true) (h1 : b.hd = true) :
    (laneOutOfMotion l s).without b = s.without b := by
  unfold laneOutOfMotion
  dsimp only
  (repeat' split) <;> simp [h0, h1]
@[simp] theorem headsAtReady_without (h0 : b.lp = true) (h1 : b.hd = true) :
    (headsAtReady s).without b = s.without b := by
  unfold headsAtReady
  exact without_forLanes s _ fun l s => by simp [h0, h1]
@[simp] theorem headsAtHalted_without (h0 : b.lp = true) (h1 : b.hd = true) :
    (headsAtHalted s).without b = s.without b := by
  unfold headsAtHalted
  exact without_forLanes s _ fun l s => by simp [h0, h1]
@[simp] theorem headsAtStarting_without (h0 : b.hd = true) :
    (headsAtStarting s).without b = s.without b := by
  unfold headsAtStarting
  exact without_forLanes s _ fun l s => by split <;> simp [h0]
@[simp] theorem bladeQualified_without (l : Lane) (h0 : b.lp = true) (h1 : b.hd = true) :
    (bladeQualified l s).without b = s.without b := by
  unfold bladeQualified
  dsimp only
  (repeat' split) <;> simp [h0, h1]
@[simp] theorem enterTrial_without (l : Lane) (h0 : b.lp = true) (h1 : b.hd = true) :
    (enterTrial l s).without b = s.without b := by
  simp [enterTrial, h0, h1]
@[simp] theorem offTrialList_without (l : Lane) (n : Nat) (h0 : b.lp = true) (h1 : b.hd = true) :
    (offTrialList l n s).without b = s.without b := by
  unfold offTrialList
  dsimp only
  (repeat' split) <;> simp [h0, h1]
@[simp] theorem unpark_without (l : Lane) (h0 : b.hd = true) :
    (unpark l s).without b = s.without b := by
  unfold unpark
  dsimp only
  (repeat' split) <;> simp [h0]
@[simp] theorem stopIdleBlade_without (l : Lane) (h0 : b.hd = true) :
    (stopIdleBlade l s).without b = s.without b := by
  unfold stopIdleBlade
  (repeat' split) <;> simp [h0]
@[simp] theorem settleRetrial_without (l : Lane) (h0 : b.hd = true) :
    (settleRetrial l s).without b = s.without b := by
  simp [settleRetrial, h0]
@[simp] theorem onCrumb_without (l : Lane) (f : HeadCrumb → HeadCrumb) (h0 : b.crm = true) :
    (onCrumb l f s).without b = s.without b := by
  simp [onCrumb, h0]
@[simp] theorem softRequest_without (t : Target) (h0 : b.crm = true) :
    (softRequest t s).without b = s.without b := by
  simp [softRequest, h0]
@[simp] theorem forcedRequest_without (t : Target) (h0 : b.lp = true) (h1 : b.crm = true) :
    (forcedRequest t s).without b = s.without b := by
  unfold forcedRequest
  dsimp only
  (repeat' split) <;> simp [h0, h1]
@[simp] theorem evalTriggers_without (t : Target) (h0 : b.lp = true) (h1 : b.crm = true) :
    (evalTriggers t s).without b = s.without b := by
  unfold evalTriggers
  (repeat' split) <;> simp [h0, h1]
@[simp] theorem evalAllTriggers_without (h0 : b.lp = true) (h1 : b.crm = true) :
    (evalAllTriggers s).without b = s.without b := by
  unfold evalAllTriggers
  rw [evalTriggers_without _ _ h0 h1]
  exact without_forLanes s _ fun l s => by simp [h0, h1]
@[simp] theorem endSlicing_without (r : Rec) (h0 : b.lp = true) (h1 : b.crm = true) :
    (endSlicing r s).without b = s.without b := by
  simp [endSlicing, h0, h1]
@[simp] theorem startCycle_without (t : Target) (h0 : b.hd = true) (h1 : b.crm = true) :
    (startCycle t s).without b = s.without b := by
  unfold startCycle
  dsimp only
  (repeat' split) <;> simp [h0, h1]
@[simp] theorem settlePurge_without (n : Nat) (h0 : b.hd = true) (h1 : b.crm = true) :
    (settlePurge n s).without b = s.without b := by
  unfold settlePurge
  (repeat' split) <;> simp [h0, h1]
@[simp] theorem abortCycle_without (h0 : b.crm = true) :
    (abortCycle s).without b = s.without b := by
  simp [abortCycle, h0]
@[simp] theorem openAir_without (x : Option Nat) (h0 : b.crm = true) :
    (openAir x s).without b = s.without b := by
  simp [openAir, h0]
@[simp] theorem checkModel_without (y : Cycle) (h0 : b.lp = true) :
    (checkModel y s).without b = s.without b := by
  unfold checkModel
  (repeat' split) <;> simp [h0]
@[simp] theorem finishCycle_without (y : Cycle) (p : LastPurge) (h0 : b.lp = true) (h1 : b.hd = true) (h2 : b.crm = true) :
    (finishCycle y p s).without b = s.without b := by
  unfold finishCycle
  dsimp only
  (repeat' split) <;> simp [h0, h1, h2]
@[simp] theorem raiseBagsLow_without (n : Nat) (h0 : b.lp = true) :
    (raiseBagsLow n s).without b = s.without b := by
  unfold raiseBagsLow
  (repeat' split) <;> simp [h0]
@[simp] theorem beginAttempt_without (n k : Nat) (h0 : b.lp = true) (h1 : b.bag = true) (h2 : b.tot = true) :
    (beginAttempt n k s).without b = s.without b := by
  simp [beginAttempt, h0, h1, h2]
@[simp] theorem endCycle_without (e : CycleEnd) (x : BagResult) (h0 : b.lp = true) (h1 : b.trk = true) (h2 : b.bag = true) :
    (endCycle e x s).without b = s.without b := by
  unfold endCycle
  dsimp only
  (repeat' split) <;> simp [h0, h1, h2]
@[simp] theorem bagConfirmed_without (h0 : b.lp = true) (h1 : b.trk = true) (h2 : b.bag = true) :
    (bagConfirmed s).without b = s.without b := by
  unfold bagConfirmed
  (repeat' split) <;> simp [h0, h1, h2]
@[simp] theorem bagMissed_without (h0 : b.lp = true) (h1 : b.trk = true) (h2 : b.bag = true) (h3 : b.tot = true) :
    (bagMissed s).without b = s.without b := by
  unfold bagMissed
  (repeat' split) <;> simp [h0, h1, h2, h3]
@[simp] theorem bagStation_without (r : Rec) (h0 : b.lp = true) (h1 : b.trk = true) (h2 : b.bag = true) (h3 : b.tot = true) :
    (bagStation r s).without b = s.without b := by
  unfold bagStation
  (repeat' split) <;> simp [h0, h1, h2, h3]
@[simp] theorem bagAtHalted_without (h0 : b.lp = true) (h1 : b.trk = true) (h2 : b.bag = true) :
    (bagAtHalted s).without b = s.without b := by
  simp [bagAtHalted, h0, h1, h2]
@[simp] theorem baggerCleared_without (h0 : b.bag = true) :
    (baggerCleared s).without b = s.without b := by
  unfold baggerCleared
  (repeat' split) <;> simp [h0]
@[simp] theorem raiseClipsLow_without (n : Nat) (h0 : b.lp = true) :
    (raiseClipsLow n s).without b = s.without b := by
  unfold raiseClipsLow
  (repeat' split) <;> simp [h0]
@[simp] theorem stroke_without (r : Rec) (h0 : b.lp = true) (h1 : b.trk = true) (h2 : b.tie = true) (h3 : b.tot = true) :
    (stroke r s).without b = s.without b := by
  simp [stroke, h0, h1, h2, h3]
@[simp] theorem tieStation_without (r : Rec) (h0 : b.lp = true) (h1 : b.trk = true) (h2 : b.tie = true) (h3 : b.tot = true) :
    (tieStation r s).without b = s.without b := by
  unfold tieStation
  (repeat' split) <;> simp [h0, h1, h2, h3]
@[simp] theorem verifyStation_without (r : Rec) (h0 : b.trk = true) (h1 : b.tie = true) :
    (verifyStation r s).without b = s.without b := by
  unfold verifyStation
  dsimp only
  (repeat' split) <;> simp [h0, h1]
@[simp] theorem burstFound_without (h0 : b.lp = true) (h1 : b.tie = true) :
    (burstFound s).without b = s.without b := by
  unfold burstFound
  dsimp only
  (repeat' split) <;> simp [h0, h1]
@[simp] theorem markBad_without (n : Nat) (h0 : b.lp = true) (h1 : b.tie = true) :
    (markBad n s).without b = s.without b := by
  unfold markBad
  dsimp only
  (repeat' split) <;> simp [h0, h1]
@[simp] theorem onCounters_without (f : CodeCounters → CodeCounters) (h0 : b.tie = true) :
    (onCounters f s).without b = s.without b := by
  simp [onCounters, h0]
@[simp] theorem resolvePlain_without (r : Rec) (a : Option Answered) (h0 : b.lp = true) (h1 : b.trk = true) (h2 : b.tie = true) :
    (resolvePlain r a s).without b = s.without b := by
  unfold resolvePlain
  dsimp only
  (repeat' split) <;> simp [h0, h1, h2]
@[simp] theorem startReindex_without (h0 : b.tie = true) :
    (startReindex s).without b = s.without b := by
  simp [startReindex, h0]
@[simp] theorem settleReindex_without (h0 : b.tie = true) :
    (settleReindex s).without b = s.without b := by
  unfold settleReindex
  (repeat' split) <;> simp [h0]
@[simp] theorem tyerAtHalted_without (h0 : b.tie = true) :
    (tyerAtHalted s).without b = s.without b := by
  simp [tyerAtHalted, h0]
@[simp] theorem endReindex_without (h0 : b.tie = true) :
    (endReindex s).without b = s.without b := by
  simp [endReindex, h0]
@[simp] theorem resetCounters_without (h0 : b.tie = true) :
    (resetCounters s).without b = s.without b := by
  simp [resetCounters, h0]
@[simp] theorem setLine_without (st : LineState) (h0 : b.lp = true) (h1 : b.lc = true) :
    (setLine st s).without b = s.without b := by
  simp [setLine, h0, h1]
@[simp] theorem enterReady_without (c : StopCause) (h0 : b.lp = true) (h1 : b.sru = true) (h2 : b.lc = true) (h3 : b.hd = true) :
    (enterReady c s).without b = s.without b := by
  simp [enterReady, h0, h1, h2, h3]
@[simp] theorem restPushers_without (h0 : b.arb = true) :
    (restPushers s).without b = s.without b := by
  simp [restPushers, h0]
@[simp] theorem enterHalted_without (c : StopCause) (h0 : b.lp = true) (h1 : b.sru = true) (h2 : b.lc = true) (h3 : b.trk = true) (h4 : b.hd = true) (h5 : b.arb = true) (h6 : b.bag = true) (h7 : b.tie = true) (h8 : b.crm = true) :
    (enterHalted c s).without b = s.without b := by
  simp [enterHalted, h0, h1, h2, h3, h4, h5, h6, h7, h8]
@[simp] theorem enterDraining_without (c : StopCause) (h0 : b.lp = true) (h1 : b.lc = true) :
    (enterDraining c s).without b = s.without b := by
  simp [enterDraining, h0, h1]
@[simp] theorem enterRunning_without (h0 : b.lp = true) (h1 : b.lc = true) :
    (enterRunning s).without b = s.without b := by
  simp [enterRunning, h0, h1]
@[simp] theorem enterStarting_without (h0 : b.lp = true) (h1 : b.sru = true) (h2 : b.lc = true) (h3 : b.trk = true) (h4 : b.hd = true) :
    (enterStarting s).without b = s.without b := by
  unfold enterStarting
  dsimp only
  (repeat' split) <;> simp [h0, h1, h2, h3, h4]
@[simp] theorem haltLine_without (c : StopCause) (h0 : b.lp = true) (h1 : b.sru = true) (h2 : b.lc = true) (h3 : b.trk = true) (h4 : b.hd = true) (h5 : b.arb = true) (h6 : b.bag = true) (h7 : b.tie = true) (h8 : b.crm = true) :
    (haltLine c s).without b = s.without b := by
  unfold haltLine
  (repeat' split) <;> simp [h0, h1, h2, h3, h4, h5, h6, h7, h8]
@[simp] theorem requestDrain_without (c : StopCause) (h0 : b.lp = true) (h1 : b.sru = true) (h2 : b.lc = true) (h3 : b.hd = true) :
    (requestDrain c s).without b = s.without b := by
  unfold requestDrain
  (repeat' split) <;> simp [h0, h1, h2, h3]
@[simp] theorem askNarrowing_without (h0 : b.lp = true) (h1 : b.sru = true) (h2 : b.lc = true) (h3 : b.hd = true) :
    (askNarrowing s).without b = s.without b := by
  unfold askNarrowing
  (repeat' split) <;> simp [h0, h1, h2, h3]
@[simp] theorem faultTo_without (st : LaneState) (l : Lane) (h0 : b.lp = true) (h1 : b.sru = true) (h2 : b.lc = true) (h3 : b.hd = true) :
    (faultTo st l s).without b = s.without b := by
  simp [faultTo, h0, h1, h2, h3]
@[simp] theorem laneFault_without (f : LaneFault) (p : Bool) (l : Lane) (h0 : b.lp = true) (h1 : b.sru = true) (h2 : b.lc = true) (h3 : b.hd = true) :
    (laneFault f p l s).without b = s.without b := by
  unfold laneFault
  dsimp only
  (repeat' split) <;> simp [h0, h1, h2, h3]
@[simp] theorem checkNoLanes_without (t : State) (h0 : b.lp = true) (h1 : b.sru = true) (h2 : b.lc = true) (h3 : b.hd = true) :
    (checkNoLanes t s).without b = s.without b := by
  unfold checkNoLanes
  (repeat' split) <;> simp [h0, h1, h2, h3]
@[simp] theorem retire_without (r : Rec) (d : Disposition) (h0 : b.lp = true) (h1 : b.trk = true) (h2 : b.tot = true) (h3 : b.arb = true) (h4 : b.tie = true) (h5 : b.refs = true) (h6 : b.hd = true) :
    (retire r d s).without b = s.without b := by
  simp [retire, h0, h1, h2, h3, h4, h5, h6]
@[simp] theorem retireLost_without (r : Rec) (c : LostCause) (h0 : b.lp = true) (h1 : b.trk = true) (h2 : b.tot = true) (h3 : b.arb = true) (h4 : b.tie = true) (h5 : b.refs = true) (h6 : b.hd = true) :
    (retireLost r c s).without b = s.without b := by
  simp [retireLost, h0, h1, h2, h3, h4, h5, h6]
@[simp] theorem phantom_without (e : Eye) (h0 : b.lp = true) (h1 : b.tot = true) :
    (phantom e s).without b = s.without b := by
  simp [phantom, h0, h1]
@[simp] theorem blindRead_without (r : Rec) (h0 : b.lp = true) (h1 : b.sru = true) (h2 : b.lc = true) (h3 : b.hd = true) (h4 : b.tie = true) :
    (blindRead r s).without b = s.without b := by
  simp [blindRead, h0, h1, h2, h3, h4]
@[simp] theorem resolveChallenge_without (r : Rec) (a : Option Answered) (h0 : b.lp = true) (h1 : b.sru = true) (h2 : b.lc = true) (h3 : b.hd = true) (h4 : b.tie = true) (h5 : b.trk = true) (h6 : b.tot = true) :
    (resolveChallenge r a s).without b = s.without b := by
  unfold resolveChallenge
  dsimp only
  (repeat' split) <;> simp [h0, h1, h2, h3, h4, h5, h6]
@[simp] theorem resolveRead_without (o : OpenRead) (a : Option Answered) (h0 : b.lp = true) (h1 : b.sru = true) (h2 : b.lc = true) (h3 : b.hd = true) (h4 : b.tie = true) (h5 : b.trk = true) (h6 : b.tot = true) :
    (resolveRead o a s).without b = s.without b := by
  unfold resolveRead
  dsimp only
  (repeat' split) <;> simp [h0, h1, h2, h3, h4, h5, h6]
@[simp] theorem evaluateGates_without (h0 : b.lp = true) (h1 : b.trk = true) :
    (evaluateGates s).without b = s.without b := by
  unfold evaluateGates
  dsimp only
  (repeat' split) <;> simp [h0, h1]
@[simp] theorem refreshWithhold_without (h0 : b.arb = true) :
    (refreshWithhold s).without b = s.without b := by
  simp [refreshWithhold, h0]
@[simp] theorem grant_without (r : Rec) (h0 : b.trk = true) (h1 : b.arb = true) :
    (grant r s).without b = s.without b := by
  simp [grant, h0, h1]
@[simp] theorem settleGrant_without (n : Nat) (h0 : b.trk = true) (h1 : b.arb = true) :
    (settleGrant n s).without b = s.without b := by
  unfold settleGrant
  (repeat' split) <;> simp [h0, h1]
@[simp] theorem settleChangeover_without (h0 : b.arb = true) :
    (settleChangeover s).without b = s.without b := by
  unfold settleChangeover
  (repeat' split) <;> simp [h0]
@[simp] theorem refreshTarget_without (h0 : b.lc = true) :
    (refreshTarget s).without b = s.without b := by
  simp [refreshTarget, h0]
@[simp] theorem refreshBlades_without (h0 : b.hd = true) :
    (refreshBlades s).without b = s.without b := by
  simp [refreshBlades, h0]
@[simp] theorem refresh_without (h0 : b.lc = true) (h1 : b.sru = true) (h2 : b.hd = true) (h3 : b.arb = true) :
    (refresh s).without b = s.without b := by
  simp [refresh, h0, h1, h2, h3]
@[simp] theorem settleStart_without (h0 : b.lp = true) (h1 : b.lc = true) :
    (settleStart s).without b = s.without b := by
  unfold settleStart
  (repeat' split) <;> simp [h0, h1]
@[simp] theorem settleDrain_without (h0 : b.lp = true) (h1 : b.sru = true) (h2 : b.lc = true) (h3 : b.hd = true) :
    (settleDrain s).without b = s.without b := by
  unfold settleDrain
  (repeat' split) <;> simp [h0, h1, h2, h3]
@[simp] theorem settle_without (t : State) (n : Nat) (h0 : b.lp = true) (h1 : b.sru = true) (h2 : b.lc = true) (h3 : b.trk = true) (h4 : b.hd = true) (h5 : b.arb = true) (h6 : b.tie = true) (h7 : b.crm = true) :
    (settle t n s).without b = s.without b := by
  have a : ∀ s, (forLanes stopIdleBlade s).without b = s.without b :=
    fun s => without_forLanes s _ fun l s => by simp [h4]
  have c : ∀ s, (forLanes settleRetrial s).without b = s.without b :=
    fun s => without_forLanes s _ fun l s => by simp [h4]
  simp [settle, a, c, h0, h1, h2, h3, h4, h5, h6, h7]
@[simp] theorem toQueued_without (r : Rec) (h0 : b.lp = true) (h1 : b.trk = true) (h2 : b.hd = true) :
    (toQueued r s).without b = s.without b := by
  simp [toQueued, h0, h1, h2]
@[simp] theorem takeBlockedEye_without (r : Rec) (h0 : b.lp = true) (h1 : b.sru = true) (h2 : b.lc = true) (h3 : b.trk = true) (h4 : b.hd = true) :
    (takeBlockedEye r s).without b = s.without b := by
  simp [takeBlockedEye, h0, h1, h2, h3, h4]
@[simp] theorem makeCut_without (r : Rec) (k : Nat) (h0 : b.lp = true) (h1 : b.trk = true) (h2 : b.hd = true) (h3 : b.crm = true) :
    (makeCut r k s).without b = s.without b := by
  unfold makeCut
  dsimp only
  (repeat' split) <;> simp [h0, h1, h2, h3]
@[simp] theorem missCut_without (r : Rec) (h0 : b.lp = true) (h1 : b.trk = true) (h2 : b.crm = true) :
    (missCut r s).without b = s.without b := by
  unfold missCut
  dsimp only
  (repeat' split) <;> simp [h0, h1, h2]
@[simp] theorem takeCut_without (r : Rec) (h0 : b.lp = true) (h1 : b.trk = true) (h2 : b.hd = true) (h3 : b.crm = true) :
    (takeCut r s).without b = s.without b := by
  unfold takeCut
  (repeat' split) <;> simp [h0, h1, h2, h3]
@[simp] theorem takeDeadline_without (r : Rec) (h0 : b.lp = true) (h1 : b.sru = true) (h2 : b.lc = true) (h3 : b.trk = true) (h4 : b.hd = true) (h5 : b.arb = true) (h6 : b.tie = true) (h7 : b.tot = true) (h8 : b.refs = true) :
    (takeDeadline r s).without b = s.without b := by
  simp [takeDeadline, h0, h1, h2, h3, h4, h5, h6, h7, h8]
@[simp] theorem endFlight_without (l : Lane) (h0 : b.arb = true) :
    (endFlight l s).without b = s.without b := by
  simp [endFlight, h0]
@[simp] theorem retract_without (r : Rec) (h0 : b.lp = true) (h1 : b.sru = true) (h2 : b.lc = true) (h3 : b.trk = true) (h4 : b.hd = true) (h5 : b.arb = true) (h6 : b.tie = true) (h7 : b.tot = true) (h8 : b.refs = true) :
    (retract r s).without b = s.without b := by
  unfold retract
  dsimp only
  (repeat' split) <;> simp [h0, h1, h2, h3, h4, h5, h6, h7, h8]
@[simp] theorem takeDecision_without (r : Rec) (h0 : b.trk = true) :
    (takeDecision r s).without b = s.without b := by
  simp [takeDecision, h0]
@[simp] theorem takeStation_without (e : Station) (h0 : b.lp = true) (h1 : b.sru = true) (h2 : b.lc = true) (h3 : b.trk = true) (h4 : b.hd = true) (h5 : b.arb = true) (h6 : b.bag = true) (h7 : b.tie = true) (h8 : b.crm = true) (h9 : b.tot = true) (h10 : b.refs = true) :
    (takeStation e s).without b = s.without b := by
  unfold takeStation
  (repeat' split) <;> simp [h0, h1, h2, h3, h4, h5, h6, h7, h8, h9, h10]
@[simp] theorem takeReached_without (k n : Nat) (h0 : b.lp = true) (h1 : b.sru = true) (h2 : b.lc = true) (h3 : b.trk = true) (h4 : b.hd = true) (h5 : b.arb = true) (h6 : b.bag = true) (h7 : b.tie = true) (h8 : b.crm = true) (h9 : b.tot = true) (h10 : b.refs = true) :
    (takeReached k n s).without b = s.without b := by
  induction k generalizing n s with
  | zero => rfl
  | succ k ih =>
    unfold takeReached
    repeat' split
    all_goals simp [ih, h0, h1, h2, h3, h4, h5, h6, h7, h8, h9, h10]
@[simp] theorem countPulse_without (src : LineSource) (h0 : b.sru = true) :
    (countPulse src s).without b = s.without b := by
  refine without_onSru s _ h0 fun x => ?_
  cases src <;> rfl
@[simp] theorem classAll_without (h0 : b.sru = true) (h1 : b.hd = true) :
    (classAll s).without b = s.without b := by
  unfold classAll
  rw [without_onHd _ _ h1]
  exact without_onSru s _ h0 fun _ => rfl
@[simp] theorem bladeFault_without (l : Lane) (h0 : b.lp = true) (h1 : b.sru = true) (h2 : b.lc = true) (h3 : b.trk = true) (h4 : b.hd = true) (h5 : b.crm = true) :
    (bladeFault l s).without b = s.without b := by
  unfold bladeFault
  dsimp only
  (repeat' split) <;> simp [h0, h1, h2, h3, h4, h5]
@[simp] theorem takeQualification_without (t : State) (l : Lane) (h0 : b.lp = true) (h1 : b.sru = true) (h2 : b.lc = true) (h3 : b.trk = true) (h4 : b.hd = true) (h5 : b.crm = true) :
    (takeQualification t l s).without b = s.without b := by
  unfold takeQualification
  (repeat' split) <;> simp [h0, h1, h2, h3, h4, h5]
@[simp] theorem beginWindow_without (h0 : b.sru = true) :
    (beginWindow s).without b = s.without b := by
  simp [beginWindow, h0]
@[simp] theorem countTrial_without (l : Lane) (n : Nat) (h0 : b.hd = true) :
    (countTrial l n s).without b = s.without b := by
  unfold countTrial
  (repeat' split) <;> simp [h0]
@[simp] theorem admit_without (l : Lane) (n : Nat) (h0 : b.trk = true) (h1 : b.tot = true) (h2 : b.hd = true) (h3 : b.refs = true) :
    (admitLoaf l n s).without b = s.without b := by
  unfold admitLoaf
  dsimp only
  rw [countTrial_without _ _ _ h2, without_onRefs _ (fun r => modAt r _ (· + 1)) h3]
  simp [h0, h1]
@[simp] theorem untracked_without (l : Lane) (h0 : b.lp = true) (h1 : b.sru = true) (h2 : b.lc = true) (h3 : b.hd = true) :
    (untracked l s).without b = s.without b := by
  simp [untracked, h0, h1, h2, h3]
@[simp] theorem confirmGrant_without (g : Grant) (r : Rec) (h0 : b.arb = true) :
    (confirmGrant g r s).without b = s.without b := by
  simp [confirmGrant, h0]
@[simp] theorem raiseEscape_without (r : Rec) (h0 : b.lp = true) :
    (raiseEscape r s).without b = s.without b := by
  simp [raiseEscape, h0]
@[simp] theorem countDivertFail_without (h0 : b.tot = true) :
    (countDivertFail s).without b = s.without b := by
  simp [countDivertFail, h0]
@[simp] theorem divertFail_without (r : Rec) (h0 : b.lp = true) (h1 : b.trk = true) (h2 : b.tot = true) (h3 : b.arb = true) (h4 : b.tie = true) (h5 : b.refs = true) (h6 : b.hd = true) :
    (divertFail r s).without b = s.without b := by
  simp [divertFail, h0, h1, h2, h3, h4, h5, h6]
@[simp] theorem strayAnswer_without (h0 : b.tie = true) :
    (strayAnswer s).without b = s.without b := by
  simp [strayAnswer, h0]
@[simp] theorem checkResidual_without (y : Cycle) (h0 : b.lp = true) (h1 : b.sru = true) (h2 : b.lc = true) (h3 : b.hd = true) :
    (checkResidual y s).without b = s.without b := by
  unfold checkResidual
  (repeat' split) <;> simp [h0, h1, h2, h3]
@[simp] theorem settleCycle_fst_without (y : Cycle) (h0 : b.crm = true) (h1 : b.tot = true) :
    (settleCycle y s).1.without b = s.without b := by
  unfold settleCycle
  dsimp only
  split <;> simp [h0, h1]
@[simp] theorem completeCycle_without (y : Cycle) (h0 : b.lp = true) (h1 : b.sru = true) (h2 : b.lc = true) (h3 : b.hd = true) (h4 : b.crm = true) (h5 : b.tot = true) :
    (completeCycle y s).without b = s.without b := by
  unfold completeCycle
  dsimp only
  simp [h0, h1, h2, h3, h4, h5]
@[simp] theorem takeReading_without (x : Option Nat) (h0 : b.lp = true) (h1 : b.sru = true) (h2 : b.lc = true) (h3 : b.hd = true) (h4 : b.crm = true) (h5 : b.tot = true) :
    (takeReading x s).without b = s.without b := by
  unfold takeReading
  (repeat' split) <;> simp [h0, h1, h2, h3, h4, h5]
@[simp] theorem raiseStoreFault_without (x : BitVec 17) (h0 : b.lp = true) :
    (raiseStoreFault x s).without b = s.without b := by
  unfold raiseStoreFault
  (repeat' split) <;> simp [h0]
@[simp] theorem raiseWhile_without (c : Bool) (k : Kind) (x : List Byte) (h0 : b.lp = true) :
    (raiseWhile c k x s).without b = s.without b := by
  unfold raiseWhile
  (repeat' split) <;> simp [h0]
@[simp] theorem raisePersisting_without (h0 : b.lp = true) :
    (raisePersisting s).without b = s.without b := by
  simp [raisePersisting, h0]
@[simp] theorem restartRaisings_without (t : State) (h0 : b.lp = true) :
    (restartRaisings t s).without b = s.without b := by
  simp [restartRaisings, h0]
@[simp] theorem clearQuiet_without (h0 : b.trk = true) (h1 : b.tot = true) (h2 : b.arb = true) (h3 : b.tie = true) (h4 : b.refs = true) :
    (clearQuiet s).without b = s.without b := by
  unfold clearQuiet
  exact without_foldl s _ _ fun s r => by simp [h0, h1, h2, h3, h4]
@[simp] theorem clearTable_without (h0 : b.lp = true) (h1 : b.trk = true) (h2 : b.tot = true) (h3 : b.arb = true) (h4 : b.tie = true) (h5 : b.refs = true) (h6 : b.hd = true) :
    (clearTable s).without b = s.without b := by
  unfold clearTable
  rw [without_onTrk _ _ h1, without_onArb _ _ h3]
  exact without_foldl s _ _ fun s r => by simp [h0, h1, h2, h3, h4, h5, h6]
@[simp] theorem clearActs_without (n : BitVec 24) (h0 : b.bag = true) (h1 : b.tie = true) :
    (clearActs n s).without b = s.without b := by
  unfold clearActs
  dsimp only
  (repeat' split) <;> simp [h0, h1]
@[simp] theorem touchSettings_without (h0 : b.pst = true) :
    (touchSettings s).without b = s.without b := by
  simp [touchSettings, h0]
@[simp] theorem writeSlot_without (i : Slot) (x : Option Profile) (h0 : b.pst = true) :
    (writeSlot i x s).without b = s.without b := by
  refine without_onPst s _ h0 fun p => ?_
  split <;> rfl
@[simp] theorem takeChallenge_without (m n : Nat) (h0 : b.tie = true) :
    (takeChallenge m n s).without b = s.without b := by
  unfold takeChallenge
  (repeat' split) <;> simp [h0]
@[simp] theorem dropHeadEntry_without (l : Lane) (h0 : b.crm = true) :
    (dropHeadEntry l s).without b = s.without b := by
  unfold dropHeadEntry
  dsimp only
  (repeat' split) <;> simp [h0]
@[simp] theorem reconfigure_without (m n : Nat) (l : Lane) (h0 : b.lp = true) (h1 : b.hd = true) (h2 : b.crm = true) :
    (reconfigure m n l s).without b = s.without b := by
  unfold reconfigure
  dsimp only
  (repeat' split) <;> simp [h0, h1, h2]
@[simp] theorem thresholdBags_without (x : LineSettings) (h0 : b.lp = true) :
    (thresholdBags x s).without b = s.without b := by
  unfold thresholdBags
  (repeat' split) <;> simp [h0]
@[simp] theorem thresholdClips_without (x : LineSettings) (h0 : b.lp = true) :
    (thresholdClips x s).without b = s.without b := by
  unfold thresholdClips
  (repeat' split) <;> simp [h0]
@[simp] theorem applySettings_without (x : LineSettings) (h0 : b.lp = true) (h1 : b.sru = true) (h2 : b.hd = true) (h3 : b.tie = true) (h4 : b.crm = true) (h5 : b.pst = true) :
    (applySettings x s).without b = s.without b := by
  have a : ∀ m n s, (forLanes (reconfigure m n) s).without b = s.without b :=
    fun m n s => without_forLanes s _ fun l s => by simp [h0, h2, h4]
  unfold applySettings
  dsimp only
  split <;> simp [a, h0, h1, h3, h4, h5]
@[simp] theorem addTarget_without (l : Lane) (h0 : b.lp = true) (h1 : b.hd = true) :
    (addTarget l s).without b = s.without b := by
  unfold addTarget
  dsimp only
  (repeat' split) <;> simp [h0, h1]
@[simp] theorem removeTarget_without (l : Lane) (h0 : b.lp = true) (h1 : b.hd = true) :
    (removeTarget l s).without b = s.without b := by
  unfold removeTarget
  dsimp only
  (repeat' split) <;> simp [h0, h1]
@[simp] theorem setTarget_without (n : Nat) (l : Lane) (h0 : b.lp = true) (h1 : b.hd = true) :
    (setTarget n l s).without b = s.without b := by
  unfold setTarget
  (repeat' split) <;> simp [h0, h1]
@[simp] theorem assignSlot_without (l : Lane) (i : Slot) (h0 : b.crm = true) (h1 : b.pst = true) :
    (assignSlot l i s).without b = s.without b := by
  unfold assignSlot
  (repeat' split) <;> simp [h0, h1]
@[simp] theorem loadClips_without (n : Nat) (h0 : b.tie = true) :
    (loadClips n s).without b = s.without b := by
  simp [loadClips, h0]
@[simp] theorem openShift_without (n : Nat) (h0 : b.tot = true) (h1 : b.nv = true) :
    (openShift n s).without b = s.without b := by
  simp [openShift, h0, h1]
@[simp] theorem startClosing_without (sh : Shift) (h0 : b.tot = true) :
    (startClosing sh s).without b = s.without b := by
  simp [startClosing, h0]
@[simp] theorem settleShift_without (h0 : b.lp = true) (h1 : b.tot = true) :
    (settleShift s).without b = s.without b := by
  simp [settleShift, h0, h1]
@[simp] theorem drainForClose_without (h0 : b.lp = true) (h1 : b.sru = true) (h2 : b.lc = true) (h3 : b.hd = true) :
    (drainForClose s).without b = s.without b := by
  unfold drainForClose
  (repeat' split) <;> simp [h0, h1, h2, h3]
@[simp] theorem closeShift_without (r : Bool) (n : Nat) (sh : Shift) (h0 : b.lp = true) (h1 : b.sru = true) (h2 : b.lc = true) (h3 : b.hd = true) (h4 : b.tot = true) (h5 : b.nv = true) :
    (closeShift r n sh s).without b = s.without b := by
  unfold closeShift
  dsimp only
  (repeat' split) <;> simp [h0, h1, h2, h3, h4, h5]

end Sys2Proof.Machine
end

