-- ==== Sys2Proof/Laws/Ops.lean ====
section
/-! SUPPORT. What the shared operations do, once each: requests and their replies, raisings, per-lane stores, records, timers, settling. -/

namespace Sys2Proof.Machine

/-! ### Commands and requests -/

theorem whenPowered_on {s : State} (f : State → State) (h : s.powered = true) :
    whenPowered s f = .next (f s) := by simp [whenPowered, h]

theorem whenPowered_off {s : State} (f : State → State) (h : s.powered = false) :
    whenPowered s f = .next s := by simp [whenPowered, h]

/-- The request in hand without a ready reply is taken up as it is (R190). -/
theorem takeUp_handling {r : Req} {s : State} (h : Handling r s) : takeUp r s = some s := by
  obtain ⟨-, hh, hr⟩ := h
  simp [takeUp, hh, hr]

/-- A request in hand is served: the length check, then the owning rule, then the reply (R191). -/
theorem serve_handling {k tag : Byte} {p : List Byte} {s : State} (len : Nat)
    (owner : List Byte → State → Answer) (h : Handling ⟨k, tag, p⟩ s) :
    serve k len owner tag p s =
      .next (giveReply k tag (if p.length = len then owner p s else Answer.refuse s .badLength)) := by
  rw [serve, whenPowered_on _ h.1, takeUp_handling h]

@[simp] theorem giveReply_refuse (k tag : Byte) (s : State) (st : Status) :
    giveReply k tag (Answer.refuse s st) = replyReady ⟨replyFrame k tag st [], none⟩ s := rfl

@[simp] theorem giveReply_okay (k tag : Byte) (s : State) (fields : List Byte) :
    giveReply k tag (Answer.okay s fields) = replyReady ⟨replyFrame k tag .ok fields, none⟩ s := rfl

/-- A reply made ready stands in LP (R192). -/
theorem replyReady_stands (r : Req) (st : Status) (fields : List Byte) (rate : Option LinkRate) (s : State) :
    ReplyStands r st fields rate (replyReady ⟨replyFrame r.kind r.tag st fields, rate⟩ s) := by
  unfold ReplyStands replyReady Lp.beginNext
  simp only [onLp_lp]
  split <;> simp_all

/-! ### Raisings (R193) -/

theorem kindIn_bit (k j : Kind) : kindIn k.bit j = decide (j = k) := by
  cases k <;> cases j <;> decide

theorem kindIn_or (a b : BitVec 24) (k : Kind) : kindIn (a ||| b) k = (kindIn a k || kindIn b k) := by
  simp [kindIn]

/-- Nothing that LP begins to send changes the latched flags. -/
@[simp] theorem beginNext_flags (lp : Lp) : lp.beginNext.flags = lp.flags := by
  unfold Lp.beginNext Lp.withAttn
  repeat' split
  all_goals rfl

/-- A raising latches its own flag and no other (R193). -/
@[simp] theorem raise_flag (k j : Kind) (x : List Byte) (s : State) :
    (raise k x s).flag j = (s.flag j || decide (j = k)) := by
  unfold raise State.flag Lp.raise
  simp only [onLp_lp]
  split <;> simp [Lp.withAttn, kindIn_or, kindIn_bit]

@[simp] theorem replyReady_flag (r : Reply) (j : Kind) (s : State) :
    (replyReady r s).flag j = s.flag j := by
  simp [replyReady, State.flag]

/-- A raising of a masked kind only latches its flag (R196). -/
theorem raise_masked {k : Kind} {s : State} (x : List Byte) (h : kindIn s.lp.mask k = true) :
    raise k x s = s.onLp fun lp => { lp with flags := lp.flags ||| k.bit } := by
  simp [raise, State.onLp, Lp.raise, h]

/-! ### Per-lane stores -/

@[simp] theorem getElem_putAt_self {α : Type} {n : Nat} (v : Vector α n) (i : Fin n) (x : α) :
    (putAt v i x)[i.val] = x := by simp [putAt]

theorem getElem_putAt_ne {α : Type} {n : Nat} (v : Vector α n) {i j : Fin n} (x : α) (h : j ≠ i) :
    (putAt v i x)[j.val] = v[j.val] := by
  have : i.val ≠ j.val := fun e => h (Fin.ext e.symm)
  simp [putAt, this]

@[simp] theorem head_onHead_self (l : Lane) (f : Head → Head) (s : State) :
    (onHead l f s).head l = f (s.head l) := by simp [onHead, State.head, modAt]

theorem head_onHead_ne {k l : Lane} (f : Head → Head) (s : State) (h : k ≠ l) :
    (onHead l f s).head k = s.head k := by
  simp [onHead, State.head, modAt, getElem_putAt_ne _ _ h]

@[simp] theorem lane_onLane_self (l : Lane) (f : LaneCtl → LaneCtl) (s : State) :
    (onLane l f s).lane l = f (s.lane l) := by simp [onLane, State.lane, modAt]

theorem lane_onLane_ne {k l : Lane} (f : LaneCtl → LaneCtl) (s : State) (h : k ≠ l) :
    (onLane l f s).lane k = s.lane k := by
  simp [onLane, State.lane, modAt, getElem_putAt_ne _ _ h]

@[simp] theorem lane_onHead (k l : Lane) (f : Head → Head) (s : State) :
    (onHead l f s).lane k = s.lane k := rfl

@[simp] theorem head_onLane (k l : Lane) (f : LaneCtl → LaneCtl) (s : State) :
    (onLane l f s).head k = s.head k := rfl

@[simp] theorem queue_onQueue_self (l : Lane) (f : List Rec → List Rec) (s : State) :
    (onQueue l f s).queue l = f (s.queue l) := by simp [onQueue, State.queue, modAt]

theorem queue_onQueue_ne {k l : Lane} (f : List Rec → List Rec) (s : State) (h : k ≠ l) :
    (onQueue l f s).queue k = s.queue k := by
  simp [onQueue, State.queue, modAt, getElem_putAt_ne _ _ h]

/-! ### Records (R28, R30) -/

@[simp] theorem addReason_loaf (r : Rec) (x : Reason) : (r.addReason x).loaf = r.loaf := by
  unfold Rec.addReason; split <;> rfl

@[simp] theorem addReason_state (r : Rec) (x : Reason) : (r.addReason x).state = r.state := by
  unfold Rec.addReason; split <;> rfl

/-- A reason added is held, and every reason held before still is, in its place (R28). -/
theorem addReason_reasons (r : Rec) (x : Reason) :
    (r.addReason x).reasons = if x ∈ r.reasons then r.reasons else r.reasons ++ [x] := by
  unfold Rec.addReason; split <;> rfl

theorem records_mapRecords (p : Rec → Bool) (f : Rec → Rec) (s : State) :
    (mapRecords p f s).records = mapIf p f s.records := by
  simp [mapRecords, State.records, Trk.records, mapIf]

theorem find_mapIf (p : Rec → Bool) (f : Rec → Rec) (hf : ∀ r, (f r).loaf = r.loaf) (k : Nat) (rs : List Rec) :
    (mapIf p f rs).find? (fun r => r.loaf == k) =
      (rs.find? fun r => r.loaf == k).map fun r => if p r then f r else r := by
  induction rs with
  | nil => rfl
  | cons r rs ih =>
    have e : (if p r then f r else r).loaf = r.loaf := by split <;> simp [hf]
    simp only [mapIf, List.map_cons, List.find?_cons, e]
    cases h : r.loaf == k
    · simpa [mapIf] using ih
    · rfl

/-- A write that keeps the loaf number changes the record it names and no other (R30). -/
theorem onRec_becomes (r : Rec) (f : Rec → Rec) (hf : ∀ x, (f x).loaf = x.loaf) (s : State) :
    RecordBecomes r (f r) s (onRec r.loaf f s) := by
  intro h
  have e : ∀ k, (onRec r.loaf f s).find k =
      (s.find k).map fun x => if x.loaf == r.loaf then f x else x := fun k => by
    simp only [State.find, onRec, records_mapRecords]
    exact find_mapIf _ f hf k _
  refine ⟨by simp [e, h], fun k hk => ?_, fun l => ?_, ?_⟩
  · rw [e]
    cases q : s.find k with
    | none => rfl
    | some x =>
      have : x.loaf = k := by simpa using List.find?_some q
      simp [this, hk]
  · simp only [onRec, mapRecords, State.queue, onTrk_trk]
    simp only [Fin.getElem_fin, Vector.getElem_map, mapIf, List.map_map]
    exact List.map_congr_left fun x _ => by simp only [Function.comp]; split <;> simp [hf]
  · simp only [onRec, mapRecords, onTrk_trk, mapIf, List.map_map]
    exact List.map_congr_left fun x _ => by simp only [Function.comp]; split <;> simp [hf]

/-! ### Bytes -/

@[simp] theorem length_leBytes (n v : Nat) : (leBytes n v).length = n := by
  induction n generalizing v with
  | zero => rfl
  | succ n ih => simp [leBytes, ih]

/-- A number that fits in the bytes of its field is read back from them. -/
theorem leNat_leBytes (n v : Nat) (h : v < 256 ^ n) : leNat (leBytes n v) = v := by
  induction n generalizing v with
  | zero => simp at h; simp [leBytes, leNat, h]
  | succ n ih =>
    have : v / 256 < 256 ^ n := Nat.div_lt_of_lt_mul (by rwa [pow_succ, Nat.mul_comm] at h)
    simp only [leBytes, leNat, ih _ this, BitVec.toNat_ofNat]
    omega

@[simp] theorem length_padTo (n : Nat) (bs : List Byte) : (padTo n bs).length = n := by
  simp [padTo]; omega

end Sys2Proof.Machine
end

