-- ==== Sys2Proof/Laws/Evaluations.lean ====
section
/-! SUPPORT. What an evaluation of a target's triggers, an end of slicing and an evaluation of the gates can do. -/

namespace Sys2Proof.Machine

/-! ### Triggers (R133, R135) -/

/-- Raising a condition changes nothing of CRM. -/
@[simp] theorem raise_crm (k : Kind) (x : List Byte) (s : State) : (raise k x s).crm = s.crm := rfl

theorem running_iff (c : Crm) : c.running = true ↔ c.state = .purging ∨ c.state = .settle := by
  unfold Crm.running; cases c.state <;> simp

theorem wake_state (c : Crm) (q : List PurgeEntry) (h : q ≠ []) :
    Crm.wake { c with queue := q } = { c with queue := q, state := if c.state = .idle then .wait else c.state } := by
  unfold Crm.wake
  cases e : c.state <;> simp [h]

/-- The two parts of a queue: behind the last FORCED entry all are SOFT, and it ends the first part. -/
theorem splitForced_spec (q : List PurgeEntry) :
    (splitForced q).1 ++ (splitForced q).2 = q ∧ (∀ e ∈ (splitForced q).2, e.group = .soft) ∧
      ∀ e, (splitForced q).1.getLast? = some e → e.group = .forced := by
  refine ⟨?_, fun e he => ?_, fun e he => ?_⟩
  · simp only [splitForced, ← List.reverse_append, List.takeWhile_append_dropWhile, List.reverse_reverse]
  · have h := List.mem_takeWhile_imp (List.mem_reverse.1 he)
    rcases e with ⟨t, _ | _⟩ <;> simp_all [PurgeEntry.isForced]
  · simp only [splitForced, List.getLast?_reverse] at he
    have h := List.head?_dropWhile_not (fun e => !PurgeEntry.isForced e) q.reverse
    rw [he] at h
    simpa [PurgeEntry.isForced] using h

/-- A FORCED entry joins behind the last FORCED one, and behind a front whose cycle is running. -/
theorem joinForced_spec (running : Bool) (q : List PurgeEntry) (t : Target) :
    ∃ a b, joinForced running q t = a ++ ⟨t, .forced⟩ :: b ∧ a ++ b = q ∧ (∀ e ∈ b, e.group = .soft) ∧
      (running = true → q ≠ [] → a ≠ []) ∧
      ∀ e, a.getLast? = some e → e.group = .forced ∨ (running = true ∧ a = [e]) := by
  have k := splitForced_spec q
  cases running with
  | false => exact ⟨_, _, rfl, k.1, k.2.1, nofun, fun e h => .inl (k.2.2 e h)⟩
  | true =>
    cases q with
    | nil => exact ⟨_, _, rfl, k.1, k.2.1, fun _ h => absurd rfl h, fun e h => .inl (k.2.2 e h)⟩
    | cons x q =>
      obtain ⟨h1, h2, h3⟩ := splitForced_spec q
      refine ⟨x :: (splitForced q).1, (splitForced q).2, rfl, by simp [h1], h2, by simp, fun e he => ?_⟩
      rcases h : (splitForced q).1 with _ | ⟨y, ys⟩
      · rw [h] at he; exact .inr ⟨rfl, by simpa using he⟩
      · rw [h, List.getLast?_cons_cons, ← h] at he; exact .inl (h3 e he)

theorem cycleTarget_iff (c : Crm) (t : Target) : c.cycleTarget = some t ↔
    (c.state = .purging ∨ c.state = .settle) ∧ c.queue.head?.map PurgeEntry.target = some t := by
  rw [← running_iff]; unfold Crm.cycleTarget; cases c.running <;> simp

theorem entryOf_target {q : List PurgeEntry} {t : Target} {e : PurgeEntry} (h : entryOf q t = some e) :
    e.target = t ∧ e ∈ q :=
  ⟨by simpa using List.find?_some h, List.mem_of_find?_eq_some h⟩

/-- A forced request puts a FORCED entry in its place and raises CRUMB_FORCED, unless one stands (R133). -/
theorem forcedRequest_takes (t : Target) (s : State) :
    (entryOf s.crm.queue t = some ⟨t, .forced⟩ → forcedRequest t s = s) ∧
      (entryOf s.crm.queue t ≠ some ⟨t, .forced⟩ → (forcedRequest t s).flag .crumbForced = true ∧
        (forcedRequest t s).crm = { s.crm with
          queue := joinForced s.crm.running (s.crm.queue.filter fun e => e.target != t) t
          state := if s.crm.state = .idle then .wait else s.crm.state }) := by
  have w := wake_state s.crm (joinForced s.crm.running (s.crm.queue.filter fun e => e.target != t) t) (by
    obtain ⟨a, b, h, -⟩ := joinForced_spec s.crm.running (s.crm.queue.filter fun e => e.target != t) t
    simp [h])
  refine ⟨fun h => by simp [forcedRequest, h], fun h => ?_⟩
  unfold forcedRequest
  rcases k : entryOf s.crm.queue t with _ | ⟨u, _ | _⟩
  · exact ⟨by simp, w⟩
  · obtain ⟨rfl, -⟩ := entryOf_target k
    exact absurd k h
  · exact ⟨by simp, w⟩

/-- A soft request appends a SOFT entry for a target with none (R133, R134). -/
theorem softRequest_takes (t : Target) (s : State) :
    (entryOf s.crm.queue t = none → (softRequest t s).crm = { s.crm with
        queue := s.crm.queue ++ [⟨t, .soft⟩]
        state := if s.crm.state = .idle then .wait else s.crm.state }) ∧
      (entryOf s.crm.queue t ≠ none → softRequest t s = s) := by
  refine ⟨fun h => ?_, fun h => ?_⟩
  · simpa [softRequest, State.onCrm, h] using wake_state s.crm (s.crm.queue ++ [⟨t, .soft⟩]) (by simp)
  · obtain ⟨e, k⟩ := Option.ne_none_iff_exists'.1 h
    simp [softRequest, State.onCrm, k]

theorem forcedDue_iff (s : State) (t : Target) : s.forcedDue t = true ↔ match t with
    | .head l => s.set.headHard ≤ s.crm.heads[l].estimate
    | .belt => s.set.beltHard ≤ s.crm.belt := by cases t <;> simp [State.forcedDue]

theorem softDue_iff (s : State) (t : Target) : s.softDue t = true ↔ match t with
    | .head l => s.set.headPurge ≤ s.crm.heads[l].estimate ∨
        (1 ≤ s.set.skip ∧ s.set.skip ≤ s.crm.heads[l].loaves)
    | .belt => s.set.beltPurge ≤ s.crm.belt := by cases t <;> simp [State.softDue]

/-- What an evaluation of a target's triggers makes of CRM, and that it raises CRUMB_FORCED where an entry becomes FORCED. -/
theorem evalTriggers_taken (t : Target) (s : State) :
    TriggersTaken s t s.crm (evalTriggers t s).crm ∧ ForcedRaised s (evalTriggers t s) := by
  have off : (s.targetConfigured t = false) ↔ ∃ l, t = .head l ∧ s.isConfigured l = false := by
    cases t <;> simp [State.targetConfigured]
  have entry : s.crm.queue.find? (fun e => e.target == t) = entryOf s.crm.queue t := rfl
  unfold TriggersTaken ForcedRaised
  simp only [entry, ← off, ← cycleTarget_iff]
  unfold evalTriggers
  have keep : ∀ e ∈ s.crm.queue, e.group = .forced → e ∉ s.crm.queue → s.flag .crumbForced = true :=
    fun e h _ n => absurd h n
  split
  · next p => exact ⟨⟨fun _ => rfl, fun n => absurd p n, fun n => absurd p n, fun n => absurd p n, fun n => absurd p n⟩, keep⟩
  · next p =>
    refine ⟨⟨fun n => absurd n p, fun _ h e => ?_, fun _ h e => ?_, fun _ h f e => ?_, fun _ h f => ?_⟩, ?_⟩
    · rw [if_pos ((forcedDue_iff s t).2 h), (forcedRequest_takes t s).1 e]
    · rw [if_pos ((forcedDue_iff s t).2 h), ((forcedRequest_takes t s).2 e).2]
      obtain ⟨a, b, h1, h2, h3, h4, h5⟩ :=
        joinForced_spec s.crm.running (s.crm.queue.filter fun e => e.target != t) t
      simp only [running_iff] at h4 h5
      exact ⟨a, b, by rw [h1], h2, h3, h4, h5⟩
    · rw [if_neg (mt (forcedDue_iff s t).1 h), if_pos ((softDue_iff s t).2 f), (softRequest_takes t s).1 e]
    · rw [if_neg (mt (forcedDue_iff s t).1 h)]
      split
      · next f' => rw [(softRequest_takes t s).2 (f.resolve_left (not_not.2 ((softDue_iff s t).1 f')))]
      · rfl
    · split
      · by_cases e : entryOf s.crm.queue t = some ⟨t, .forced⟩
        · rw [(forcedRequest_takes t s).1 e]; exact keep
        · exact fun _ _ _ _ => ((forcedRequest_takes t s).2 e).1
      · split
        · by_cases e : entryOf s.crm.queue t = none
          · intro x hx hg hn
            rw [(softRequest_takes t s).1 e] at hx
            rcases List.mem_append.1 hx with h | h
            · exact absurd h hn
            · simp at h; simp [h] at hg
          · rw [(softRequest_takes t s).2 e]; exact keep
        · exact keep

@[simp] theorem evalTriggers_pst (t : Target) (s : State) : (evalTriggers t s).pst = s.pst := by
  unfold evalTriggers forcedRequest softRequest
  repeat' split
  all_goals rfl

/-- An evaluation looks at the settings alone of what is outside CRM. -/
theorem TriggersTaken.congr {s u : State} {t : Target} {c d : Crm} (h : u.pst = s.pst) (k : TriggersTaken u t c d) :
    TriggersTaken s t c d := by
  unfold TriggersTaken State.isConfigured State.set at *
  rwa [h] at k

/-! ### The end of slicing (R63, R131) -/

/-- An end of slicing hands the shares of the cuts made and evaluates both targets, as the state before the shares has the settings. -/
theorem endSlicing_ends (r : Rec) (s : State) : SlicingEnds s r r.cutsDone s.crm (endSlicing r s).crm := by
  let h := s.crm.heads[r.lane]
  let share := r.cutsDone * (s.profile r.slot).crumb * h.correction / 64
  let shared := s.onCrm fun c => { c with
    heads := putAt c.heads r.lane { h with
      estimate := min 4000000 (h.estimate + share), loaves := min 65535 (h.loaves + 1) }
    belt := min 4000000 (c.belt + share / 8) }
  exact ⟨_, (evalTriggers_taken (.head r.lane) shared).1,
    (evalTriggers_taken .belt (evalTriggers (.head r.lane) shared)).1.congr
      ((evalTriggers_pst (.head r.lane) shared).trans rfl)⟩

/-! ### Gates (R33, R34) -/

/-- The bits that hold a gate closed are the conditions that fail (R33). -/
theorem closedBy_bit (s : State) (l : Lane) (c : Fin 8) :
    (s.closedBy l).getLsbD c.val = true ↔ (s.gateConditions l).getD c.val true = false := by
  unfold State.closedBy State.gateConditions
  generalize decide (s.lc.state = .running) = a1, decide (s.sru.state = .track) = a2,
    (s.lane l).admitting = a3, s.tot.opened.isSome = a4, decide (s.preMerge l < s.set.laneWindow) = a5,
    decide (s.reserve < s.free) = a6, (!s.crm.gapHeld l) = a7, decide ((s.head l).blade = .running) = a8
  revert a1 a2 a3 a4 a5 a6 a7 a8 c
  decide

/-- A gate held closed by the conditions of R33 follows them. -/
theorem gateFollows_closedBy {s : State} {l : Lane} (h : s.trk.closedBy[l] = s.closedBy l) : GateFollows s l := by
  have serves : ∀ k, (decide ((s.lane k).state = .running ∨ ((s.lane k).state = .trial ∧ 0 < (s.lane k).trialLeft))) =
      (s.lane k).admitting := fun k => by
    unfold LaneCtl.admitting; cases (s.lane k).state <;> simp
  unfold GateFollows
  simp only [h, serves]
  have b := closedBy_bit s l
  have front : (∃ e ∈ s.crm.queue.find? (fun e => e.target == .head l),
      e.group = .forced ∨ s.crm.queue.head? = some e) ↔ s.crm.gapHeld l = true := by
    unfold Crm.gapHeld entryOf
    rcases h : s.crm.queue.find? (fun e => e.target == .head l) with _ | e
    · simp [h]
    · have k : e.target = .head l := by simpa using List.find?_some h
      have f : s.crm.queue.head? = some e ↔ s.crm.queue.head?.map PurgeEntry.target = some (.head l) := by
        cases q : s.crm.queue with
        | nil => simp
        | cons x q =>
          simp only [List.head?_cons, Option.some.injEq, Option.map_some]
          refine ⟨fun i => i ▸ k, fun i => ?_⟩
          simpa [q, i] using h
      simp only [h, Option.mem_some_iff, exists_eq_left', f, Option.any_some, PurgeEntry.isForced]
      simp
  refine ⟨(b 0).trans ?_, (b 1).trans ?_, (b 2).trans ?_, (b 3).trans ?_, (b 4).trans ?_, (b 5).trans ?_,
    (b 6).trans ?_, (b 7).trans ?_⟩
  · simp [State.gateConditions]
  · simp [State.gateConditions]
  · simp [State.gateConditions]
  · simp [State.gateConditions]
  · have : (s.flightOf l = true) = (s.arb.flight.map Grant.lane = some l) := by
      unfold State.flightOf; cases s.arb.flight <;> simp
    simp [State.gateConditions, State.preMerge, this]
  · exact decide_eq_false_iff_not.trans not_lt
  · simpa [State.gateConditions] using front.symm
  · simp [State.gateConditions]

/-- The reserve alone holds a gate closed when condition 6 is the one that fails (R34). -/
theorem reserveAlone_iff (v : BitVec 8) : (v == 0x20) = true ↔ ∀ c : Fin 8, v.getLsbD c.val = decide (c = 5) := by
  revert v; decide

/-- The gates and the reserve-held state after an evaluation, and the TABLE_RESERVE it raises (R33, R34). -/
theorem evaluateGates_follows (s : State) : (∀ l : Lane, (evaluateGates s).trk.closedBy[l] = s.closedBy l) ∧
    ReserveFollows (evaluateGates s) ∧
    (s.trk.reserveHeld = false → (evaluateGates s).trk.reserveHeld = true →
      (evaluateGates s).flag .tableReserve = true) := by
  let gates : PerLane (BitVec 8) := Vector.ofFn fun l : Fin 4 => s.closedBy l
  let held := lanes.any fun l => gates[l] == 0x20
  have trk : (evaluateGates s).trk = { s.trk with closedBy := gates, reserveHeld := held } := by
    unfold evaluateGates; dsimp only; split <;> rfl
  have flag : held = true → s.trk.reserveHeld = false → (evaluateGates s).flag .tableReserve = true := fun h n => by
    unfold evaluateGates
    rw [if_pos ⟨h, n⟩]; simp
  refine ⟨fun l => ?_, ?_, fun n h => flag (by simpa [trk] using h) n⟩
  · simp [trk, gates]
  · unfold ReserveFollows
    simp only [trk, ← reserveAlone_iff, held, lanes]
    simp only [List.any_eq_true]
    exact ⟨fun ⟨l, _, h⟩ => ⟨l, h⟩, fun ⟨l, h⟩ => ⟨l, by clear h; revert l; decide, h⟩⟩

/-! ### Withhold set, ceiling and demand target (R91, R64, R65, R183) -/

/-- The set that the holders hold has the members of R91. -/
theorem withholdFollows_due {s : State} (h : s.arb.withhold = s.withholdDue) : WithholdFollows s := by
  unfold WithholdFollows
  simp only [h, State.withholdDue, decide_eq_true_iff, iff_self, true_and]
  cases s.lc.state <;> simp

/-- The least of a speed and the lane ceilings of some lanes. -/
theorem least_of_ceilings (admits : Lane → Bool) (ceiling : Lane → Nat) (ls : List Lane) (c : Nat) :
    let v := ls.foldl (fun c l => if admits l then min c (ceiling l) else c) c
    v ≤ c ∧ (∀ l ∈ ls, admits l = true → v ≤ ceiling l) ∧ (v = c ∨ ∃ l, admits l = true ∧ v = ceiling l) := by
  induction ls generalizing c with
  | nil => simp
  | cons a ls ih =>
    obtain ⟨h1, h2, h3⟩ := ih (if admits a then min c (ceiling a) else c)
    simp only [List.foldl_cons, List.forall_mem_cons]
    by_cases h : admits a = true
    · simp only [if_pos h] at h1 h2 h3 ⊢
      refine ⟨le_trans h1 (min_le_left _ _), ⟨fun _ => le_trans h1 (min_le_right _ _), h2⟩, ?_⟩
      rcases h3 with k | k
      · rcases min_choice c (ceiling a) with m | m
        · exact .inl (k.trans m)
        · exact .inr ⟨a, h, k.trans m⟩
      · exact .inr k
    · simp only [if_neg h] at h1 h2 h3 ⊢
      exact ⟨h1, ⟨fun k => absurd k h, h2⟩, h3⟩

/-- The computed ceiling is the least that R65 names. -/
theorem ceilingFollows_computed {s : State} (h : s.lc.ceiling = s.lineCeiling) : CeilingFollows s := by
  have k := least_of_ceilings (fun l => (s.lane l).admitting) (fun l => laneCeiling s.set.rmax[l] (s.laneProfile l).t)
    lanes s.set.lineMax
  have t : ∀ l : Lane, (s.laneProfile l).t =
      ((s.pst.assign[l]).bind fun i => (s.pst.slots[i]).map Profile.t).getD 0 := fun l => by
    unfold State.laneProfile State.profile
    rcases s.pst.assign[l] with _ | i
    · rfl
    · show ((s.pst.slots[i]).getD Profile.zero).t = ((s.pst.slots[i]).map Profile.t).getD 0
      cases s.pst.slots[i] <;> rfl
  have admits : ∀ l, (s.lane l).admitting = true ↔
      ((s.lane l).state = .running ∨ ((s.lane l).state = .trial ∧ 0 < (s.lane l).trialLeft)) := fun l => by
    unfold LaneCtl.admitting; cases (s.lane l).state <;> simp
  have every : ∀ l : Lane, l ∈ lanes := by decide
  unfold CeilingFollows
  simp only [h, ← t, ← admits]
  exact ⟨k.1, fun l => k.2.1 l (every l), k.2.2⟩

/-- The computed demand target is that of R183's table. -/
theorem targetFollows_computed {s : State} (h : s.lc.target = s.demandTarget) : TargetFollows s := by
  unfold TargetFollows
  rw [h]
  unfold State.demandTarget
  refine ⟨?_, ?_, ?_, fun d => ?_, ?_, ?_⟩ <;>
    rcases s.lc.state <;> rcases s.sru.state <;> simp +contextual

/-- The derived values follow the rest once they are what the model computes. -/
theorem derivedHold_computed {s : State} (g : ∀ l : Lane, s.trk.closedBy[l] = s.closedBy l) (r : ReserveFollows s)
    (w : s.arb.withhold = s.withholdDue) (c : s.lc.ceiling = s.lineCeiling) (t : s.lc.target = s.demandTarget) :
    DerivedHold s :=
  ⟨fun l => ⟨g l, gateFollows_closedBy (g l)⟩, r, ⟨w, withholdFollows_due w⟩, ⟨c, ceilingFollows_computed c⟩, t,
    targetFollows_computed t⟩

end Sys2Proof.Machine
end

