-- ==== Sys2Proof/Laws/Lanes.lean ====
section
/-! SUPPORT. What a lane fault, a trial list and a retirement can do, once each, in the terms of Safety. -/

namespace Sys2Proof.Machine

/-! ### One lane, one head -/

theorem lane_onLane (k l : Lane) (f : LaneCtl → LaneCtl) (s : State) :
    (onLane l f s).lane k = if k = l then f (s.lane k) else s.lane k := by
  by_cases h : k = l
  · subst h; simp
  · simp [lane_onLane_ne f s h, h]

theorem head_onHead (k l : Lane) (f : Head → Head) (s : State) :
    (onHead l f s).head k = if k = l then f (s.head k) else s.head k := by
  by_cases h : k = l
  · subst h; simp
  · simp [head_onHead_ne f s h, h]

@[simp] theorem raise_hd (k : Kind) (x : List Byte) (s : State) : (raise k x s).hd = s.hd := rfl
@[simp] theorem raise_lane (k : Kind) (x : List Byte) (l : Lane) (s : State) :
    (raise k x s).lane l = s.lane l := rfl
@[simp] theorem raise_head (k : Kind) (x : List Byte) (l : Lane) (s : State) :
    (raise k x s).head l = s.head l := rfl
@[simp] theorem raiseLane_lane (k l : Lane) (s : State) : (raiseLane k s).lane l = s.lane l := rfl
@[simp] theorem raiseLane_head (k l : Lane) (s : State) : (raiseLane k s).head l = s.head l := rfl
@[simp] theorem raiseLane_flag (k : Lane) (j : Kind) (s : State) :
    (raiseLane k s).flag j = (s.flag j || decide (j = .laneChange)) := by simp [raiseLane]
@[simp] theorem onLane_flag (l : Lane) (f : LaneCtl → LaneCtl) (j : Kind) (s : State) :
    (onLane l f s).flag j = s.flag j := rfl
@[simp] theorem onHead_flag (l : Lane) (f : Head → Head) (j : Kind) (s : State) :
    (onHead l f s).flag j = s.flag j := rfl

@[simp] theorem servo_rate (l : Lane) (s : State) : (s.servo l).rate = (s.head l).demand := rfl
@[simp] theorem servo_guard (l : Lane) (s : State) :
    (s.servo l).guard = decide ((s.head l).blade = .parked) := rfl

/-! ### Lane faults (R79, R83) -/

/-- While narrowing is on a lane fault is taken by its lane alone. -/
theorem laneFault_taken (f : LaneFault) (sp : Bool) (l : Lane) (s : State) (h : s.set.narrowing = true) :
    FaultTaken f sp l s (laneFault f sp l s) ∧ (laneFault f sp l s).hd.heads = s.hd.heads ∧
      OtherLanesKept l s (laneFault f sp l s) ∧ SameBut { lp := true, hd := true } s (laneFault f sp l s) ∧
      ∀ k, s.flag k = true → (laneFault f sp l s).flag k = true := by
  have hn : ∀ v : State, v.set = s.set → askNarrowing v = v := by
    intro v hv; simp [askNarrowing, hv, h]
  unfold laneFault faultTo
  dsimp only
  cases hc : (s.lane l).state <;> dsimp only
  · split <;> rename_i hs
    · rw [hn _ (by rfl)]
      refine ⟨⟨?_, ?_, ?_, ?_⟩, rfl, ?_, ?_, ?_⟩ <;>
        simp_all [lane_onLane, SameBut, OtherLanesKept, LineState.spinsUp]
      cases hl : s.lc.state <;> simp_all
    · refine ⟨⟨?_, ?_, ?_, ?_⟩, rfl, ?_, ?_, ?_⟩ <;>
        simp_all [lane_onLane, SameBut, OtherLanesKept, LineState.spinsUp]
      intro a b
      have := hs a b
      cases hl : s.lc.state <;> simp_all
  · rw [hn _ (by rfl)]
    refine ⟨⟨?_, ?_, ?_, ?_⟩, rfl, ?_, ?_, ?_⟩ <;> simp_all [lane_onLane, SameBut, OtherLanesKept]
  · rw [hn _ (by rfl)]
    refine ⟨⟨?_, ?_, ?_, ?_⟩, rfl, ?_, ?_, ?_⟩ <;>
      simp_all [lane_onLane, SameBut, OtherLanesKept, satAdd, afterTrial]
  · refine ⟨⟨?_, ?_, ?_, ?_⟩, rfl, ?_, ?_, ?_⟩ <;> simp_all [lane_onLane, SameBut, OtherLanesKept]
  · refine ⟨⟨?_, ?_, ?_, ?_⟩, rfl, ?_, ?_, ?_⟩ <;> simp_all [lane_onLane, SameBut, OtherLanesKept]

/-! ### Retirements (R49, R82) -/

/-- A grant in flight that ends touches the arbiter alone. -/
theorem endFlightOf_keeps (n : Nat) (s : State) : (endFlightOf n s).trk = s.trk ∧ (endFlightOf n s).tot = s.tot ∧
    (endFlightOf n s).pst = s.pst ∧ (endFlightOf n s).tie = s.tie ∧ (endFlightOf n s).hd = s.hd := by
  unfold endFlightOf
  split
  · split <;> exact ⟨rfl, rfl, rfl, rfl, rfl⟩
  · exact ⟨rfl, rfl, rfl, rfl, rfl⟩

/-- What a retirement does says the same of any state with the same table, totals, store and tyer. -/
theorem RetiredAs.congr {r : Rec} {d : Disposition} {before : Tot} {s u v : State} (h : RetiredAs r d before s u)
    (h1 : v.trk = u.trk) (h2 : v.tot = u.tot) (h3 : v.pst = u.pst) (h4 : v.tie = u.tie) :
    RetiredAs r d before s v := by
  unfold RetiredAs at *; rw [h1, h2, h3, h4]; exact h

theorem retireQuiet_as (r : Rec) (d : Disposition) (s : State) :
    RetiredAs r d s.tot s (retireQuiet r d s) ∧ (retireQuiet r d s).hd = s.hd := by
  obtain ⟨h1, h2, h3, h4, h5⟩ := endFlightOf_keeps r.loaf
    ((removeRec r.loaf s).onTot fun t => (onTagged r.tag (·.retire r d) t).settle)
  refine ⟨⟨h1, h2, ?_, ?_⟩, h5⟩
  · exact congrArg (fun p : Pst => modAt p.refs r.slot (· - 1)) h3
  · exact congrArg (fun t : Tie => t.openReads.filter fun o => o.loaf != r.loaf) h4

theorem retireRec_as (r : Rec) (d : Disposition) (s : State) :
    RetiredAs r d s.tot s (retireRec r d s) ∧ (retireRec r d s).hd = s.hd := by
  obtain ⟨h, f⟩ := retireQuiet_as r d s
  have k : (raiseIfClosed s.tot (retireQuiet r d s)).without { lp := true } =
      (retireQuiet r d s).without { lp := true } := by simp
  exact ⟨h.congr (kept_trk k rfl) (kept_tot k rfl) (kept_pst k rfl rfl) (kept_tie k rfl), (kept_hd k rfl).trans f⟩

/-- Leaving a trial list touches its lane alone. -/
theorem offTrialList_keeps (l : Lane) (n : Nat) (s : State) :
    (offTrialList l n s).hd.heads = s.hd.heads ∧ OtherLanesKept l s (offTrialList l n s) := by
  unfold offTrialList
  dsimp only
  split
  · split
    · unfold setLaneState; split <;> exact ⟨rfl, fun k hk => by simp [lane_onLane, hk]⟩
    · exact ⟨rfl, fun k hk => by simp [lane_onLane, hk]⟩
  · exact ⟨rfl, fun _ _ => ⟨rfl, rfl⟩⟩

/-- A record on no trial list leaves the lanes as they are. -/
theorem offTrialList_of_not_mem {l : Lane} {n : Nat} {s : State} (h : n ∉ (s.lane l).trialList) :
    offTrialList l n s = s := if_neg h

/-- A record leaves its lane's trial list, and the last one ends the TRIAL (R82). -/
theorem offTrialList_leaves (l : Lane) (n : Nat) (s : State) : LeavesTrialList l n s (offTrialList l n s) := by
  obtain ⟨hk, ho⟩ := offTrialList_keeps l n s
  refine ⟨hk, ho, fun h => by rw [offTrialList_of_not_mem h], fun h hn => ?_, fun h hl => ?_⟩
  · simp only [offTrialList, if_pos h, List.isEmpty_iff, if_neg hn]
    simp
  · simp only [offTrialList, if_pos h, List.isEmpty_iff, if_pos hl]
    unfold setLaneState
    rw [if_neg (by simp [hl.2.2])]
    simp [hl.1]

/-- A retirement with its trial list (R49, R82). -/
theorem retire_as (r : Rec) (d : Disposition) (s : State) :
    RetiredAs r d s.tot s (retire r d s) ∧ (retire r d s).hd.heads = s.hd.heads ∧
      OtherLanesKept r.lane s (retire r d s) ∧
      (r.loaf ∉ (s.lane r.lane).trialList → (retire r d s).hd = s.hd) := by
  obtain ⟨h, f⟩ := retireRec_as r d s
  have k : (retire r d s).without { lp := true, hd := true } =
      (retireRec r d s).without { lp := true, hd := true } := by simp [retire]
  obtain ⟨g, o⟩ := offTrialList_keeps r.lane r.loaf (retireRec r d s)
  refine ⟨h.congr (kept_trk k rfl) (kept_tot k rfl) (kept_pst k rfl rfl) (kept_tie k rfl),
    g.trans (congrArg Hd.heads f), fun l hl => ?_, fun hr => ?_⟩
  · have := o l hl; unfold State.head State.lane at *; rw [f] at this; exact this
  · rw [retire, offTrialList_of_not_mem (by unfold State.lane at *; rwa [f]), f]

/-- A retirement LOST (R49). -/
theorem retireLost_as (r : Rec) (c : LostCause) (s : State) :
    RetiredAs r .lost s.tot s (retireLost r c s) ∧ (retireLost r c s).flag .lostLoaf = true ∧
      (retireLost r c s).hd.heads = s.hd.heads ∧ OtherLanesKept r.lane s (retireLost r c s) ∧
      (r.loaf ∉ (s.lane r.lane).trialList → (retireLost r c s).hd = s.hd) := by
  obtain ⟨h, g, o, n⟩ := retire_as r .lost s
  exact ⟨h.congr rfl rfl rfl rfl, by simp [retireLost], g, o, n⟩

end Sys2Proof.Machine
end

