-- ==== Sys2Proof/WellFormed.lean ====
section
/-! DEFINITION. Which commands can come from outside: the bounds that the manual puts on what an interface or a frame carries. -/

namespace Sys2Proof

/-- The greatest payload of a frame, in bytes (R187). -/
def payloadMax : Nat := 250

/-- The sections of the nonvolatile image (R170). -/
def imageSections : Nat := 17

/-- A payload that a frame can carry (R187). -/
def payloadFits (payload : List Byte) : Bool := decide (payload.length ≤ payloadMax)

/-- A command that its interface can bring: a weigh answer reports at most 2,000,000 mg (R140), a request's payload fits one frame (R187), an unknown kind is not in the catalogue (R191), and a store has at most its 17 sections written (R170). -/
def wellFormed : Instr → Bool
  | .powerOn _ => true
  | .lineEncoderPulse _ => true
  | .pacerAdvance _ => true
  | .bladeEncoderPulse _ => true
  | .windowEnd => true
  | .infeedLeadingEdge _ => true
  | .infeedTrailingEdge _ => true
  | .pocketArrival _ => true
  | .mergeReleaseEdge => true
  | .exitArrival => true
  | .chuteArrival => true
  | .bagOpenSignal => true
  | .estopAsserted => true
  | .estopReleased => true
  | .codeReaderAnswer _ => true
  | .weighAnswer _ load => decide (load ≤ Config.weighMax)
  | .frameReceived _ => true
  | .interbyteTimeout => true
  | .frameSent => true
  | .clockTick => true
  | .demandRamp _ => true
  | .holdoverTimerExpiry => true
  | .spinupTimerExpiry _ => true
  | .retrialTimerExpiry _ => true
  | .bagConfirmTimerExpiry => true
  | .changeoverTimerExpiry => true
  | .reindexTimerExpiry => true
  | .purgeTimerExpiry => true
  | .settleTimerExpiry => true
  | .weighTimerExpiry => true
  | .startLimitExpiry => true
  | .silenceTimerExpiry => true
  | .storeComplete _ => true
  | .unknownKindRequest kind _ p => decide (kind.toNat ∉ Machine.catalogueKinds) && payloadFits p
  | .identify _ p => payloadFits p
  | .readStatus _ p => payloadFits p
  | .setLink _ p => payloadFits p
  | .setNoticeMask _ p => payloadFits p
  | .clear _ p => payloadFits p
  | .setClock _ p => payloadFits p
  | .readClock _ p => payloadFits p
  | .putProfile _ p => payloadFits p
  | .getProfile _ p => payloadFits p
  | .setLine _ p => payloadFits p
  | .getLine _ p => payloadFits p
  | .store _ p => payloadFits p
  | .start _ p => payloadFits p
  | .stop _ p => payloadFits p
  | .halt _ p => payloadFits p
  | .clearTrack _ p => payloadFits p
  | .restart _ p => payloadFits p
  | .setSpeed _ p => payloadFits p
  | .setReference _ p => payloadFits p
  | .setLanes _ p => payloadFits p
  | .setLaneProfile _ p => payloadFits p
  | .clearLane _ p => payloadFits p
  | .loadBags _ p => payloadFits p
  | .loadClips _ p => payloadFits p
  | .setChallenge _ p => payloadFits p
  | .readCodecheck _ p => payloadFits p
  | .resetCodecheck _ p => payloadFits p
  | .purge _ p => payloadFits p
  | .readCrumb _ p => payloadFits p
  | .openShift _ p => payloadFits p
  | .closeShift _ p => payloadFits p
  | .readTotals _ p => payloadFits p
  | .readTrack _ p => payloadFits p
  | .rejectLoaf _ p => payloadFits p
  | .powerLoss written _ => decide (written ≤ imageSections)

end Sys2Proof
end

