-- ==== Sys2Proof/Tests/Slice0.lean ====
section
/-! SUPPORT. Tests: the worked cases of the manual, ill-formed commands, and for every statement states that meet its hypotheses. -/

namespace Sys2Proof.Tests

set_option Elab.async false

open Sys2Proof.Machine

/-! ### Commands that no interface can bring -/

theorem test_weigh_above_range : wellFormed (.weighAnswer .belt 2000001) = false := by decide
theorem test_payload_too_long : wellFormed (.store 0 (List.replicate 251 0)) = false := by decide +kernel
theorem test_catalogue_kind_is_known : wellFormed (.unknownKindRequest 0x24 0 []) = false := by decide
theorem test_too_many_sections : wellFormed (.powerLoss 18 false) = false := by decide
theorem test_wellFormed_bounds : wellFormed (.weighAnswer .belt 2000000) = true ∧
    wellFormed (.store 0 (List.replicate 250 0)) = true ∧ wellFormed (.unknownKindRequest 0x80 0 []) = true ∧
    wellFormed (.powerLoss 17 true) = true := by decide +kernel

/-! ### Worked cases of the manual -/

/-- R187: the CRC of "123456789". -/
theorem test_crc : crc16 [0x31, 0x32, 0x33, 0x34, 0x35, 0x36, 0x37, 0x38, 0x39] = 0x29B1 := by decide +kernel

/-- Section 1.1: qualification and both runs after each of the 17 windows. -/
theorem test_window_case :
    (([163, 158, 150, 161, 140, 160, 162, 157, 159, 140, 150, 141, 138, 164, 130, 0, 0].foldl
      (fun (x : Monitor × List (Bool × Nat × Nat)) c =>
        let m := { x.1 with count := c }.windowEnd LineSettings.default 160
        (m, x.2 ++ [(m.qualified, m.acceptRun, m.rejectRun)])) (Monitor.fresh, [])).2 : List (Bool × Nat × Nat)) =
    [(false, 1, 0), (false, 2, 0), (false, 2, 0), (false, 3, 0), (false, 0, 0), (false, 1, 0), (false, 2, 0),
      (false, 3, 0), (true, 0, 0), (true, 0, 1), (true, 0, 1), (true, 0, 1), (true, 0, 2), (true, 0, 0),
      (true, 0, 1), (true, 0, 2), (false, 0, 0)] := by decide +kernel

/-- Section 1.1 and R8: the nominal count and the estimate after window 9. -/
theorem test_nominal_and_estimate : lineNominal 4000 20 20000 = 160 ∧ increment 20000 = 32768 ∧
    { Sru.powerOn 20 32768 16384 with
      w := ⟨Monitor.fresh, [158, 150, 161, 140, 160, 162, 157, 159].map fun n => ⟨n, 20⟩⟩ }.mean .w = 3896 := by
  decide +kernel

/-- R11 (log entry 40): 160 counts of half a track unit in 20 ms and 400 in 50 ms are both 4000 tu/s, and so is their mean. -/
theorem test_estimate_of_two_lengths : { Sru.powerOn 50 32768 16384 with
    w := ⟨Monitor.fresh, [⟨160, 20⟩, ⟨400, 50⟩]⟩ }.mean .w = 4000 := by decide +kernel

/-- Section 1.4: the worked slip case disagrees. -/
theorem test_slip_case : slipDisagrees 40304640 41943040 3 = true ∧ slipDisagrees 41943040 41943040 3 = false := by decide

/-- Sandwich white (section 3.9): slot 3, T 125, E 60, 2200 to 2900 tu, 10 to 24 slices, crumb 35. -/
def white : Profile := ⟨1041, [0x57, 0x48, 0x49, 0x54, 0x45], 125, 60, 2200, 2900, 10, 24, 35, 5, 1⟩

/-- High-crumb rye (section 3.11). -/
def rye : Profile := ⟨2207, [0x52, 0x59, 0x45], 90, 40, 1600, 2400, 20, 30, 60, 7, 2⟩

/-- Sections 3.9 and 3.10: the counts, the pitches, the offsets, the shares, the lane ceiling. -/
theorem test_white_plan : rateCheck white 2530 40 4000 = some (19, false) ∧
    rateCheck white 2530 40 5200 = some (18, true) ∧ (planOf white 2530 (19, false)).p256 = 32471 ∧
    (planOf white 2530 (18, true)).p256 = 34275 ∧
    [0, 1, 7, 13, 19].map (cutOffset white 2530 19) = [60, 186, 947, 1708, 2470] ∧
    headShare 20 35 64 = 700 ∧ mergeShare 700 = 87 ∧ laneCeiling 40 125 = 4687 := by decide +kernel

/-- Section 3.11: classes and plans at the edges of a profile. -/
theorem test_rye_edges : [1550, 2700, 3350, 1745].map (classify rye) = [.short, .long, .tailgate, .normal] ∧
    [1745, 1700, 1620].map (fun n => rateCheck rye n 40 3375) = [some (19, false), some (18, false), some (18, false)] ∧
    [1620, 2350].map (fun n => rateCheck rye n 40 3500) = [none, some (25, false)] := by decide +kernel

/-- Section 6.3: the code of loaf 10,482, before and at the day boundary, with its challenge code. -/
theorem test_codes :
    let code := fun days secs shelf digit =>
      let d := bestBefore (days * 86400 + secs) 300 shelf
      codeText d.day d.month 0x43 digit
    code 11380 13200 5 2 = [0x30, 0x33, 0x20, 0x30, 0x33, 0x20, 0x43, 0x32] ∧
    challengeCode (code 11380 13200 5 2) = [0x31, 0x33, 0x20, 0x30, 0x33, 0x20, 0x43, 0x32] ∧
    code 11380 18000 5 2 = [0x30, 0x34, 0x20, 0x30, 0x33, 0x20, 0x43, 0x32] ∧
    code 11744 36000 3 1 = [0x32, 0x39, 0x20, 0x30, 0x32, 0x20, 0x43, 0x31] ∧
    code 11686 7200 7 1 = [0x30, 0x35, 0x20, 0x30, 0x31, 0x20, 0x43, 0x31] := by decide +kernel

/-- Sections 7.7 and 7.8: corrections and the model check. -/
theorem test_corrections : corrected 64 41200 (some 29800) = 46 ∧ corrected 64 22600 (some 24800) = 70 ∧
    corrected 64 41200 (some 0) = 32 ∧ modelDisagrees 40 41200 (some 29800) = false ∧
    modelDisagrees 40 41200 (some 0) = true ∧ modelDisagrees 40 10050 (some 9300) = false := by decide +kernel

/-- Section 11.6: the settings set has 154 bytes and a profile 28; R168: the defaults are valid settings. -/
theorem test_layout_lengths : (settingsBytes LineSettings.default).length = 154 ∧
    (profileBytes (some white)).length = 28 ∧ (profileBytes none).length = 28 ∧
    settingsValid LineSettings.default = true ∧ profileValid white = true ∧ profileValid rye = true := by decide +kernel

/-! ### States of a line at work -/

/-- A qualified monitor with a count. -/
def qualified (n : Nat) : Monitor := ⟨true, 0, 0, n⟩

/-- The line RUNNING on W at 4000 tu/s, every lane on white, shift 1 OPEN, supplies loaded, the transmitter idle. -/
def running : State :=
  let s := State.reset
  evaluateGates (refresh { s with
    lp := { Lp.powerOn with flags := 0 }
    sru := { s.sru with
      w := ⟨qualified 160, List.replicate 8 ⟨160, 20⟩⟩, m := ⟨qualified 320, List.replicate 8 ⟨320, 20⟩⟩
      selected := .encoder .w, state := .track, pos := 1000 * 65536, estimate := 4000 }
    lc := { s.lc with state := .running, setSpeed := 4000, demand := 4000, silence := some 10000 }
    hd := ⟨Vector.replicate 4 ⟨.running, qualified 12, 1536, none⟩,
      Vector.replicate 4 ⟨.running, true, 0, [], false, 0, none, none⟩⟩
    bag := ⟨500, .ready, 0, none, none, false⟩
    tie := { s.tie with supply := 5000, state := .ready }
    tot := ⟨some (Shift.fresh 1 2 7), none, none⟩
    pst := { s.pst with
      slots := putAt s.pst.slots 3 (some white), assign := Vector.replicate 4 (some 3)
      clock := 983331600, clockValid := true }
    nv := { s.nv with seqCell := some 2 } })

/-- The shift of `running`. -/
def shift : Shift := Shift.fresh 1 2 7

/-- A record of lane 2 with slot 3 and tag 1, as admitted. -/
def loaf (n : Nat) : Rec :=
  ⟨n, 2, 3, 1, 1, 900 * 65536, none, none, none, 0, false, none, 0, none, none, none, none, false, none, [],
    false, false, none, .measuring⟩

/-- A record past the merge. -/
def merged (n : Nat) (st : RecState) : Rec :=
  { loaf n with
    length := some 2530, cls := some .normal, plan := some ⟨19, 32471, false⟩, cutsDone := 20
    pocket := some (800 * 65536), mergeLead := some (500 * 65536), seq := some n, state := st }

/-- A decided record whose exit window holds the position: merge lead 500, distances 500. -/
def decided (d : Decision) (late : Bool) : Rec :=
  { merged 5 .decided with decision := some d, late := late }

/-- Records put into the table, counted as admitted to the shift. -/
def withTable (lane2 post : List Rec) (s : State) : State :=
  let n := lane2.length + post.length
  let sh := { shift with
    inTable := n
    perLane := modAt shift.perLane 2 fun c => { c with admitted := n } }
  { s with
    trk := { s.trk with queues := putAt s.trk.queues 2 lane2, post := post, nextLoaf := 100 }
    tot := { s.tot with opened := s.tot.opened.map fun _ => sh }
    pst := { s.pst with refs := putAt s.pst.refs 3 n } }

/-- A change of the line settings in force. -/
def withSet (f : LineSettings → LineSettings) (s : State) : State :=
  { s with pst := { s.pst with settings := f s.pst.settings } }

/-- A change of the line state. -/
def inLine (st : LineState) (s : State) : State := { s with lc := { s.lc with state := st } }

/-- A request in hand. -/
def asked (kind : Byte) (payload : List Byte) (s : State) : State :=
  { s with lp := { s.lp with hand := some ⟨kind, 9, payload⟩ } }

/-- A command waiting. -/
def given (c : Instr) (s : State) : State := { s with pending := [c] }

/-- A state with one record in each place past its head. -/
def busy : State := withTable [loaf 3] [merged 1 .merged, merged 2 .tied] running

/-- A request put into the hand of a part with power is being handled. -/
theorem asked_handling (k : Byte) (p : List Byte) (s : State) (h : s.powered = true) (hr : s.lp.reply = none) :
    Handling ⟨k, 9, p⟩ (asked k p s) := ⟨h, rfl, hr⟩

theorem test_running_gates : (∀ l, running.gateOpen l = true) ∧ running.lc.ceiling = 4687 ∧
    running.lc.target = 4000 ∧ running.arb.withhold.isEmpty = true := by decide +kernel

/-! ### Every statement's hypotheses are met -/

theorem running_on : running.powered = true ∧ running.lp.reply = none := by decide +kernel

/-- The position moved. -/
def at_ (p : Nat) (s : State) : State := { s with sru := { s.sru with pos := p } }

/-- A handled request on a state that has `running`'s power and link. -/
theorem handled (k : Byte) (p : List Byte) (s : State) (h : s.powered = running.powered)
    (hr : s.lp.reply = running.lp.reply) : Handling ⟨k, 9, p⟩ (asked k p s) :=
  asked_handling k p s (h.trans running_on.1) (hr.trans running_on.2)

theorem meets_StepRunsTheFrontCommand : (given .clockTick running).pending = [.clockTick] ∧
    State.reset.pending = [] ∧ State.reset.powered = true ∧ (State.off Nonvolatile.blank []).pending = [] ∧
    (State.off Nonvolatile.blank []).powered = false := by decide +kernel

theorem meets_EveryCommandCompletes : (State.off Nonvolatile.blank []).powered = false ∧ running.powered = true :=
  ⟨rfl, running_on.1⟩

/-- An image with a good settings section, a good slot, an empty slot and a slot with an invalid profile. -/
def image : Nonvolatile where
  settings := .good (LineSettings.default, Vector.replicate 4 (some 0))
  slots := (((Vector.replicate 16 Section.bad).set 0 (.good (some white))).set 1 (.good none)).set 15
    (.good (some { white with t := 59 }))
  lossCell := some 3
  seqCell := some 41

theorem meets_PowerOnLeavesResetValues :
    image.settings = .good (LineSettings.default, Vector.replicate 4 (some 0)) ∧
    settingsValid LineSettings.default = true ∧ image.slots[0] = .good (some white) ∧ profileValid white = true ∧
    image.slots[1] = .good none ∧ image.slots[2] = .bad ∧ image.slots[15] = .good (some { white with t := 59 }) ∧
    profileValid { white with t := 59 } = false ∧ Nonvolatile.blank.settings = .bad := by decide +kernel

theorem meets_PowerOnAnswers : ∃ t, exec (.powerOn true) { State.reset with nv := image } = .next t := ⟨_, rfl⟩

/-- `busy` with a command waiting meets every condition that steps keep. -/
theorem meets_RangesKept : RangesHold (given .windowEnd busy) := by unfold RangesHold; decide +kernel
theorem meets_TableKept : TableHolds (given .chuteArrival busy) := by unfold TableHolds; decide +kernel
theorem meets_NextLoafFree : NextLoafFree (given .chuteArrival busy) := by unfold NextLoafFree; decide +kernel
/-- An OPEN shift alone, with the records counted in it. -/
theorem accounts_opened (s : State) (h0 : (s.records.map Rec.loaf).Nodup)
    (h : ∃ sh, s.tot.opened = some sh ∧ s.tot.closing = none ∧ s.tot.closed = none ∧
      (∀ r ∈ s.records, sh.seq = r.tag) ∧ sh.inTable = (s.records.filter fun r => r.tag == sh.seq).length ∧
      (∀ l : Lane, sh.perLane[l].admitted =
        (s.records.filter fun r => r.tag == sh.seq && r.lane == l).length + sh.perLane[l].ended) ∧
      s.nextShiftSeq = nextSeqAfter sh.seq) : AccountsHold s := by
  obtain ⟨sh, h1, h2, h3, h4, h5, h6, h7⟩ := h
  refine ⟨h0, fun r hr => ⟨sh, .inl h1, h4 r hr⟩, fun x hx => ?_, fun x hx => ?_, fun x hx => ?_,
    fun x hx => ?_, fun x y hx => ?_⟩
  · obtain rfl := Option.some.inj (h1.symm.trans hx); exact ⟨⟨h5, fun l _ => h6 l⟩, h7⟩
  · exact absurd (h2.symm.trans hx) nofun
  · exact absurd (h3.symm.trans hx) nofun
  · exact absurd (h2.symm.trans hx) nofun
  · exact absurd (h2.symm.trans hx) nofun
theorem meets_AccountsKept : AccountsHold (given .chuteArrival busy) :=
  accounts_opened _ (by decide +kernel) ⟨busy.tot.opened.getD shift, by decide +kernel⟩
theorem meets_DecisionsKept : DecisionsHold (given .exitArrival (withTable [] [decided .pass false] running)) ∧
    DecisionsHold (given .exitArrival (withTable [] [{ decided .pass true with reasons := [.operator] }] running)) := by
  unfold DecisionsHold; decide +kernel
/-- One state that meets the four conditions together. -/
theorem meets_DecisionsKept_together : let s := given .exitArrival (withTable [] [decided .pass false] running)
    TableHolds s ∧ NextLoafFree s ∧ AccountsHold s ∧ DecisionsHold s :=
  ⟨by unfold TableHolds; decide +kernel, by unfold NextLoafFree; decide +kernel,
    accounts_opened _ (by decide +kernel)
      ⟨(withTable [] [decided .pass false] running).tot.opened.getD shift, by decide +kernel⟩,
    meets_DecisionsKept.1⟩
theorem meets_LineKept : LineHolds (given .windowEnd busy) := by unfold LineHolds; decide +kernel
theorem meets_DerivedKept : DerivedHold (given .windowEnd running) :=
  derivedHold_computed (by decide +kernel) (by unfold ReserveFollows; decide +kernel) (by decide +kernel)
    (by decide +kernel) (by decide +kernel)

/-- R34: with four lanes admitting a gate needs 5 free records. -/
theorem test_table_reserve : let s := fun n => evaluateGates (withTable [] (List.replicate n (merged 1 .tied)) running)
    (s 91).trk.reserveHeld = false ∧ (s 92).trk.reserveHeld = true ∧ (s 92).flag .tableReserve = true ∧
    running.trk.reserveHeld = false ∧ (s 92).trk.closedBy[(0 : Lane)] = 0x20 := by decide +kernel
theorem meets_LinkKept : LinkHolds (given .frameSent State.reset) := by unfold LinkHolds; decide +kernel
/-- A purge of head 2 before its before-reading. -/
def purging : State := { running with crm := { running.crm with
  queue := [⟨.head 2, .soft⟩], state := .purging, cycle := some ⟨.head 2, 22600, none, none⟩, weigh := some 200 } }
theorem meets_PurgesKept : PurgesHold (given (.weighAnswer (.head 2) 25400) purging) := by
  refine ⟨by decide +kernel, by decide +kernel, fun _ => ⟨_, rfl, by decide +kernel⟩, by decide +kernel⟩
theorem meets_StoreKept : StoreHolds (given .clockTick running) := by
  refine ⟨by decide +kernel, fun i p h => ?_, by decide +kernel⟩
  have k : ∀ i : Slot, (running.pst.slots[i]).all profileValid = true := by decide +kernel
  simpa [show running.pst.slots[i] = some p from h] using k i
theorem meets_steps_answer : ∃ t, step (given .chuteArrival busy) = .next t := ⟨_, rfl⟩

/-- Half a track unit before the bag station of a record. -/
def atBag : State := at_ (2500 * 65536 - 32768) (withTable [] [merged 1 .merged] running)

theorem meets_PulsesMoveThePosition : running.powered = true ∧ running.pos ≤ Config.posMax ∧
    running.sru.selected = .encoder .w ∧ running.sru.state ≠ .idle ∧ running.sru.selected ≠ .encoder .m ∧
    State.reset.sru.state = .idle ∧ running.pos + running.sru.inc .w < Config.posMax ∧
    (∀ e ∈ running.stations running.pos, running.pos + running.sru.inc .w < e.1) ∧
    State.reset.sru.selected = .pacer := by decide +kernel

theorem meets_PulsesMoveThePosition_pacer : let s := { running with sru := { running.sru with selected := .pacer } }
    s.powered = true ∧ s.sru.selected = .pacer ∧ s.sru.state ≠ .idle := by decide +kernel

/-- A pulse, and a millisecond of a pacer at 4000 tu/s, that reach the bag station alone. -/
theorem meets_PulsesMoveThePosition_station :
    let paced := { atBag with sru := { atBag.sru with selected := .pacer, pacerSpeed := 4000, pacerCarry := 0 } }
    atBag.sru.inc .w = 32768 ∧ (4000 * 65536 * 1 + 0) / 1000 = 262144 ∧
    ∀ p ∈ [(atBag, 32768), (paced, 262144)],
      let m := at_ (p.1.pos + p.2) p.1
      p.1.pos < m.pos ∧ m.pos < Config.posMax ∧
      firstStation (m.stations p.1.pos) = some (2500 * 65536, .bag (merged 1 .merged)) ∧ 2500 * 65536 ≤ m.pos ∧
      let n := settle m (max p.1.pos (2500 * 65536)) (takeStation (.bag (merged 1 .merged)) m)
      ∀ e ∈ n.stations (max p.1.pos (2500 * 65536)), n.pos < e.1 := by decide +kernel

/-- One unit before the greatest position. -/
theorem meets_PulsesMoveThePosition_limit : let s := at_ (Config.posMax - 1) running
    s.pos ≤ Config.posMax ∧ s.pos < min Config.posMax (s.pos + s.sru.inc .w) ∧
    min Config.posMax (s.pos + s.sru.inc .w) = Config.posMax ∧
    (∀ e ∈ (at_ Config.posMax s).stations s.pos, Config.posMax < e.1) ∧ s.lc.state = .running := by decide +kernel

theorem meets_CountsAndRamps : running.powered = true ∧ running.isConfigured 3 = true ∧
    (withSet (fun x => { x with configured := 3 }) running).isConfigured 3 = false := by decide +kernel

theorem meets_WindowEndClasses : running.powered = true ∧ running.sru.w.history.length = 8 ∧
    running.sru.m.history.length ≤ 8 ∧ State.reset.sru.w.history.length = 0 := by decide +kernel

/-- The sources that R13 chooses with W lost and with both lost, and blades about to qualify and to fault. -/
theorem meets_WindowEndClasses_narrowing :
    let lost := { running with sru := { running.sru with w := LineMonitor.fresh } }
    let both := { lost with sru := { lost.sru with m := LineMonitor.fresh } }
    let spun := onHead 1 (fun h => { h with blade := .spinup, mon := ⟨false, 3, 0, 12⟩ }) running
    let dead := onHead 2 (fun h => { h with mon := ⟨true, 0, 2, 0⟩ }) busy
    running.set.narrowing = true ∧ running.sru.choose = some .w ∧ lost.sru.choose = some .m ∧
    both.sru.choose = none ∧ both.sru.state = .track ∧ both.set.narrowing = true ∧
    ((classAll spun).head 1).mon.qualified = true ∧ (spun.head 1).blade = .spinup ∧
    ((classAll dead).head 2).mon.qualified = false ∧ (dead.head 2).blade = .running ∧
    (dead.head 2).mon.qualified = true ∧ (∀ k, ∀ r ∈ running.queue k, r.lane = k) ∧
    (∀ k, ∀ r ∈ dead.queue k, r.lane = k) := by decide +kernel

/-- A blade that faults with a record in SLICING, whose shares bring its head to the hard limit. -/
theorem meets_WindowEndClasses_cut :
    let r := { loaf 3 with length := some 2530, plan := some ⟨19, 32471, false⟩, cutsDone := 5, state := .slicing }
    let s := onHead 2 (fun h => { h with mon := ⟨true, 0, 2, 0⟩ })
      (onCrumb 2 (fun h => { h with estimate := 3999900 }) (withTable [r] [] running))
    let u := bladeFault 2 (classAll s)
    (∀ k, ∀ r ∈ s.queue k, r.lane = k) ∧ ((classAll s).head 2).mon.qualified = false ∧
    (s.queue 2).find? (fun r => r.state == .slicing) = some r ∧ r.slicingEnded = false ∧
    u.crm.queue = [⟨.head 2, .forced⟩] ∧ u.flag .crumbForced = true := by decide +kernel

theorem meets_ClockRequests : let p := leBytes 4 3155759999; let q := leBytes 4 3155760000
    Handling ⟨0x10, 9, p⟩ (asked 0x10 p running) ∧ Handling ⟨0x10, 9, q⟩ (asked 0x10 q running) ∧
    Handling ⟨0x11, 9, []⟩ (asked 0x11 [] running) ∧ p.length = 4 ∧ q.length = 4 ∧ leNat p ≤ Config.clockMax ∧
    Config.clockMax < leNat q ∧ (asked 0x11 [] running).pst.clock ≤ Config.clockMax :=
  ⟨handled _ _ _ rfl rfl, handled _ _ _ rfl rfl, handled _ _ _ rfl rfl, by decide +kernel⟩

theorem meets_InfeedLeadingEdge : running.powered = true ∧
    (withSet (fun x => { x with configured := 3 }) running).isConfigured 3 = false ∧
    running.isConfigured 3 = true ∧ running.gateOpen 3 = true ∧ running.tableCount < 96 ∧
    running.tot.opened = some shift ∧ running.pst.assign[(3 : Lane)] = some 3 ∧
    State.reset.isConfigured 0 = true ∧ State.reset.gateOpen 0 = false ∧ State.reset.tot.opened = none ∧
    State.reset.set.narrowing = true ∧
    96 ≤ (withTable (List.replicate 96 (loaf 1)) [] running).tableCount := by decide +kernel

/-- Narrowing switched off. -/
def unnarrowed (s : State) : State := withSet (fun x => { x with narrowing := false }) s

/-- With narrowing off: the blade of a lane in service faults on a RUNNING line, and on a STARTING one over an empty table, at a window end that also loses track; and a blade out of service alone. -/
theorem meets_WindowEndClasses_off :
    let dead := unnarrowed (onHead 2 (fun h => { h with mon := ⟨true, 0, 2, 0⟩ }) running)
    let s := { dead with sru := { dead.sru with w := LineMonitor.fresh, m := LineMonitor.fresh } }
    let i := onLane 2 (fun c => { c with state := .down }) s
    (∀ k, ∀ r ∈ s.queue k, r.lane = k) ∧ s.set.narrowing = false ∧ s.lc.state = .running ∧ s.tableCount = 0 ∧
    (inLine .starting s).lc.state = .starting ∧ (s.head 2).blade = .running ∧ (s.head 2).mon.qualified = true ∧
    ((classAll s).head 2).mon.qualified = false ∧ (s.lane 2).state = .running ∧ (i.lane 2).state = .down ∧
    s.sru.state = .track ∧ s.sru.choose = none ∧ s.set.holdoverMs ≠ 0 ∧
    (withSet (fun x => { x with holdoverMs := 0 }) s).set.holdoverMs = 0 ∧ s.tot.opened = some shift := by
  decide +kernel

/-- With narrowing off: a lane in service of a RUNNING line, of a STARTING line over an empty table, and an idle lane. -/
theorem meets_InfeedLeadingEdge_off :
    let s := unnarrowed { running with tot := ⟨none, none, none⟩ }
    s.powered = true ∧ s.isConfigured 2 = true ∧ s.tot.opened = none ∧ s.set.narrowing = false ∧
    s.lc.state = .running ∧ (s.lane 2).state = .running ∧ (inLine .starting s).lc.state = .starting ∧
    (inLine .starting s).tableCount = 0 ∧ (unnarrowed State.reset).set.narrowing = false ∧
    (State.reset.lane 0).state = .idle := by decide +kernel

theorem meets_InfeedTrailingEdge : let s := withTable [loaf 3] [] running
    s.powered = true ∧ running.isConfigured 2 = true ∧ (∀ r ∈ running.queue 2, r.state ≠ .measuring) ∧
    (s.queue 2).find? (fun r => r.state == .measuring) = some (loaf 3) ∧ s.find 3 = some (loaf 3) := by
  decide +kernel

theorem meets_InfeedTrailingEdge_blocked : let s := withTable [loaf 3] [] running
    s.find (loaf 3).loaf = some (loaf 3) ∧ (loaf 3).state = .measuring ∧ s.set.narrowing = true ∧
    (unnarrowed s).find (loaf 3).loaf = some (loaf 3) ∧ (unnarrowed s).set.narrowing = false := by decide +kernel

theorem meets_PlansFit : profileValid white = true ∧ white.lmin ≤ 2200 ∧ 2900 ≤ white.lmax ∧
    rateCheck white 2200 40 0 = some (17, false) ∧ rateCheck white 2900 40 5200 = some (21, true) := by decide +kernel

theorem meets_PocketAndReleaseEyes :
    let q := { loaf 3 with state := .queued }
    let s := withTable [q] [] running
    let m := { merged 4 .merged with mergeLead := some (700 * 65536) }
    let g := (withTable [] [m] running).onArb fun a => { a with flight := some ⟨4, 2⟩ }
    s.powered = true ∧ s.isConfigured 2 = true ∧ s.find 3 = some q ∧
    (s.queue 2).find? (fun r => r.state == .queued && r.pocket.isNone) = some q ∧
    (∀ r ∈ running.queue 2, r.state = .queued → r.pocket.isSome = true) ∧ running.set.narrowing = true ∧
    g.arb.flight = some ⟨4, 2⟩ ∧ g.find 4 = some m ∧ g.pos = 700 * 65536 + g.set.releaseWindow * 65536 ∧
    running.arb.flight = none ∧ (inLine .halted { running with tot := ⟨none, some shift, none⟩ }).tot.opened = none := by
  decide +kernel

/-- A record past its pocket deadline, on a trial list and on none, and a grant in flight at its first and at its third retraction. -/
theorem meets_PocketAndReleaseEyes_late :
    let q := { loaf 3 with state := .queued }
    let m := fun n => { merged 4 .merged with mergeLead := some (700 * 65536), retries := n }
    let g := fun n => (withTable [] [m n] running).onArb fun a => { a with flight := some ⟨4, 2⟩ }
    let t := onLane 2 (fun c => { c with state := .trial, trialList := [3, 4] })
    q.state = .queued ∧ q.pocket = none ∧ q.loaf ∉ ((withTable [q] [] running).lane q.lane).trialList ∧
    q.loaf ∈ ((t (withTable [q] [] running)).lane q.lane).trialList ∧ 4 ∈ ((t (g 2)).lane (m 2).lane).trialList ∧
    (withTable [q] [] running).set.narrowing = true ∧ (unnarrowed running).set.narrowing = false ∧
    (∀ n, n < 3 → (m n).state = .merged ∧ (g n).arb.flight = some ⟨(m n).loaf, (m n).lane⟩ ∧
      (m n).mergeLead = some (700 * 65536) ∧ (m n).loaf ∉ ((g n).lane (m n).lane).trialList ∧
      (g n).set.narrowing = true) ∧ (m 1).retries < 2 ∧ 2 ≤ (m 2).retries := by decide +kernel

/-- A decided record at the ends of its exit and chute windows (merge lead 500, tolerance 150). -/
theorem meets_ExitAndChute :
    let s := fun (x : Decision) (late : Bool) (p : Nat) => at_ (p * 65536) (withTable [] [decided x late] running)
    (s .pass false 11350).oldestIn .pass 11000 = some (decided .pass false) ∧
    (s .pass true 11650).oldestIn .pass 11000 = some (decided .pass true) ∧
    (s .divert false 11350).oldestIn .pass 11000 = none ∧
    (s .divert false 11350).oldestIn .divert 11000 = some (decided .divert false) ∧
    (s .pass false 11651).oldestIn .pass 11000 = none ∧ (s .pass false 11651).oldestIn .divert 11000 = none ∧
    (s .divert false 11150).oldestIn .divert 10500 = some (decided .divert false) ∧
    (s .divert false 11151).oldestIn .divert 10500 = none ∧
    running.set.dExit = 11000 ∧ running.set.dChute = 10500 ∧ running.powered = true ∧
    { running with tot := ⟨none, some shift, none⟩ }.oldestIn .pass 11000 = none ∧
    { running with tot := ⟨none, some shift, none⟩ }.tot.closing = some shift := by decide +kernel

theorem meets_ExitAndChute_passed : (∀ d, (decided d false).state = .decided) ∧
    max running.set.dExit running.set.dChute = 11000 := ⟨fun _ => rfl, by decide +kernel⟩

/-- R46, R156: the divert fail of a CLOSING shift's last record is counted in that shift, which the retirement then closes. -/
theorem test_divert_fail_of_last_record :
    let s := at_ (11350 * 65536) (withTable [] [decided .divert false] running)
    let t := { s with tot := ⟨none, s.tot.opened, none⟩ }
    let u := divertFail (decided .divert false) t
    u.tot.closing = none ∧ u.tot.closed.map (fun sh => (sh.seq, sh.divertFails, sh.inTable)) = some (1, 1, 0) ∧
      u.flag .divertFail = true := by decide +kernel

theorem meets_RejectLoaf : let p := leBytes 4 1; let q := leBytes 4 4294967295
    Handling ⟨0x71, 9, p⟩ (asked 0x71 p busy) ∧ Handling ⟨0x71, 9, q⟩ (asked 0x71 q busy) ∧ p.length = 4 ∧
    busy.find (leNat p) = some (merged 1 .merged) ∧ busy.find (leNat q) = none :=
  ⟨handled _ _ _ rfl rfl, handled _ _ _ rfl rfl, by decide +kernel⟩

theorem meets_DecisionPoint : busy.find (merged 2 .tied).loaf = some (merged 2 .tied) ∧
    (withTable [] [merged 2 .checked] running).find 2 = some (merged 2 .checked) := by decide +kernel

theorem meets_CutsAtTheirPositions :
    let r := { loaf 3 with length := some 2530, plan := some ⟨19, 32471, false⟩, state := .planned }
    let q := { r with cutsDone := 19, state := .slicing }
    let s := withTable [r] [] running
    let f := onHead 2 (fun h => { h with blade := .fault })
    s.find 3 = some r ∧ r.plan = some ⟨19, 32471, false⟩ ∧ (s.head 2).blade = .running ∧ r.cutsDone < 19 ∧
    (withTable [q] [] running).find 3 = some q ∧ 19 ≤ q.cutsDone ∧ ((f s).head 2).blade ≠ .running ∧
    (f s).find 3 = some r ∧ (f (withTable [q] [] running)).find 3 = some q ∧
    q.loaf ∈ ((onLane 2 (fun c => { c with trialList := [3] }) (withTable [q] [] running)).lane q.lane).trialList := by
  decide +kernel

/-- Records clear of their head without being cut whole; the second is the last of a trial. -/
theorem meets_CutsAtTheirPositions_clear :
    let r := { loaf 3 with length := some 2530, state := .planned }
    let q := { r with plan := some ⟨19, 32471, false⟩, cutsDone := 5, state := .slicing, slicingEnded := true }
    let t := onLane 2 (fun c => { c with state := .trial, trialList := [3] }) (withTable [q] [] running)
    (withTable [r] [] running).find r.loaf = some r ∧ r.plan = none ∧ t.find q.loaf = some q ∧
    q.state = .slicing ∧ q.slicingEnded = true ∧ q.loaf ∈ (t.lane 2).trialList ∧
    (t.lane 2).trialLeft = 0 ∧ q.loaf ∉ (running.lane 2).trialList := by decide +kernel

theorem meets_ClearTrack : Handling ⟨0x23, 9, []⟩ (asked 0x23 [] busy) ∧
    Handling ⟨0x23, 9, []⟩ (asked 0x23 [] (inLine .ready busy)) ∧
    Handling ⟨0x23, 9, []⟩ (asked 0x23 [] (inLine .halted busy)) ∧ busy.lc.state = .running :=
  ⟨handled _ _ _ rfl rfl, handled _ _ _ rfl rfl, handled _ _ _ rfl rfl, by decide +kernel⟩

theorem meets_BagAndTieStations : let r := { merged 1 .bagged with bagResult := some .bagged }
    let s := withTable [] [r] running
    busy.find 1 = some (merged 1 .merged) ∧ busy.bag.state = .ready ∧ (merged 1 .merged).state = .merged ∧
    (busy.onBag fun b => { b with state := .down }).bag.state ≠ .ready ∧
    s.find 1 = some r ∧ s.tie.state = .ready ∧
    (s.onTie fun t => { t with state := .empty }).tie.state = .empty ∧
    (merged 1 .merged).bagResult = none ∧ busy.arb.flight = none ∧ busy.bag.attempt = none := by decide +kernel

/-- A supply that an attempt or a stroke brings below its threshold, and the code of a stroke. -/
theorem meets_BagAndTieStations_low : let b := busy.onBag fun b => { b with supply := busy.set.bagsLow }
    let c := busy.onTie fun t => { t with supply := busy.set.clipsLow }
    b.set.bagsLow ≤ b.bag.supply ∧ b.bag.supply - 1 < b.set.bagsLow ∧ c.tie.supply - 1 < c.set.clipsLow ∧
    busy.pst.clock ≤ Config.clockMax ∧ (busy.profile (merged 1 .merged).slot).shelf ≤ 60 ∧
    busy.tot.opened.map Shift.seq = some (merged 1 .merged).tag := by decide +kernel

/-- A bag attempt in progress. -/
def bagging (n supply misses : Nat) : State :=
  busy.onBag fun _ => ⟨supply, .cycle, misses, some ⟨1, n⟩, some 300, true⟩

theorem meets_BagAttemptsEnd : busy.powered = true ∧ busy.bag.attempt = none ∧ busy.bag.confirm = none ∧
    (bagging 1 5 0).bag.attempt = some ⟨1, 1⟩ ∧ (bagging 1 5 0).bag.confirm.isSome = true ∧
    (bagging 1 5 0).find 1 = some (merged 1 .merged) ∧ (0 < (bagging 1 5 0).bag.supply) ∧
    (bagging 1 0 0).bag.supply = 0 ∧ (bagging 2 5 2).bag.attempt = some ⟨1, 2⟩ ∧
    busy.set.missLimit = (bagging 2 5 2).bag.misses + 1 ∧
    (bagging 2 5 1).bag.misses + 1 < busy.set.missLimit := by decide +kernel

theorem meets_LoadBags : let p := leBytes 2 9999; let q := leBytes 2 10000; let z := leBytes 2 0
    Handling ⟨0x40, 9, p⟩ (asked 0x40 p running) ∧ Handling ⟨0x40, 9, q⟩ (asked 0x40 q running) ∧
    Handling ⟨0x40, 9, z⟩ (asked 0x40 z running) ∧ p.length = 2 ∧ q.length = 2 ∧ z.length = 2 ∧
    9999 < leNat q ∧ leNat p = 9999 ∧ running.set.bagsLow ≤ running.bag.supply ∧ leNat z < running.set.bagsLow :=
  ⟨handled _ _ _ rfl rfl, handled _ _ _ rfl rfl, handled _ _ _ rfl rfl, by decide +kernel⟩

theorem meets_LoadClips : let p := leBytes 2 20000; let q := leBytes 2 20001; let z := leBytes 2 0
    Handling ⟨0x41, 9, p⟩ (asked 0x41 p running) ∧ Handling ⟨0x41, 9, q⟩ (asked 0x41 q running) ∧
    Handling ⟨0x41, 9, z⟩ (asked 0x41 z running) ∧ p.length = 2 ∧ q.length = 2 ∧ z.length = 2 ∧
    20000 < leNat q ∧ leNat p = 20000 ∧ running.set.clipsLow ≤ running.tie.supply ∧ leNat z < running.set.clipsLow :=
  ⟨handled _ _ _ rfl rfl, handled _ _ _ rfl rfl, handled _ _ _ rfl rfl, by decide +kernel⟩

theorem meets_ChangeoverAndReindexEnd :
    (running.onArb fun a => { a with changeover := .running 2 0 }).arb.changeover = .running 2 0 ∧
    running.arb.changeover = .none ∧ running.tie.reindex = none ∧ running.powered = true ∧
    (running.onTie fun t => { t with reindex := some 0 }).tie.reindex.isSome = true := by decide +kernel

/-- A line whose only candidate is a record of a class. -/
def offering (cls : Nat) : State :=
  withTable [{ loaf 3 with state := .queued, pocket := some 0, bagClass := cls }] [] running

theorem offering_due (cls : Nat) : GrantDue 0 (offering cls) := by
  have h : (running.lc.state = .running ∨ running.lc.state = .draining) ∧ running.arb.changeover = .none ∧
      (running.bag.state = .ready ∨ running.bag.state = .cycle) ∧ running.tie.state = .ready ∧
      running.crm.queue = [] ∧ running.arb.flight = none ∧ running.arb.spacing = none := by decide +kernel
  obtain ⟨a, b, c, d, e, f, g⟩ := h
  exact ⟨a, b, c, d, fun x rest k => absurd (e.symm.trans k) nofun, f, fun x k => absurd (g.symm.trans k) nofun⟩

theorem meets_ChangeoverAndReindexEnd_begun :
    let w := running.onArb fun a => { a with changeover := .waiting 2 }
    let p := running.onTie fun t => { t with state := .reindexPending }
    (∀ c ≤ 2, ∀ k, ∀ r ∈ (offering c).queue k, r.lane = k) ∧
    (offering 2).choice.map Rec.bagClass = some 2 ∧ (offering 2).arb.bagClass = 1 ∧
    w.arb.changeover = .waiting 2 ∧ w.records = [] ∧ p.tie.state = .reindexPending ∧ p.records = [] ∧
    p.lc.state ≠ .halted := by decide +kernel

theorem meets_ChoiceIsTheEarliestOfItsGroup :
    let q := { loaf 3 with state := .queued, pocket := some 0 }
    let s := withTable [q] [] running
    (∀ l, ∀ r ∈ s.queue l, r.lane = l) ∧ s.choice = some q ∧ running.choice = none := by decide +kernel

theorem meets_ChoiceIsTheEarliestOfItsGroup_granted : (∀ k, ∀ r ∈ (offering 1).queue k, r.lane = k) ∧
    (offering 1).choice.map Rec.bagClass = some (offering 1).arb.bagClass ∧ GrantDue 0 (offering 1) :=
  ⟨by decide +kernel, by decide +kernel, offering_due 1⟩

/-- A record whose read is open, with trigger 7 and the window's end at the position. -/
def reading (challenge : Bool) : State :=
  let code := [0x30, 0x33, 0x20, 0x30, 0x33, 0x20, 0x43, 0x32]
  (withTable [] [{ merged 2 .tied with expected := some code, challenge := challenge }] running).onTie fun t =>
    { t with openReads := [⟨7, 2, 1000 * 65536⟩] }

theorem meets_CodeReaderAnswers :
    let code := [0x30, 0x33, 0x20, 0x30, 0x33, 0x20, 0x43, 0x32]
    let r := fun c => { merged 2 .tied with expected := some code, challenge := c }
    let other : List Byte := List.replicate 8 0x20
    parseAnswer [] = none ∧ parseAnswer (0x52 :: 8 :: code) = some (8, .text code) ∧
    (∀ o ∈ (reading false).tie.openReads, o.trigger = 8 → o.windowEnd < (reading false).pos) ∧
    (∀ c, (reading c).tie.openReads.find?
        (fun x => x.trigger == (7 : Byte).toNat && decide ((reading c).pos ≤ x.windowEnd)) = some ⟨7, 2, 1000 * 65536⟩ ∧
      (reading c).find 2 = some (r c) ∧ (r c).expected = some code ∧ (r c).state = .tied) ∧
    (∀ b ∈ code, 0x20 ≤ b.toNat ∧ b.toNat ≤ 0x7E) ∧ code.length = 8 ∧ other.length = 8 ∧
    (∀ b ∈ other, 0x20 ≤ b.toNat ∧ b.toNat ≤ 0x7E) ∧ other ≠ code ∧ other ≠ challengeCode code ∧
    code ≠ challengeCode code ∧ (challengeCode code).length = 8 ∧
    (∀ b ∈ challengeCode code, 0x20 ≤ b.toNat ∧ b.toNat ≤ 0x7E) ∧ (reading true).lc.state = .running ∧
    (inLine .starting (reading true)).lc.state = .starting ∧
    (inLine .draining (reading true)).lc.state = .draining := by decide +kernel

/-- A mismatch that is found a burst by a READY, an EMPTY and a reindexing tyer, and one below the limit. -/
theorem meets_CodeReaderAnswers_burst :
    let b := fun n st => withSet (fun x => { x with burstLimit := n })
      ((reading false).onTie fun t => { t with burst := [⟨9, true⟩, ⟨2, false⟩], state := st })
    let r := { merged 2 .tied with expected := some [0x30, 0x33, 0x20, 0x30, 0x33, 0x20, 0x43, 0x32] }
    (∀ n st, (b n st).find 2 = some r ∧ (b n st).tie.state = st) ∧ r.challenge = false ∧
    (∀ st, (∃ e ∈ (b 2 st).tie.burst, e.loaf = r.loaf) ∧
      (b 2 st).set.burstLimit ≤ ((MarkedBurst (b 2 st) r).filter (·.bad)).length ∧
      ((MarkedBurst (b 3 st) r).filter (·.bad)).length < (b 3 st).set.burstLimit) := by
  refine ⟨fun n st => ?_, rfl, fun st => ?_⟩
  · exact ⟨by cases st <;> rfl, rfl⟩
  · cases st <;> decide +kernel

/-- Tied records at their verify station, with and without a code, and at the end of their read window, one of them bringing a burst. -/
theorem meets_CodeReaderAnswers_station :
    let r := merged 2 .tied
    let c := { r with expected := some (List.replicate 8 0x30) }
    let s := withTable [] [c] running
    let b := withSet (fun x => { x with burstLimit := 1 }) ((reading false).onTie fun t => { t with burst := [⟨2, false⟩] })
    r.state = .tied ∧ busy.find r.loaf = some r ∧ (∀ o ∈ busy.tie.openReads, o.loaf ≠ r.loaf) ∧ r.expected = none ∧
    s.find c.loaf = some c ∧ (∀ o ∈ s.tie.openReads, o.loaf ≠ c.loaf) ∧ c.expected.isSome = true ∧
    (∀ x, (reading x).tie.openReads.find? (fun o => o.loaf == 2) = some ⟨7, 2, 1000 * 65536⟩) ∧
    b.set.burstLimit ≤ 1 ∧ ⟨2, false⟩ ∈ b.tie.burst ∧ b.tie.state = .ready ∧
    (b.onTie fun t => { t with state := .empty }).tie.owed = false := by decide +kernel

theorem meets_ChallengeSettings : let p := leBytes 2 50; let q := leBytes 2 49; let o := leBytes 2 500
    Handling ⟨0x42, 9, p⟩ (asked 0x42 p running) ∧ Handling ⟨0x42, 9, q⟩ (asked 0x42 q running) ∧
    Handling ⟨0x42, 9, o⟩ (asked 0x42 o running) ∧ Handling ⟨0x44, 9, []⟩ (asked 0x44 [] running) ∧
    p.length = 2 ∧ q.length = 2 ∧ (50 ≤ leNat p ∧ leNat p ≤ 5000) ∧ leNat p ≠ running.set.challengeInterval ∧
    ¬(leNat q = 0 ∨ (50 ≤ leNat q ∧ leNat q ≤ 5000)) ∧ leNat o = running.set.challengeInterval :=
  ⟨handled _ _ _ rfl rfl, handled _ _ _ rfl rfl, handled _ _ _ rfl rfl, handled _ _ _ rfl rfl, by decide +kernel⟩

theorem meets_PurgeSteps : Handling ⟨0x50, 9, [4]⟩ (asked 0x50 [4] running) ∧
    Handling ⟨0x50, 9, [2]⟩ (asked 0x50 [2] purging) ∧ asTarget 4 = some .belt ∧ asTarget 2 = some (.head 2) ∧
    running.targetConfigured .belt = true ∧ (∀ e ∈ running.crm.queue, e.target ≠ .belt) ∧
    (withSet (fun x => { x with configured := 2 }) running).targetConfigured (.head 2) = false ∧
    (⟨.head 2, .soft⟩ ∈ purging.crm.queue) ∧
    purging.crm.state = .purging ∧ purging.crm.cycle = some ⟨.head 2, 22600, none, none⟩ ∧
    purging.crm.weigh.isSome = true ∧ running.crm.weigh = none ∧ running.crm.purge = none ∧
    running.crm.settle = none ∧ (running.onCrm fun c => { c with purge := some 0, settle := some 0 }).crm.purge.isSome = true :=
  ⟨handled _ _ _ rfl rfl, handled _ _ _ rfl rfl, by decide +kernel⟩

/-- A purge waiting to start. -/
def waiting (t : Target) : State := { running with crm := { running.crm with queue := [⟨t, .soft⟩], state := .wait } }

theorem meets_PurgeSteps_begun : ∀ t ∈ [Target.head 2, Target.belt],
    (∀ k, ∀ r ∈ (waiting t).queue k, r.lane = k) ∧ (waiting t).crm.state = .wait ∧
    (waiting t).crm.queue = [⟨t, .soft⟩] ∧ (waiting t).lc.state ≠ .halted ∧ (waiting t).queue 2 = [] ∧
    (waiting t).arb.flight = none ∧ (waiting t).arb.spacing = none := by decide +kernel

/-- A purge whose after-reading is asked for. -/
def settling (t : Target) : State := { running with crm := { running.crm with
  queue := [⟨t, .soft⟩], state := .settle, cycle := some ⟨t, 22600, some 25400, none⟩, weigh := some 200 } }

theorem meets_PurgeCompletes : ∀ t ∈ [Target.head 2, Target.belt], (settling t).powered = true ∧
    (settling t).crm.state = .settle ∧ (settling t).crm.cycle = some ⟨t, 22600, some 25400, none⟩ ∧
    (settling t).crm.weigh.isSome = true ∧ (settling t).tot.opened = some shift := by decide +kernel

theorem meets_PurgeCompletes_entry (t : Target) (h : t = .head 2 ∨ t = .belt) : PurgesHold (settling t) := by
  rcases h with rfl | rfl <;>
    exact ⟨by decide +kernel, by decide +kernel, fun _ => ⟨_, rfl, by decide +kernel⟩, by decide +kernel⟩

/-- A reading above the residual limit, with narrowing on and off, and a parked blade. -/
theorem meets_PurgeCompletes_heavy : let s := onHead 2 (fun h => { h with blade := .parked }) (settling (.head 2))
    (s.head 2).blade = .parked ∧ s.set.residual < min 2000000 2000000 ∧ s.set.narrowing = true ∧
    (unnarrowed s).set.narrowing = false ∧ ¬s.set.residual < 0 := by decide +kernel

/-- The line at rest, its lanes idle and in the target set. -/
def resting (st : LineState) (s : State) : State :=
  { inLine st s with hd := ⟨Vector.replicate 4 Head.powerOn, Vector.replicate 4 (LaneCtl.powerOn true)⟩ }

theorem meets_Start :
    let s := resting .ready running
    Handling ⟨0x20, 9, []⟩ (asked 0x20 [] s) ∧ Handling ⟨0x20, 9, []⟩ (asked 0x20 [] running) ∧
    Handling ⟨0x20, 9, []⟩ (asked 0x20 [] (resting .halted running)) ∧ running.lc.state = .running ∧
    s.tot.opened ≠ none ∧ s.pst.clockValid = true ∧ s.tie.blind = false ∧ s.lc.estop = false ∧
    (∀ l, s.isConfigured l = true ∧ (s.lane l).target = true ∧ s.pst.assign[l] ≠ none) ∧
    State.reset.tot.opened = none ∧ State.reset.pst.clockValid = false ∧
    { running with lc := { s.lc with estop := true } }.lc.estop = true :=
  ⟨handled _ _ _ rfl rfl, handled _ _ _ rfl rfl, handled _ _ _ rfl rfl, by decide +kernel⟩

theorem meets_Start_running : let s := inLine .starting running
    s.lc.state = .starting ∧ s.sru.state = .track ∧ (s.head 0).blade = .running ∧ (s.lane 0).state = .running := by
  decide +kernel

theorem meets_Stop : Handling ⟨0x21, 9, []⟩ (asked 0x21 [] busy) ∧ LineHolds (asked 0x21 [] busy) ∧
    Handling ⟨0x21, 9, []⟩ (asked 0x21 [] (resting .halted busy)) ∧ busy.lc.state ≠ .halted ∧
    (resting .halted busy).tableCount ≠ 0 ∧ (resting .halted running).tableCount = 0 :=
  ⟨handled _ _ _ rfl rfl, by unfold LineHolds; decide +kernel, handled _ _ _ rfl rfl, by decide +kernel⟩

/-- Every line state in which STOP is answered, with and without a record in the table. -/
theorem meets_Stop_states : (∀ st s, s = busy ∨ s = running →
      Handling ⟨0x21, 9, []⟩ (asked 0x21 [] (inLine st s)) ∧ (asked 0x21 [] (inLine st s)).lc.state = st) ∧
    (asked 0x21 [] (inLine .starting busy)).tableCount ≠ 0 ∧ (asked 0x21 [] (inLine .starting running)).tableCount = 0 ∧
    (asked 0x21 [] (inLine .halted busy)).tableCount ≠ 0 ∧ (asked 0x21 [] (inLine .halted running)).tableCount = 0 := by
  refine ⟨fun st s h => ?_, by decide +kernel⟩
  rcases h with rfl | rfl <;> exact ⟨handled _ _ _ rfl rfl, rfl⟩

theorem meets_Stop_halted : LineHolds (asked 0x21 [] (inLine .halted State.reset)) ∧
    LineHolds (asked 0x21 [] (inLine .halted (withTable [] [merged 1 .merged] State.reset))) := by
  unfold LineHolds; decide +kernel

theorem meets_Halts : Handling ⟨0x22, 9, []⟩ (asked 0x22 [] busy) ∧
    Handling ⟨0x22, 9, []⟩ (asked 0x22 [] (inLine .ready busy)) ∧ busy.lc.state = .running ∧ busy.powered = true :=
  ⟨handled _ _ _ rfl rfl, handled _ _ _ rfl rfl, by decide +kernel⟩

theorem meets_SetSpeed : let p := leBytes 2 4687; let q := leBytes 2 5000
    Handling ⟨0x25, 9, p⟩ (asked 0x25 p running) ∧ Handling ⟨0x25, 9, q⟩ (asked 0x25 q running) ∧
    p.length = 2 ∧ q.length = 2 ∧ leNat p = running.lc.ceiling ∧ running.lc.ceiling < leNat q :=
  ⟨handled _ _ _ rfl rfl, handled _ _ _ rfl rfl, by decide +kernel⟩

theorem meets_SetReference : let s := { running with sru := { running.sru with w := LineMonitor.fresh } }
    Handling ⟨0x26, 9, [1, 1, 0, 1]⟩ (asked 0x26 [1, 1, 0, 1] running) ∧
    Handling ⟨0x26, 9, [2, 0, 0, 0]⟩ (asked 0x26 [2, 0, 0, 0] running) ∧
    Handling ⟨0x26, 9, [1, 0, 1, 1]⟩ (asked 0x26 [1, 0, 1, 1] s) ∧
    running.sru.state = .track ∧ running.sru.m.mon.qualified = true ∧ running.sru.selected ≠ .encoder .m ∧
    s.sru.w.mon.qualified = false ∧ s.sru.state = .track ∧ State.reset.sru.state = .idle ∧
    s.set.holdoverMs ≠ 0 ∧ (withSet (fun x => { x with holdoverMs := 0 }) s).set.holdoverMs = 0 ∧
    s.tot.opened = some shift ∧ { s with tot := ⟨none, some shift, none⟩ }.tot.closing = some shift ∧
    { s with tot := ⟨none, none, none⟩ }.tot.closing = none :=
  ⟨handled _ _ _ rfl rfl, handled _ _ _ rfl rfl, handled _ _ _ rfl rfl, by decide +kernel⟩

theorem meets_LineTimersExpire :
    let h := { running with sru := { running.sru with state := .holdover, holdover := some 0 } }
    let s := fun o => { running with lc := { running.lc with state := .starting, origin := o, startLimit := some 0 } }
    running.powered = true ∧ running.sru.holdover = none ∧ h.sru.holdover.isSome = true ∧ h.sru.state = .holdover ∧
    running.lc.startLimit = none ∧ (s .ready).lc.startLimit.isSome = true ∧ (s .ready).lc.state = .starting ∧
    (s .halted).lc.origin = .halted ∧ State.reset.lc.silence = none ∧ running.lc.silence.isSome = true ∧
    running.lc.state = .running := by decide +kernel

theorem meets_HeadTimersExpire :
    let s := onHead 3 (fun h => { h with blade := .spinup, spinup := some 0 }) running
    let d := onLane 0 (fun c => { c with state := .down, retrial := some 0 }) running
    running.powered = true ∧ (running.head 0).spinup = none ∧ (s.head 3).spinup.isSome = true ∧
    s.set.narrowing = true ∧ (running.lane 3).retrial = none ∧ (d.lane 0).retrial.isSome = true ∧
    (d.lane 0).state = .down := by decide +kernel

theorem meets_HeadTimersExpire_lanes :
    let d := onHead 0 (fun h => { h with blade := .fault }) (onLane 0 (fun c => { c with state := .down }) running)
    let t := settle d 0 d
    (∀ k, ∀ r ∈ d.queue k, r.lane = k) ∧ (t.lane 0).state = .down ∧ (t.lane 0).target = true ∧
    t.lc.state = .running ∧ (t.head 0).blade = .fault ∧ t.queue 0 = [] ∧ (t.lane 1).state = .running ∧
    ((onHead 3 (fun h => { h with spinup := some 0 }) (unnarrowed running)).head 3).spinup.isSome = true := by
  decide +kernel

theorem meets_Restart : Handling ⟨0x24, 9, []⟩ (asked 0x24 [] busy) ∧ busy.tot.opened.isSome = true ∧
    busy.crm.queue = [] :=
  ⟨handled _ _ _ rfl rfl, by decide +kernel⟩

/-- A purge of a head and of the belt at the front of the queue. -/
theorem meets_Restart_purging : ∀ t ∈ [Target.head 2, Target.belt],
    Handling ⟨0x24, 9, []⟩ (asked 0x24 [] (settling t)) ∧ (settling t).crm.queue = ⟨t, .soft⟩ :: [] :=
  fun _ _ => ⟨handled _ _ _ rfl rfl, rfl⟩

/-- A shift that waits for its records alone. -/
def closingBusy : State := { busy with tot := ⟨none, busy.tot.opened, none⟩ }

theorem meets_Restart_closing : AccountsHold (asked 0x24 [] closingBusy) ∧ closingBusy.tot.closing.isSome = true := by
  refine ⟨?_, by decide +kernel⟩
  have h : ∃ sh, closingBusy.tot.closing = some sh ∧ closingBusy.tot.opened = none ∧ closingBusy.tot.closed = none ∧
      (∀ r ∈ closingBusy.records, sh.seq = r.tag) ∧
      sh.inTable = (closingBusy.records.filter fun r => r.tag == sh.seq).length ∧ sh.inTable ≠ 0 ∧
      (∀ l : Lane, sh.perLane[l].admitted =
        (closingBusy.records.filter fun r => r.tag == sh.seq && r.lane == l).length + sh.perLane[l].ended) ∧
      closingBusy.nextShiftSeq = nextSeqAfter sh.seq := ⟨closingBusy.tot.closing.getD shift, by decide +kernel⟩
  obtain ⟨sh, h1, h2, h3, h4, h5, h6, h7, h8⟩ := h
  refine ⟨by decide +kernel, fun r hr => ⟨sh, .inr h1, h4 r hr⟩, fun x hx => ?_, fun x hx => ?_, fun x hx => ?_,
    fun x hx _ => ?_, fun x y _ hy => ?_⟩
  · exact absurd (h2.symm.trans hx) nofun
  · obtain rfl := Option.some.inj (h1.symm.trans hx); exact ⟨⟨h5, fun l _ => h7 l⟩, h6⟩
  · exact absurd (h3.symm.trans hx) nofun
  · obtain rfl := Option.some.inj (h1.symm.trans hx); exact h8
  · exact absurd (h2.symm.trans hy) nofun

theorem meets_ClearTrack_closing : let s := asked 0x23 [] (inLine .halted closingBusy)
    Handling ⟨0x23, 9, []⟩ s ∧ AccountsHold s ∧ s.tot.closing.isSome = true ∧ s.lc.state = .halted :=
  ⟨handled _ _ _ rfl rfl, meets_Restart_closing.1, by decide +kernel⟩

theorem meets_SetLanes : Handling ⟨0x30, 9, [16]⟩ (asked 0x30 [16] running) ∧
    Handling ⟨0x30, 9, [15]⟩ (asked 0x30 [15] running) ∧
    Handling ⟨0x30, 9, [0]⟩ (asked 0x30 [0] (resting .running running)) ∧
    (∀ l, running.isConfigured l = true ∧ running.pst.assign[l] ≠ none) ∧ State.reset.pst.assign[(0 : Lane)] = none ∧
    (onLane 0 (fun c => { c with target := false, state := .idle }) running).lc.state = .running :=
  ⟨handled _ _ _ rfl rfl, handled _ _ _ rfl rfl, handled _ _ _ rfl rfl, by decide +kernel⟩

theorem meets_SetLanes_none : ∀ q, q = [] ∨ q = [merged 1 .merged] →
    let u := forLanes (fun l => onLane l fun c => { c with state := if l = 0 then .parked else .idle }) (withTable [] q running)
    u.lc.state = .running ∧ (running.lane 0).state ≠ (u.lane 0).state ∧
    ∀ k, u.isConfigured k = true → (u.lane k).state = .idle ∨ (u.lane k).state = .parked := by
  rintro q (rfl | rfl) <;> decide +kernel

theorem meets_ClearLane : let s := onLane 3 (fun c => { c with state := .parked, trialFails := 4 }) running
    Handling ⟨0x32, 9, [3]⟩ (asked 0x32 [3] s) ∧ Handling ⟨0x32, 9, [4]⟩ (asked 0x32 [4] s) ∧
    Handling ⟨0x32, 9, [0]⟩ (asked 0x32 [0] s) ∧ LineHolds (asked 0x32 [3] s) ∧ s.set.configured = 4 ∧
    s.isConfigured 3 = true ∧ (s.lane 3).state = .parked ∧ (s.lane 0).state ≠ .parked :=
  ⟨handled _ _ _ rfl rfl, handled _ _ _ rfl rfl, handled _ _ _ rfl rfl, by unfold LineHolds; decide +kernel,
    by decide +kernel⟩

theorem meets_SetLaneProfile : Handling ⟨0x31, 9, [3, 3]⟩ (asked 0x31 [3, 3] running) ∧
    Handling ⟨0x31, 9, [4, 3]⟩ (asked 0x31 [4, 3] running) ∧ Handling ⟨0x31, 9, [0, 16]⟩ (asked 0x31 [0, 16] running) ∧
    Handling ⟨0x31, 9, [0, 15]⟩ (asked 0x31 [0, 15] running) ∧ running.isConfigured 3 = true ∧
    running.pst.slots[(3 : Slot)] = some white ∧ running.pst.slots[(15 : Slot)] = none ∧
    running.pst.assign[(3 : Lane)] = some 3 ∧ State.reset.pst.assign[(3 : Lane)] ≠ some 3 :=
  ⟨handled _ _ _ rfl rfl, handled _ _ _ rfl rfl, handled _ _ _ rfl rfl, handled _ _ _ rfl rfl, by decide +kernel⟩

theorem meets_FramesAreTaken : let h := asked 0x01 [] running
    running.powered = true ∧ running.lp.receiver = .hunt ∧ (List.replicate 250 (0x7E : Byte)).length ≤ 250 ∧
    running.lp.hand = none ∧ running.lp.waiting = none ∧ h.lp.hand.isSome = true ∧ h.lp.waiting = none ∧
    { h with lp := { h.lp with waiting := some ⟨0x11, 1, []⟩ } }.lp.waiting.isSome = true ∧
    (1 : Byte).toNat + 256 * (0 : Byte).toNat < 2 ∧ 252 < (253 : Byte).toNat + 256 * (0 : Byte).toNat ∧
    (0 : Byte).toNat * 256 + (0 : Byte).toNat ≠ crc16 (leBytes 2 2 ++ [0x01, 0x09]) := by decide +kernel

theorem meets_FramesAreSent : let s := fun tx => { running with lp := { running.lp with tx := tx } }
    running.powered = true ∧ running.lp.tx = .idle ∧ (s (.sendingNotice [])).lp.tx = .sendingNotice [] ∧
    (s (.sendingReply ⟨[], none⟩)).lp.tx = .sendingReply ⟨[], none⟩ ∧
    (s (.sendingReply ⟨[], some .b460800⟩)).lp.tx = .sendingReply ⟨[], some .b460800⟩ ∧
    LinkRate.b460800.code = (2 : Byte).toNat := by decide +kernel

theorem meets_FramesAreSent_link : Handling ⟨0x03, 9, [2]⟩ (asked 0x03 [2] running) ∧
    Handling ⟨0x03, 9, [3]⟩ (asked 0x03 [3] running) := ⟨handled _ _ _ rfl rfl, handled _ _ _ rfl rfl⟩

theorem meets_EveryRequestIsAnswered : Handling ⟨0x80, 9, []⟩ (asked 0x80 [] running) ∧
    Handling ⟨0x24, 9, [0]⟩ (asked 0x24 [0] running) ∧ Handling ⟨0x20, 9, []⟩ (asked 0x20 [] running) ∧
    requestLength 0x80 = none ∧ requestLength 0x24 = some 0 :=
  ⟨handled _ _ _ rfl rfl, handled _ _ _ rfl rfl, handled _ _ _ rfl rfl, rfl, rfl⟩

theorem meets_ReadsOnlyRead : (∀ k p, Handling ⟨k, 9, p⟩ (asked k p busy)) ∧
    { running with tot := ⟨some shift, some shift, some shift⟩ }.tot.closed = some shift ∧
    running.tot.closed = none ∧ busy.find (leNat [1, 0, 0, 0]) = some (merged 1 .merged) ∧
    busy.find (leNat [0, 0, 0, 0]) = none :=
  ⟨fun _ _ => handled _ _ _ rfl rfl, by decide +kernel⟩

theorem meets_SetNoticeMask : Handling ⟨0x04, 9, [0xFF, 0xFF, 0x7F]⟩ (asked 0x04 [0xFF, 0xFF, 0x7F] running) ∧
    kindIn (kindSet [0xFF, 0xFF, 0x7F]) .linkSilent = false ∧ kindIn (kindSet [0xFF, 0xFF, 0x7F]) .storeFault = true ∧
    State.reset.lp.tx ≠ .idle ∧ (∀ n ∈ State.reset.lp.queue, n.kind ≠ .linkSilent) :=
  ⟨handled _ _ _ rfl rfl, by decide +kernel⟩

theorem meets_Clear : Handling ⟨0x05, 9, [0, 0x18, 0]⟩ (asked 0x05 [0, 0x18, 0] running) ∧
    kindIn (kindSet [0, 0x18, 0]) .baggerDown = true ∧ kindIn (kindSet [0, 0x18, 0]) .bagsLow = true ∧
    State.reset.bag.supply < State.reset.set.bagsLow := ⟨handled _ _ _ rfl rfl, by decide +kernel⟩

theorem meets_ProfilesReadBack :
    let body := byteOf 15 :: profileBytes (some rye)
    Handling ⟨0x12, 9, body⟩ (asked 0x12 body running) ∧
    Handling ⟨0x12, 9, byteOf 3 :: profileBytes none⟩ (asked 0x12 (byteOf 3 :: profileBytes none) running) ∧
    Handling ⟨0x13, 9, [byteOf 3]⟩ (asked 0x13 [byteOf 3] running) ∧ Handling ⟨0x13, 9, [16]⟩ (asked 0x13 [16] running) ∧
    profileValid rye = true ∧ (∀ l : Lane, running.pst.assign[l] ≠ some 15) ∧ running.pst.refs[(15 : Slot)] = 0 ∧
    running.pst.assign[(0 : Lane)] = some 3 ∧ running.pst.slots[(3 : Slot)] = some white :=
  ⟨handled _ _ _ rfl rfl, handled _ _ _ rfl rfl, handled _ _ _ rfl rfl, handled _ _ _ rfl rfl, by decide +kernel⟩

/-- Bodies with the valid flag set, clear and neither, over a valid and an invalid profile, for a slot in use and a free one. -/
theorem meets_ProfilesReadBack_body :
    let good := (profileBytes (some rye)).take 27
    let bad := List.replicate 27 (0 : Byte)
    (∀ i : Nat, ∀ b : List Byte, ∀ f : Byte, Handling ⟨0x12, 9, byteOf i :: b ++ [f]⟩ (asked 0x12 (byteOf i :: b ++ [f]) running)) ∧
    good.length = 27 ∧ bad.length = 27 ∧ parseProfile (good ++ [1]) = rye ∧ (parseProfile (bad ++ [1])).t < 60 ∧
    rye.name.all (fun c => decide (0x20 ≤ c.toNat ∧ c.toNat ≤ 0x7E)) = true ∧ 2 * rye.e + rye.t < rye.lmin ∧
    (∃ l : Lane, running.pst.assign[l] = some 3) :=
  ⟨fun _ _ _ => handled _ _ _ rfl rfl, by decide +kernel⟩

theorem test_servo_guard :
    (running.servo 0, (onHead 0 (fun h => { h with blade := .parked, demand := 0 }) running).servo 0) =
      (⟨1536, false⟩, ⟨0, true⟩) := by decide +kernel

theorem meets_SettingsReadBack :
    let x := { LineSettings.default with windowMs := 100, configured := 3, challengeInterval := 0 }
    let bad := { LineSettings.default with acceptPct := 13 }
    (∀ y, Handling ⟨0x14, 9, settingsBytes y⟩ (asked 0x14 (settingsBytes y) (inLine .ready running))) ∧
    settingsValid x = true ∧ x ≠ LineSettings.default ∧ running.lc.state ≠ .ready ∧ running.set = LineSettings.default ∧
    inRanges settingsFields (settingsValues bad) = true ∧ settingsValid bad = false ∧
    (∀ f ∈ [bad.windowMs % 10, bad.holdoverMs % 100, bad.changeoverMs % 100, bad.purgeMs % 100, bad.reindexMs % 100], f = 0) :=
  ⟨fun _ => handled _ _ _ rfl rfl, by decide +kernel⟩

/-- A purge running in READY of a head that SET_LINE unconfigures, and thresholds that come above the supplies. -/
theorem meets_SettingsReadBack_purging :
    let x := { LineSettings.default with configured := 2, bagsLow := 400, clipsLow := 600 }
    let s := inLine .ready { purging with bag := { purging.bag with supply := 399 }, tie := { purging.tie with supply := 599 } }
    PurgesHold (asked 0x14 (settingsBytes x) s) ∧ settingsValid x = true ∧ s.isConfigured 2 = true ∧
    s.set.bagsLow ≤ s.bag.supply ∧ s.bag.supply < x.bagsLow ∧ s.set.clipsLow ≤ s.tie.supply ∧
    s.tie.supply < x.clipsLow :=
  ⟨meets_PurgesKept, by decide +kernel⟩

/-- Bytes that no settings in range give: their window length is 0. -/
theorem meets_SettingsReadBack_refused :
    Handling ⟨0x14, 9, List.replicate 154 0⟩ (asked 0x14 (List.replicate 154 0) (inLine .ready running)) ∧
    (List.replicate 154 (0 : Byte)).length = 154 ∧
    ∀ y, SettingsInRange y → SettingsOnSteps y → SettingsAgree y → SettingsLayout y ≠ List.replicate 154 0 := by
  refine ⟨handled _ _ _ rfl rfl, List.length_replicate, ?_⟩
  intro y h _ _ e
  have k : (SettingsLayout y).head? = some (byteOf (y.windowMs / 10)) := by
    unfold SettingsLayout; simp [leBytes, byteOf]
  have n : byteOf (y.windowMs / 10) = 0 := by rw [e] at k; exact (Option.some.inj k).symm
  have lo := h.1.1.1
  have hi := h.1.1.2
  have v := congrArg BitVec.toNat n
  simp only [byteOf, BitVec.toNat_ofNat] at v
  have z : (0 : Byte).toNat = 0 := rfl
  omega

theorem meets_SettingsReadBack_ranges : SettingsInRange LineSettings.default ∧
    SettingsOnSteps LineSettings.default ∧ SettingsAgree LineSettings.default := by
  refine ⟨?_, ?_, ?_⟩
  · simp only [SettingsInRange]
    refine ⟨?_, ?_, ?_, ?_, ?_, ?_, ?_⟩ <;> decide +kernel
  · simp only [SettingsOnSteps]; decide +kernel
  · simp only [SettingsAgree]; decide +kernel

/-- Lanes newly configured and newly unconfigured; a store that is idle and one that is writing. -/
theorem meets_SettingsReadBack_lanes :
    let x := LineSettings.default
    let few := withSet (fun y => { y with configured := 3 }) (inLine .ready running)
    let w := { running with pst := { running.pst with
      store := .writing ⟨x, running.pst.assign, running.pst.slots⟩ 0 } }
    few.lc.state = .ready ∧ x ≠ few.set ∧
    few.isConfigured 3 = false ∧ 3 < x.configured ∧ running.isConfigured 3 = true ∧
    { x with configured := 3 } ≠ running.set ∧ settingsValid { x with configured := 3 } = true ∧
    (running.lane 3).state ≠ .idle ∧ x.challengeInterval = running.set.challengeInterval ∧
    running.pst.store = .idle ∧
    w.pst.store = .writing ⟨x, running.pst.assign, running.pst.slots⟩ 0 := by
  decide +kernel

theorem meets_StoreWritesSections : Handling ⟨0x16, 9, []⟩ (asked 0x16 [] running) ∧ running.powered = true ∧
    running.pst.store = .idle ∧ StoreState.writing ⟨LineSettings.default, running.pst.assign, running.pst.slots⟩ 1 ≠ .idle :=
  ⟨handled _ _ _ rfl rfl, running_on.1, by decide +kernel⟩

theorem meets_StoreSurvivesPowerLoss : Handling ⟨0x16, 9, []⟩ (asked 0x16 [] running) ∧
    StoreHolds (asked 0x16 [] running) ∧ (asked 0x16 [] running).pst.store = .idle :=
  ⟨handled _ _ _ rfl rfl, meets_StoreKept, by decide +kernel⟩

theorem meets_OpenShift : let s := { running with tot := ⟨none, none, none⟩ }
    Handling ⟨0x60, 9, [0]⟩ (asked 0x60 [0] s) ∧ Handling ⟨0x60, 9, [9]⟩ (asked 0x60 [9] s) ∧
    Handling ⟨0x60, 9, [1]⟩ (asked 0x60 [1] running) ∧ running.tot.opened ≠ none ∧ s.tot.opened = none ∧
    s.pst.clockValid = true ∧ State.reset.pst.clockValid = false :=
  ⟨handled _ _ _ rfl rfl, handled _ _ _ rfl rfl, handled _ _ _ rfl rfl, by decide +kernel⟩

theorem meets_CloseShift : Handling ⟨0x61, 9, [0, 0]⟩ (asked 0x61 [0, 0] busy) ∧
    Handling ⟨0x61, 9, [1, 9]⟩ (asked 0x61 [1, 9] running) ∧ Handling ⟨0x61, 9, [1, 10]⟩ (asked 0x61 [1, 10] running) ∧
    Handling ⟨0x61, 9, [2, 1]⟩ (asked 0x61 [2, 1] running) ∧ running.tot.opened = some shift ∧
    running.tot.closing = none ∧ running.pst.clockValid = true ∧ shift.inTable = 0 ∧ State.reset.tot.opened = none ∧
    busy.tot.opened.map Shift.inTable = some 3 ∧ (inLine .starting busy).lc.state = .starting ∧
    busy.tableCount ≠ 0 ∧ (inLine .starting running).tableCount = 0 ∧ (byteOf 0).toNat = 0 :=
  ⟨handled _ _ _ rfl rfl, handled _ _ _ rfl rfl, handled _ _ _ rfl rfl, handled _ _ _ rfl rfl, by decide +kernel⟩

end Sys2Proof.Tests
end

section
/-! PROOFS. REJECT_LOAF and the decision point that follows it (R28, R43, R45, R50). -/

namespace Sys2Proof.Machine

/-! ### Finding a record, and its list of reasons -/

theorem loaf_of_find {s : State} {k : Nat} {r : Rec} (h : s.find k = some r) : r.loaf = k := by
  simpa using List.find?_some h

theorem find_onRec {r : Rec} {s : State} {f : Rec → Rec} (h : s.find r.loaf = some r)
    (hf : ∀ x, (f x).loaf = x.loaf) : (onRec r.loaf f s).find r.loaf = some (f r) :=
  (onRec_becomes r f hf s h).1

/-- The reason joins the list once, and a new reason of a DECIDED record is late (R28, R45). -/
theorem addReason_eq (r : Rec) (x : Reason) :
    r.addReason x = { r with
      reasons := if x ∈ r.reasons then r.reasons else r.reasons ++ [x]
      late := r.late || (!decide (x ∈ r.reasons) && decide (r.state = .decided)) } := by
  unfold Rec.addReason
  by_cases h : x ∈ r.reasons <;> simp [h]

theorem addReason_reasons_ne_nil (r : Rec) (x : Reason) : (r.addReason x).reasons ≠ [] := by
  rw [addReason_reasons]
  split
  next h => exact List.ne_nil_of_mem h
  next => simp

/-! ### The decision point of a record with a reason (R43, R44) -/

@[simp] theorem find_rejectGate (d : Decision) (k : Nat) (s : State) :
    (s.onTrk fun t => { t with rejectGate := d }).find k = s.find k := rfl

theorem takeDecision_of_reasons {r : Rec} (h : r.reasons ≠ []) (s : State) :
    takeDecision r s =
      (onRec r.loaf (fun x => { x with reasons := r.reasons, decision := some .divert, state := .decided }) s).onTrk
        fun t => { t with rejectGate := .divert } := by
  simp [takeDecision, h]

/-- A record that reaches its decision point with a reason is decided DIVERT, with its list as it was. -/
theorem find_takeDecision_of_reasons {r : Rec} {s : State} (h : s.find r.loaf = some r) (hr : r.reasons ≠ []) :
    (takeStation (.decision r) s).find r.loaf =
      some { r with decision := some .divert, state := .decided } := by
  rw [takeStation, takeDecision_of_reasons hr, find_rejectGate]
  exact find_onRec h fun _ => rfl

/-! ### REJECT_LOAF (R50) -/

theorem exec_rejectLoaf (tag : Byte) (p : List Byte) (s : State) :
    exec (.rejectLoaf tag p) s = execRejectLoaf tag p s := rfl

theorem ownRejectLoaf_of_none {p : List Byte} {s : State} (h : s.find (leNat p) = none) :
    ownRejectLoaf p s = Answer.refuse s .notFound := by
  simp [ownRejectLoaf, h]

theorem ownRejectLoaf_of_some {p : List Byte} {s : State} {r : Rec} (h : s.find (leNat p) = some r) :
    ownRejectLoaf p s = ⟨onRec r.loaf (·.addReason .operator) s,
      if r.state = .decided then .tooLate else .ok, [byteOf r.state.code], none⟩ := by
  simp [ownRejectLoaf, h]

/-- A REJECT_LOAF in hand with its four bytes is answered by its owning rule. -/
theorem exec_rejectLoaf_handling {tag : Byte} {p : List Byte} {s : State} (h : Handling ⟨0x71, tag, p⟩ s)
    (hp : p.length = 4) : exec (.rejectLoaf tag p) s = .next (giveReply 0x71 tag (ownRejectLoaf p s)) := by
  rw [exec_rejectLoaf, execRejectLoaf, serve_handling 4 ownRejectLoaf h, if_pos hp]

/-- Settles O24: the answer by whether the record is found; the record then holds OPERATOR, so its list is not
empty at its decision point, whatever else it holds. -/
theorem rejectLoaf : Obligations.RejectLoaf := by
  unfold Obligations.RejectLoaf
  intro s tag p handling hp
  have answered := exec_rejectLoaf_handling handling hp
  refine ⟨fun absent => ?_, fun r found => ?_⟩
  · rw [Refused, answered, ownRejectLoaf_of_none absent, giveReply_refuse]
  · have named : s.find r.loaf = some r := by rw [loaf_of_find found, found]
    have keepsLoaf : ∀ x : Rec, (x.addReason .operator).loaf = x.loaf := fun x => addReason_loaf x _
    refine ⟨onRec r.loaf (·.addReason .operator) s, ?_, ?_, ?_, fun _ => ?_⟩
    · rw [answered, ownRejectLoaf_of_some found, giveReply]
    · exact onRec_without s r.loaf _ rfl
    · simpa only [addReason_eq, decide_eq_true_eq] using onRec_becomes r _ keepsLoaf s
    · have listed := find_onRec named keepsLoaf
      have diverted := find_takeDecision_of_reasons (r := r.addReason .operator)
        (by rwa [addReason_loaf]) (addReason_reasons_ne_nil r _)
      rw [addReason_loaf] at diverted
      exact ⟨_, _, listed, diverted, rfl⟩

end Sys2Proof.Machine
end

section
/-! PROOFS. What the settling leaves of a lane's state (R84, R85, R180), and CLEAR_LANE (R87). -/

namespace Sys2Proof.Machine

/-! ### Lanes under the operations of the settling -/

theorem forLanes_induction {P : State → Prop} {f : Lane → State → State} (step : ∀ k s, P s → P (f k s))
    {s : State} (h : P s) : P (forLanes f s) := by
  simp only [forLanes, lanes, List.foldl_cons, List.foldl_nil]
  exact step _ _ (step _ _ (step _ _ (step _ _ h)))

theorem lane_of_hd {s t : State} (h : t.hd = s.hd) (l : Lane) : t.lane l = s.lane l :=
  congrArg (fun hd : Hd => hd.lanes[l]) h

@[simp] theorem replyReady_lane (r : Reply) (l : Lane) (s : State) : (replyReady r s).lane l = s.lane l := rfl

@[simp] theorem setBlade_lane (b : BladeState) (k l : Lane) (s : State) :
    (setBlade b k s).lane l = s.lane l := rfl

@[simp] theorem stopBladeIf_lane (p : BladeState → Bool) (k l : Lane) (s : State) :
    (stopBladeIf p k s).lane l = s.lane l := by
  unfold stopBladeIf; split <;> rfl

@[simp] theorem stopIdleBlade_lane (k l : Lane) (s : State) : (stopIdleBlade k s).lane l = s.lane l := by
  unfold stopIdleBlade
  (repeat' split) <;> rfl

@[simp] theorem forLanes_stopIdleBlade_lane (l : Lane) (s : State) :
    (forLanes stopIdleBlade s).lane l = s.lane l :=
  forLanes_induction (P := fun t => t.lane l = s.lane l) (fun k t h => by rw [stopIdleBlade_lane, h]) rfl

@[simp] theorem settleStart_lane (l : Lane) (s : State) : (settleStart s).lane l = s.lane l := by
  unfold settleStart; split <;> rfl

@[simp] theorem settleReindex_lane (l : Lane) (s : State) : (settleReindex s).lane l = s.lane l := by
  unfold settleReindex; split <;> rfl

@[simp] theorem settleChangeover_lane (l : Lane) (s : State) : (settleChangeover s).lane l = s.lane l :=
  lane_of_hd (kept_hd (settleChangeover_without (b := { arb := true }) s rfl) rfl) l

@[simp] theorem settleGrant_lane (n : Nat) (l : Lane) (s : State) : (settleGrant n s).lane l = s.lane l :=
  lane_of_hd (kept_hd (settleGrant_without (b := { trk := true, arb := true }) s n rfl rfl) rfl) l

@[simp] theorem evaluateGates_lane (l : Lane) (s : State) : (evaluateGates s).lane l = s.lane l :=
  lane_of_hd (kept_hd (evaluateGates_without (b := { lp := true, trk := true }) s rfl rfl) rfl) l

@[simp] theorem startCycle_lane (t : Target) (l : Lane) (s : State) : (startCycle t s).lane l = s.lane l := by
  cases t <;> rfl

@[simp] theorem settlePurge_lane (n : Nat) (l : Lane) (s : State) : (settlePurge n s).lane l = s.lane l := by
  unfold settlePurge
  split
  · split
    · exact startCycle_lane _ l s
    · rfl
  · rfl

@[simp] theorem refresh_lane (l : Lane) (s : State) : (refresh s).lane l = s.lane l := rfl

/-- A retrial timer that starts or stops leaves the lane's state (R81). -/
@[simp] theorem settleRetrial_lane_state (k l : Lane) (s : State) :
    ((settleRetrial k s).lane l).state = (s.lane l).state := by
  simp only [settleRetrial, lane_onLane]
  split <;> rfl

@[simp] theorem forLanes_settleRetrial_lane_state (l : Lane) (s : State) :
    ((forLanes settleRetrial s).lane l).state = (s.lane l).state :=
  forLanes_induction (P := fun t => (t.lane l).state = (s.lane l).state)
    (fun k t h => by rw [settleRetrial_lane_state, h]) rfl

/-- The NO_LANES drain of a RUNNING line touches no lane (R85). -/
@[simp] theorem checkNoLanes_lane (before : State) (l : Lane) (s : State) :
    (checkNoLanes before s).lane l = s.lane l := by
  unfold checkNoLanes
  split
  · next due =>
    obtain ⟨running, -⟩ := due
    rw [requestDrain, running]
    rfl
  · rfl

/-- Of the settling, the end of a drain alone can move a lane. -/
theorem settle_lane_state (before : State) (h : Nat) (l : Lane) (s : State) :
    ((settle before h s).lane l).state =
      ((settleDrain (settleStart (checkNoLanes before (forLanes stopIdleBlade s)))).lane l).state := by
  simp [settle]

/-! ### A lane that is IDLE stays IDLE -/

theorem laneOutOfMotion_idle {l : Lane} {s : State} (k : Lane) (h : (s.lane l).state = .idle) :
    ((laneOutOfMotion k s).lane l).state = .idle := by
  by_cases same : l = k
  · subst same
    simp [laneOutOfMotion, endTrial, h]
  · have kept : (laneOutOfMotion k s).lane l = s.lane l := by
      unfold laneOutOfMotion setLaneState endTrial
      dsimp only
      (repeat' split) <;> simp [lane_onLane, same]
    rw [kept, h]

/-- A lane IDLE before the line's entry to READY is IDLE after it (R84). -/
theorem enterReady_idle {l : Lane} {s : State} (cause : StopCause) (h : (s.lane l).state = .idle) :
    ((enterReady cause s).lane l).state = .idle := by
  unfold enterReady headsAtReady
  refine forLanes_induction (P := fun t => (t.lane l).state = .idle)
    (fun k t idle => laneOutOfMotion_idle k (by rwa [stopBladeIf_lane])) ?_
  have notHeads : ∀ t : State, (enterIdle (setLine .ready t)).lane l = t.lane l := fun t =>
    lane_of_hd (kept_hd (b := { lp := true, sru := true, lc := true }) (by simp) rfl) l
  rw [notHeads]
  exact h

theorem settle_idle {l : Lane} {s : State} (before : State) (n : Nat) (h : (s.lane l).state = .idle) :
    ((settle before n s).lane l).state = .idle := by
  rw [settle_lane_state, settleDrain]
  split
  · exact enterReady_idle _ (by simpa using h)
  · simpa using h

/-! ### A lane in service keeps the line, and its state -/

theorem mem_lanes : ∀ l : Lane, l ∈ lanes := by decide

/-- A configured lane in service holds off the drain of NO_LANES (R85). -/
theorem checkNoLanes_of_inService {l : Lane} {s : State} (before : State) (hc : s.isConfigured l = true)
    (hs : (s.lane l).inService = true) : checkNoLanes before s = s := by
  have some_lane : s.noLanes = false := by
    simp only [State.noLanes, List.all_eq_false]
    exact ⟨l, mem_lanes l, by simp [hc, hs]⟩
  simp [checkNoLanes, some_lane]

/-- The entry to RUNNING makes no line drain (R177). -/
theorem settleStart_draining {s : State} (h : (settleStart s).lc.state = .draining) : s.lc.state = .draining := by
  unfold settleStart at h
  split at h
  · exact absurd h (by simp [enterRunning, setLine, raise])
  · exact h

theorem settleStart_tableCount (s : State) : (settleStart s).tableCount = s.tableCount := by
  unfold settleStart; split <;> rfl

/-- Without a drain over an empty table, a configured lane in service keeps its state (R85, R180). -/
theorem settle_inService {l : Lane} {s : State} (before : State) (n : Nat) (hc : s.isConfigured l = true)
    (hs : (s.lane l).inService = true) (drains : s.lc.state = .draining → s.tableCount ≠ 0) :
    ((settle before n s).lane l).state = (s.lane l).state := by
  have frame : (forLanes stopIdleBlade s).without { hd := true } = s.without { hd := true } :=
    without_forLanes s _ fun k t => stopIdleBlade_without t k rfl
  have line := kept_lc frame rfl rfl
  have table : (forLanes stopIdleBlade s).tableCount = s.tableCount :=
    congrArg (fun t : Trk => t.records.length) (kept_trk frame rfl)
  have configured : (forLanes stopIdleBlade s).isConfigured l = true := by
    rw [← hc, State.isConfigured, State.set, kept_settings frame rfl]; rfl
  have goesOn : ¬((settleStart (forLanes stopIdleBlade s)).lc.state = .draining ∧
      (settleStart (forLanes stopIdleBlade s)).tableCount = 0) := by
    rintro ⟨draining, empty⟩
    rw [settleStart_tableCount, table] at empty
    exact drains (line ▸ settleStart_draining draining) empty
  rw [settle_lane_state, checkNoLanes_of_inService before configured (by simpa using hs), settleDrain, if_neg goesOn]
  simp

/-! ### CLEAR_LANE (R87) -/

theorem exec_clearLane (tag : Byte) (p : List Byte) (s : State) :
    exec (.clearLane tag p) s = execClearLane tag p s := rfl

/-- A CLEAR_LANE in hand with its one byte is answered by its owning rule. -/
theorem exec_clearLane_handling {tag n : Byte} {s : State} (h : Handling ⟨0x32, tag, [n]⟩ s) :
    exec (.clearLane tag [n]) s = .next (giveReply 0x32 tag (ownClearLane [n] s)) := by
  rw [exec_clearLane, execClearLane, serve_handling 1 ownClearLane h, if_pos List.length_singleton]

theorem asLane_val (l : Lane) : asLane l.val = some l := dif_pos l.isLt

theorem val_of_asLane {n : Nat} {l : Lane} (h : asLane n = some l) : l.val = n := by
  unfold asLane at h
  split at h
  · exact congrArg Fin.val (Option.some.inj h).symm
  · exact nomatch h

theorem ownClearLane_of_unconfigured {n : Byte} {s : State} (h : s.set.configured ≤ n.toNat) :
    ownClearLane [n] s = Answer.refuse s .badField := by
  have byte : byteAt [n] 0 = n.toNat := rfl
  unfold ownClearLane
  rw [byte]
  split
  · next l named =>
    have outside : s.isConfigured l = false := by
      simpa [State.isConfigured, val_of_asLane named] using h
    simp [outside]
  · rfl

/-- What CLEAR_LANE itself does to a PARKED lane, before the blocks settle. -/
def cleared (l : Lane) (s : State) : State :=
  setLaneState (s.clearedTo l) l (onLane l (fun c => { c with trialFails := 0 }) s)

theorem ownClearLane_of_configured {n : Byte} {l : Lane} {s : State} (hn : n.toNat = l.val)
    (hc : s.isConfigured l = true) :
    ownClearLane [n] s =
      if (s.lane l).state = .parked then
        Answer.okay (settle s (cleared l s).pos (cleared l s))
          [byteOf ((settle s (cleared l s).pos (cleared l s)).lane l).state.code]
      else Answer.refuse s .wrongState := by
  have byte : byteAt [n] 0 = l.val := hn
  simp [ownClearLane, byte, asLane_val, hc, cleared]

theorem moving_iff (x : LineState) : x.moving = true ↔ x = .starting ∨ x = .running ∨ x = .draining := by
  cases x <;> simp [LineState.moving]

/-- The table of R87. -/
theorem clearedTo_eq (l : Lane) (s : State) : s.clearedTo l =
    if (s.lane l).target = true ∧ (s.lc.state = .starting ∨ s.lc.state = .running ∨ s.lc.state = .draining)
    then .down else .idle := by
  simp [State.clearedTo, moving_iff]

theorem clearedTo_cases (l : Lane) (s : State) : s.clearedTo l = .down ∨ s.clearedTo l = .idle := by
  unfold State.clearedTo; split <;> simp

/-- A PARKED lane changes its state at a CLEAR_LANE, so LANE_CHANGE is raised (R78). -/
theorem cleared_of_parked {l : Lane} {s : State} (h : (s.lane l).state = .parked) :
    cleared l s = raiseLane l (onLane l (fun c => { c with state := s.clearedTo l })
      (onLane l (fun c => { c with trialFails := 0 }) s)) := by
  have moves : LaneState.parked ≠ s.clearedTo l := by
    rcases clearedTo_cases l s with h | h <;> simp [h]
  simp [cleared, setLaneState, h, moves]

theorem cleared_lane {l : Lane} {s : State} (h : (s.lane l).state = .parked) :
    (cleared l s).lane l = { s.lane l with state := s.clearedTo l, trialFails := 0 } := by
  simp [cleared_of_parked h]

theorem cleared_head (k l : Lane) (s : State) : (cleared l s).head k = s.head k := by
  unfold cleared setLaneState; split <;> rfl

theorem cleared_lane_ne {k l : Lane} (s : State) (h : k ≠ l) : (cleared l s).lane k = s.lane k := by
  unfold cleared setLaneState
  split <;> simp [lane_onLane, h]

theorem cleared_without (l : Lane) (s : State) : SameBut { lp := true, hd := true } s (cleared l s) := by
  simp [SameBut, cleared]

/-- Over the conditions of the line the settling leaves a cleared lane where R87 takes it: a DOWN lane holds the
line, and an IDLE one stays out of service. -/
theorem settle_cleared {l : Lane} {s : State} (before : State) (n : Nat) (hc : s.isConfigured l = true)
    (hp : (s.lane l).state = .parked) (line : LineHolds s) :
    ((settle before n (cleared l s)).lane l).state = s.clearedTo l := by
  have goes : ((cleared l s).lane l).state = s.clearedTo l := by rw [cleared_lane hp]
  rcases clearedTo_cases l s with down | idle
  · obtain ⟨-, -, -, drains⟩ := line
    have frame := cleared_without l s
    have serves : ((cleared l s).lane l).inService = true := by rw [LaneCtl.inService, goes, down]
    rw [← goes]
    refine settle_inService before n ?_ serves ?_
    · rwa [State.isConfigured, State.set, kept_settings frame rfl]
    · rw [State.tableCount, State.records, kept_lc frame rfl rfl, kept_trk frame rfl]
      exact drains
  · rw [idle] at goes ⊢
    exact settle_idle before n goes

/-- Settles O47: the answer by whether the lane is configured and PARKED; what the request does touches its lane
alone, and the settling then keeps where it has taken the lane. -/
theorem clearLane : Obligations.ClearLane := by
  unfold Obligations.ClearLane
  intro s tag n handling
  have answered := exec_clearLane_handling handling
  refine ⟨fun outside => ?_, fun l named configured => ⟨fun serving => ?_, fun parked => ?_⟩⟩
  · rw [Refused, answered, ownClearLane_of_unconfigured outside, giveReply_refuse]
  · rw [Refused, answered, ownClearLane_of_configured named configured, if_neg serving, giveReply_refuse]
  · rw [ownClearLane_of_configured named configured, if_pos parked, giveReply_okay] at answered
    simp only [← clearedTo_eq]
    refine ⟨⟨cleared l s, answered, cleared_without l s, ?_, cleared_lane parked, cleared_head l l s,
      fun k other => ⟨cleared_head k l s, cleared_lane_ne s other⟩⟩, fun line => ?_⟩
    · simp [cleared_of_parked parked]
    · have state := settle_cleared s (cleared l s).pos configured parked line
      rw [state] at answered
      refine ⟨_, answered, ?_, ?_⟩
      · rw [replyReady_lane, state]
      · exact replyReady_stands ⟨0x32, tag, [n]⟩ .ok _ none _

end Sys2Proof.Machine
end

section
/-! PROOFS. The gates at the end of a settling (R33, R34), and OPEN_SHIFT (R149, R150). -/

namespace Sys2Proof.Machine

/-! ### The gates follow their conditions after a settling -/

/-- What holds a gate closed is not read from LP. -/
@[simp] theorem replyReady_closedBy (r : Reply) (l : Lane) (s : State) :
    (replyReady r s).closedBy l = s.closedBy l := rfl

/-- An evaluation of the gates changes none of the conditions it evaluates. -/
@[simp] theorem evaluateGates_closedBy (l : Lane) (s : State) :
    (evaluateGates s).closedBy l = s.closedBy l := by
  unfold evaluateGates
  dsimp only
  split <;> rfl

theorem evaluateGates_gates (s : State) (l : Lane) :
    (evaluateGates s).trk.closedBy[l] = (evaluateGates s).closedBy l := by
  obtain ⟨evaluated, -, -⟩ := evaluateGates_follows s
  rw [evaluated, evaluateGates_closedBy]

/-- A settling ends with the evaluation of every gate (log entry 41). -/
theorem settle_gates (before : State) (n : Nat) (s : State) (l : Lane) :
    (settle before n s).trk.closedBy[l] = (settle before n s).closedBy l := by
  rw [settle]
  exact evaluateGates_gates _ l

/-- The reply to a request leaves the gates as they were evaluated. -/
theorem replyReady_gates {s : State} (r : Reply) (h : ∀ l : Lane, s.trk.closedBy[l] = s.closedBy l) (l : Lane) :
    (replyReady r s).trk.closedBy[l] = (replyReady r s).closedBy l := by
  rw [replyReady_closedBy, ← h]
  rfl

/-! ### OPEN_SHIFT (R149, R150) -/

theorem exec_openShift (tag : Byte) (p : List Byte) (s : State) :
    exec (.openShift tag p) s = execOpenShift tag p s := rfl

/-- An OPEN_SHIFT in hand with its one byte is answered by its owning rule. -/
theorem exec_openShift_handling {tag d : Byte} {s : State} (h : Handling ⟨0x60, tag, [d]⟩ s) :
    exec (.openShift tag [d]) s = .next (giveReply 0x60 tag (ownOpenShift [d] s)) := by
  rw [exec_openShift, execOpenShift, serve_handling 1 ownOpenShift h, if_pos List.length_singleton]

@[simp] theorem byteAt_singleton (d : Byte) : byteAt [d] 0 = d.toNat := rfl

@[simp] theorem byteOf_toNat (d : Byte) : byteOf d.toNat = d := by
  simp [byteOf]

theorem digitOk_iff (n : Nat) : digitOk n = true ↔ 1 ≤ n ∧ n ≤ 9 := decide_eq_true_iff

/-- The first of R150's conditions is the digit. -/
theorem ownOpenShift_of_badDigit {d : Byte} {s : State} (h : ¬(1 ≤ d.toNat ∧ d.toNat ≤ 9)) :
    ownOpenShift [d] s = Answer.refuse s .badField := by
  have bad : digitOk d.toNat = false := Bool.eq_false_iff.2 (mt (digitOk_iff _).1 h)
  simp [ownOpenShift, bad]

/-- The second is a shift that is OPEN already. -/
theorem ownOpenShift_of_opened {d : Byte} {s : State} (h : 1 ≤ d.toNat ∧ d.toNat ≤ 9) (opened : s.tot.opened ≠ none) :
    ownOpenShift [d] s = Answer.refuse s .wrongState := by
  simp [ownOpenShift, (digitOk_iff _).2 h, Option.isSome_iff_ne_none.2 opened]

/-- The third is a clock that is not valid. -/
theorem ownOpenShift_of_noClock {d : Byte} {s : State} (h : 1 ≤ d.toNat ∧ d.toNat ≤ 9) (closed : s.tot.opened = none)
    (clock : s.pst.clockValid = false) : ownOpenShift [d] s = Answer.refuse s .noClock := by
  simp [ownOpenShift, (digitOk_iff _).2 h, closed, clock]

/-- With none of the three the shift is opened, and the reply carries its sequence, digit and open time. -/
theorem ownOpenShift_accepted {d : Byte} {s : State} (h : 1 ≤ d.toNat ∧ d.toNat ≤ 9) (closed : s.tot.opened = none)
    (clock : s.pst.clockValid = true) :
    ownOpenShift [d] s =
      Answer.okay (settle s (openShift d.toNat s).pos (openShift d.toNat s))
        (leBytes 2 s.nextShiftSeq ++ [d] ++ leBytes 4 s.pst.clock) := by
  simp [ownOpenShift, (digitOk_iff _).2 h, closed, clock]

end Sys2Proof.Machine

/-! What the request does is `Machine.openShift`, so the theorem of that name stands beside it, under Requests. -/

namespace Sys2Proof.Requests

open Sys2Proof.Machine

/-- Settles O59: the answer by the first of R150's conditions that refuses it; an accepted one opens its shift, and
the settling that follows evaluates every gate. -/
theorem openShift : Obligations.OpenShift := by
  unfold Obligations.OpenShift
  intro s tag d handling
  have answered := exec_openShift_handling handling
  dsimp only
  refine ⟨fun bad => ?_, fun ok opened => ?_, fun ok closed clock => ?_, fun ok closed clock => ?_⟩
  · rw [Refused, answered, ownOpenShift_of_badDigit bad, giveReply_refuse]
  · rw [Refused, answered, ownOpenShift_of_opened ok opened, giveReply_refuse]
  · rw [Refused, answered, ownOpenShift_of_noClock ok closed clock, giveReply_refuse]
  · rw [ownOpenShift_accepted ok closed clock, giveReply_okay] at answered
    exact ⟨answered, _, answered, replyReady_gates _ (settle_gates s _ _)⟩

end Sys2Proof.Requests
end

section
/-! PROOFS. The entry to READY (R84, R175), what the settling leaves of the line (R177, R180, R183), and STOP (R178). -/

namespace Sys2Proof.Machine

/-! ### One lane and one head at an entry to READY (R84) -/

/-- What an operation done for each lane makes of a part that belongs to one lane. -/
theorem forLanes_own {α : Type} {read : State → α} {Made : α → α → Prop} {f : Lane → State → State} {l : Lane}
    (own : ∀ t, Made (read t) (read (f l t))) (other : ∀ k t, l ≠ k → read (f k t) = read t) (s : State) :
    Made (read s) (read (forLanes f s)) := by
  simp only [forLanes, lanes, List.foldl_cons, List.foldl_nil]
  fin_cases l
  · rw [other 3 _ (by decide), other 2 _ (by decide), other 1 _ (by decide)]
    exact own s
  · rw [other 3 _ (by decide), other 2 _ (by decide), ← other 0 s (by decide)]
    exact own _
  · rw [other 3 _ (by decide), ← other 0 s (by decide), ← other 1 _ (by decide)]
    exact own _
  · rw [← other 0 s (by decide), ← other 1 _ (by decide), ← other 2 _ (by decide)]
    exact own _

@[simp] theorem setLaneState_lane_self (st : LaneState) (l : Lane) (s : State) :
    (setLaneState st l s).lane l = { s.lane l with state := st } := by
  unfold setLaneState
  split
  · next same => rw [← same]
  · simp

theorem setLaneState_lane_ne {k l : Lane} (st : LaneState) (s : State) (h : l ≠ k) :
    (setLaneState st k s).lane l = s.lane l := by
  unfold setLaneState
  split <;> simp [lane_onLane, h]

@[simp] theorem setLaneState_head (st : LaneState) (k l : Lane) (s : State) :
    (setLaneState st k s).head l = s.head l := by
  unfold setLaneState; split <;> rfl

@[simp] theorem endTrial_head (k l : Lane) (s : State) : (endTrial k s).head l = s.head l := rfl

theorem endTrial_lane (k l : Lane) (s : State) : (endTrial k s).lane l =
    if l = k then { s.lane l with trialLeft := 0, trialList := [], trialRan := false, retrial := none }
    else s.lane l := lane_onLane ..

theorem laneOutOfMotion_lane_self (l : Lane) (s : State) :
    LaneAtRest (s.lane l) ((laneOutOfMotion l s).lane l) := by
  unfold laneOutOfMotion LaneAtRest
  cases h : (s.lane l).state <;> simp [endTrial_lane, h]

theorem laneOutOfMotion_lane_ne {k l : Lane} (s : State) (h : l ≠ k) :
    (laneOutOfMotion k s).lane l = s.lane l := by
  unfold laneOutOfMotion
  cases (s.lane k).state <;> simp [setLaneState_lane_ne _ _ h, endTrial_lane, h]

@[simp] theorem laneOutOfMotion_head (k l : Lane) (s : State) : (laneOutOfMotion k s).head l = s.head l := by
  unfold laneOutOfMotion
  cases (s.lane k).state <;> simp

theorem stopBladeIf_head_self (p : BladeState → Bool) (l : Lane) (s : State) :
    ((stopBladeIf p l s).head l).blade = if p (s.head l).blade then .stopped else (s.head l).blade := by
  unfold stopBladeIf
  split <;> simp [setBlade]

theorem stopBladeIf_head_ne {k l : Lane} (p : BladeState → Bool) (s : State) (h : l ≠ k) :
    (stopBladeIf p k s).head l = s.head l := by
  unfold stopBladeIf
  split <;> simp [setBlade, head_onHead, h]

theorem headsAtReady_lane (l : Lane) (s : State) : LaneAtRest (s.lane l) ((headsAtReady s).lane l) := by
  refine forLanes_own (l := l) (read := fun t => t.lane l) (fun t => ?_) (fun k t other => ?_) s
  · simpa using laneOutOfMotion_lane_self l (stopBladeIf _ l t)
  · simp [laneOutOfMotion_lane_ne _ other]

theorem headsAtReady_blade (l : Lane) (s : State) : ((headsAtReady s).head l).blade =
    if (s.head l).blade = .spinup ∨ (s.head l).blade = .running then .stopped else (s.head l).blade := by
  refine forLanes_own (l := l) (read := fun t => (t.head l).blade)
    (Made := fun b b' => b' = if b = .spinup ∨ b = .running then .stopped else b)
    (fun t => ?_) (fun k t other => ?_) s
  · simp [stopBladeIf_head_self]
  · simp [stopBladeIf_head_ne _ _ other]

theorem head_of_hd {s t : State} (h : t.hd = s.hd) (l : Lane) : t.head l = s.head l :=
  congrArg (fun hd : Hd => hd.heads[l]) h

/-! ### The line's entry to READY (R17, R84, R175) -/

theorem enterIdle_sru_state (s : State) : (enterIdle s).sru.state = .idle := by
  unfold enterIdle
  split
  · assumption
  · rfl

/-- The reference's entry to IDLE leaves LC but its held demand (R183). -/
theorem enterIdle_lc (s : State) : ∃ held, (enterIdle s).lc = { s.lc with held := held } := by
  unfold enterIdle
  split
  · exact ⟨_, rfl⟩
  · exact ⟨_, rfl⟩

theorem enterIdle_flag {k : Kind} {s : State} (h : s.flag k = true) : (enterIdle s).flag k = true := by
  unfold enterIdle
  split
  · exact h
  · have kept := raise_flag .refState k
    simp only [setReferenceState, kept]
    exact Bool.or_eq_true_iff.2 (.inl h)

@[simp] theorem setLine_flag (st : LineState) (k : Kind) (s : State) :
    (setLine st s).flag k = (s.flag k || decide (k = .lineState)) := by
  unfold setLine
  exact raise_flag ..

theorem setLaneState_flag {k : Kind} {s : State} (st : LaneState) (l : Lane) (h : s.flag k = true) :
    (setLaneState st l s).flag k = true := by
  unfold setLaneState
  split <;> simp [h]

theorem headsAtReady_flag {k : Kind} {s : State} (h : s.flag k = true) : (headsAtReady s).flag k = true := by
  refine forLanes_induction (P := fun t => t.flag k = true) (fun l t flag => ?_) h
  have stopped : (endTrial l (stopBladeIf (fun b => b == .spinup || b == .running) l t)).flag k = true := by
    unfold stopBladeIf
    split <;> exact flag
  unfold laneOutOfMotion
  dsimp only
  split
  · exact setLaneState_flag _ _ stopped
  · exact setLaneState_flag _ _ stopped
  · exact setLaneState_flag _ _ stopped
  · exact stopped

/-- The line's own part of an entry to READY, before the reference and the heads take it. -/
def lineToReady (cause : StopCause) (s : State) : State :=
  setLine .ready (s.onLc fun lc => { lc with cause := cause, startLimit := none, silence := none })

theorem enterReady_eq (cause : StopCause) (s : State) :
    enterReady cause s = headsAtReady (enterIdle (lineToReady cause s)) := rfl

theorem lineToReady_lc (cause : StopCause) (s : State) : (lineToReady cause s).lc =
    { s.lc with state := .ready, cause := cause, startLimit := none, silence := none } := rfl

theorem headsAtReady_frame (s : State) :
    (headsAtReady s).without { lp := true, hd := true } = s.without { lp := true, hd := true } :=
  headsAtReady_without s rfl rfl

theorem enterReady_lc (cause : StopCause) (s : State) : ∃ held, (enterReady cause s).lc =
    { s.lc with state := .ready, cause := cause, startLimit := none, silence := none, held := held } := by
  obtain ⟨held, line⟩ := enterIdle_lc (lineToReady cause s)
  refine ⟨held, ?_⟩
  rw [enterReady_eq, kept_lc (headsAtReady_frame _) rfl rfl, line, lineToReady_lc]

theorem enterReady_sru_state (cause : StopCause) (s : State) : (enterReady cause s).sru.state = .idle := by
  rw [enterReady_eq, kept_sru (headsAtReady_frame _) rfl rfl, enterIdle_sru_state]

theorem enterReady_flag (cause : StopCause) (s : State) : (enterReady cause s).flag .lineState = true :=
  headsAtReady_flag (enterIdle_flag (by simp))

/-- The reference's entry to IDLE comes between the line's and the heads', and moves neither lane nor blade. -/
theorem enterIdle_lineToReady_hd (cause : StopCause) (s : State) :
    (enterIdle (lineToReady cause s)).hd = s.hd :=
  kept_hd (b := { lp := true, sru := true, lc := true }) (by simp [lineToReady]) rfl

theorem enterReady_taken (cause : StopCause) (s : State) : ReadyTaken cause s (enterReady cause s) := by
  obtain ⟨held, lc⟩ := enterReady_lc cause s
  have hd := enterIdle_lineToReady_hd cause s
  unfold ReadyTaken SameBut
  refine ⟨by simp, by rw [lc], by rw [lc], by rw [lc], by rw [lc], by rw [lc], enterReady_sru_state cause s,
    enterReady_flag cause s, fun l => ⟨?_, ?_⟩⟩
  · rw [enterReady_eq, ← lane_of_hd hd l]
    exact headsAtReady_lane l _
  · rw [enterReady_eq, ← head_of_hd hd l]
    exact headsAtReady_blade l _

/-! ### The entry to DRAINING (R178, R179) -/

theorem enterDraining_lc (cause : StopCause) (s : State) : (enterDraining cause s).lc =
    { s.lc with state := .draining, cause := cause, startLimit := none, silence := none } := rfl

theorem enterDraining_flag (cause : StopCause) (s : State) : (enterDraining cause s).flag .lineState = true := by
  simp [enterDraining]

theorem enterDraining_tableCount (cause : StopCause) (s : State) :
    (enterDraining cause s).tableCount = s.tableCount := rfl

/-! ### The line after a settling -/

/-- What the derived values leave of LC: the line state, the stop cause, the start limit and the silence timer. -/
def Lc.standing (c : Lc) : LineState × StopCause × Timer × Timer := (c.state, c.cause, c.startLimit, c.silence)

theorem forLanes_lc {f : Lane → State → State} (h : ∀ l t, (f l t).without { hd := true } = t.without { hd := true })
    (s : State) : (forLanes f s).lc = s.lc := kept_lc (without_forLanes s f h) rfl rfl

@[simp] theorem evaluateGates_lc (s : State) : (evaluateGates s).lc = s.lc :=
  kept_lc (evaluateGates_without (b := { lp := true, trk := true }) s rfl rfl) rfl rfl

@[simp] theorem evaluateGates_demandTarget (s : State) : (evaluateGates s).demandTarget = s.demandTarget := by
  unfold evaluateGates
  dsimp only
  split <;> rfl

/-- The derived values renew the ceiling, the target and the ramp's carry alone of LC. -/
@[simp] theorem refresh_standing (s : State) : (refresh s).lc.standing = s.lc.standing := rfl

theorem refresh_target (s : State) : (refresh s).lc.target = (refresh s).demandTarget := rfl

/-- A settling leaves the demand target of R183's row. -/
theorem settle_target (before : State) (n : Nat) (s : State) :
    (settle before n s).lc.target = (settle before n s).demandTarget := by
  rw [settle, evaluateGates_lc, evaluateGates_demandTarget]
  exact refresh_target _

@[simp] theorem replyReady_lc (r : Reply) (s : State) : (replyReady r s).lc = s.lc := rfl

/-- The demand target is not read from LP. -/
theorem replyReady_target (r : Reply) {s : State} (h : s.lc.target = s.demandTarget) :
    (replyReady r s).lc.target = (replyReady r s).demandTarget := h

/-- Of the settling, the line's own three checks alone can move the line. -/
theorem settle_standing (before : State) (n : Nat) (s : State) :
    (settle before n s).lc.standing =
      (settleDrain (settleStart (checkNoLanes before (forLanes stopIdleBlade s)))).lc.standing := by
  have blades := forLanes_lc (f := stopIdleBlade) fun l t => stopIdleBlade_without t l rfl
  have retrials := forLanes_lc (f := settleRetrial) fun l t => settleRetrial_without t l rfl
  have purge : ∀ t, (settlePurge n t).lc = t.lc := fun t =>
    kept_lc (settlePurge_without (b := { hd := true, crm := true }) t n rfl rfl) rfl rfl
  have changeover : ∀ t, (settleChangeover t).lc = t.lc := fun t =>
    kept_lc (settleChangeover_without (b := { arb := true }) t rfl) rfl rfl
  have reindex : ∀ t, (settleReindex t).lc = t.lc := fun t =>
    kept_lc (settleReindex_without (b := { tie := true }) t rfl) rfl rfl
  have granted : ∀ t, (settleGrant n t).lc = t.lc := fun t =>
    kept_lc (settleGrant_without (b := { trk := true, arb := true }) t n rfl rfl) rfl rfl
  simp only [settle, evaluateGates_lc, refresh_standing, changeover, granted, retrials, purge, reindex, blades]

theorem settleDrain_standing (s : State) : (settleDrain s).lc.standing =
    if s.lc.state = .draining ∧ s.tableCount = 0 then (.ready, s.lc.cause, none, none) else s.lc.standing := by
  unfold settleDrain
  split
  · obtain ⟨-, ready, cause, limit, silence, -⟩ := enterReady_taken s.lc.cause s
    rw [Lc.standing, ready, cause, limit, silence]
  · rfl

/-- A line in READY or DRAINING is moved by a settling only from DRAINING over an empty table to READY, its stop
cause kept (R180). -/
theorem settle_standing_of_stopped {s : State} (before : State) (n : Nat)
    (h : s.lc.state = .ready ∨ s.lc.state = .draining) :
    (settle before n s).lc.standing =
      if s.lc.state = .draining ∧ s.tableCount = 0 then (.ready, s.lc.cause, none, none) else s.lc.standing := by
  have frame := without_forLanes (b := { hd := true }) s stopIdleBlade fun l t => stopIdleBlade_without t l rfl
  have line := kept_lc frame rfl rfl
  have table : (forLanes stopIdleBlade s).tableCount = s.tableCount :=
    congrArg (fun t : Trk => t.records.length) (kept_trk frame rfl)
  have noLanes : checkNoLanes before (forLanes stopIdleBlade s) = forLanes stopIdleBlade s :=
    if_neg fun due => by rw [line] at due; rcases h with h | h <;> simp [h] at due
  have noStart : settleStart (forLanes stopIdleBlade s) = forLanes stopIdleBlade s :=
    if_neg fun due => by rw [line] at due; rcases h with h | h <;> simp [h] at due
  rw [settle_standing, noLanes, noStart, settleDrain_standing, line, table]

/-! ### STOP (R178) -/

/-- What STOP itself does where it is not refused, before the blocks settle. -/
def stopped (s : State) : State := if s.lc.state = .halted then enterReady .stop s else requestDrain .stop s

theorem ownStop_refused {p : List Byte} {s : State} (halted : s.lc.state = .halted) (h : s.tableCount ≠ 0) :
    ownStop p s = Answer.refuse s .wrongState := by
  simp [ownStop, halted, h]

theorem ownStop_accepted {p : List Byte} {s : State} (h : s.lc.state ≠ .halted ∨ s.tableCount = 0) :
    ownStop p s = answerLine s (stopped s) := by
  unfold ownStop stopped
  split
  · next halted => rw [if_pos (h.resolve_left fun n => n halted), if_pos halted]
  · next moving => rw [if_neg moving]

theorem stopped_of_settled {s : State} (h : s.lc.state = .ready ∨ s.lc.state = .draining) : stopped s = s := by
  rcases h with h | h <;> simp [stopped, requestDrain, h]

theorem stopped_drains {s : State} (h : s.lc.state = .running ∨ (s.lc.state = .starting ∧ s.tableCount ≠ 0)) :
    stopped s = enterDraining .stop s := by
  rcases h with h | ⟨h, records⟩
  · simp [stopped, requestDrain, h]
  · simp [stopped, requestDrain, h, records]

theorem stopped_readies {s : State} (h : s.lc.state = .starting ∨ s.lc.state = .halted) (empty : s.tableCount = 0) :
    stopped s = enterReady .stop s := by
  rcases h with h | h <;> simp [stopped, requestDrain, h, empty]

@[simp] theorem stopped_without {b : Parts} (s : State) (h0 : b.lp = true) (h1 : b.sru = true) (h2 : b.lc = true)
    (h3 : b.hd = true) : (stopped s).without b = s.without b := by
  unfold stopped
  split <;> simp [h0, h1, h2, h3]

theorem exec_stop (tag : Byte) (p : List Byte) (s : State) : exec (.stop tag p) s = execStop tag p s := rfl

/-- A STOP in hand is answered by its owning rule. -/
theorem exec_stop_handling {tag : Byte} {s : State} (h : Handling ⟨0x21, tag, []⟩ s) :
    exec (.stop tag []) s = .next (giveReply 0x21 tag (ownStop [] s)) := by
  rw [exec_stop, execStop, serve_handling 0 ownStop h, if_pos List.length_nil]

/-- Where STOP is not refused the reply carries the line state after the blocks have settled. -/
theorem stop_replies {tag : Byte} {s : State} (h : Handling ⟨0x21, tag, []⟩ s)
    (accepted : s.lc.state ≠ .halted ∨ s.tableCount = 0) :
    Replies (.stop tag []) ⟨0x21, tag, []⟩ .ok (fun v => [byteOf v.lc.state.code]) s (stopped s) := by
  rw [Replies, exec_stop_handling h, ownStop_accepted accepted, answerLine, giveReply_okay]
  rfl

/-- A STOP that is not refused leaves the line in READY over an empty table and in DRAINING otherwise, with cause STOP
and both timers stopped where it has moved the line (R178, R180). -/
theorem settle_stopped {s : State} (before : State) (n : Nat) (line : LineHolds s)
    (accepted : s.lc.state ≠ .halted ∨ s.tableCount = 0) :
    (settle before n (stopped s)).lc.standing =
      if s.lc.state = .ready ∨ s.lc.state = .draining then s.lc.standing
      else (if s.tableCount = 0 then .ready else .draining, .stop, none, none) := by
  obtain ⟨-, -, -, drains⟩ := line
  have ended (h : s.lc.state = .starting ∨ s.lc.state = .halted) (empty : s.tableCount = 0) :
      (settle before n (stopped s)).lc.standing = (.ready, .stop, none, none) := by
    obtain ⟨-, ready, cause, limit, silence, -⟩ := enterReady_taken .stop s
    rw [stopped_readies h empty, settle_standing_of_stopped before n (.inl ready), if_neg (by simp [ready]),
      Lc.standing, ready, cause, limit, silence]
  have drained (h : s.lc.state = .running ∨ (s.lc.state = .starting ∧ s.tableCount ≠ 0)) :
      (settle before n (stopped s)).lc.standing =
        (if s.tableCount = 0 then .ready else .draining, .stop, none, none) := by
    rw [stopped_drains h, settle_standing_of_stopped before n (.inr rfl), enterDraining_tableCount, enterDraining_lc]
    by_cases empty : s.tableCount = 0 <;> simp [empty, Lc.standing]
  cases now : s.lc.state
  case ready =>
    rw [stopped_of_settled (.inl now), settle_standing_of_stopped before n (.inl now)]
    simp [now]
  case draining =>
    rw [stopped_of_settled (.inr now), settle_standing_of_stopped before n (.inr now)]
    simp [drains now]
  case running => simpa using drained (.inl now)
  case starting =>
    by_cases empty : s.tableCount = 0
    · simpa [empty] using ended (.inl now) empty
    · simpa using drained (.inr ⟨now, empty⟩)
  case halted =>
    have empty := accepted.resolve_left fun n => n now
    simpa [empty] using ended (.inr now) empty

/-- The line of R178's table after the settling, field by field. -/
theorem settle_stopped_lc {s : State} (before : State) (n : Nat) (line : LineHolds s)
    (accepted : s.lc.state ≠ .halted ∨ s.tableCount = 0) :
    let c := (settle before n (stopped s)).lc
    c.state = (if s.tableCount = 0 then .ready else .draining) ∧
      c.cause = (if s.lc.state = .ready ∨ s.lc.state = .draining then s.lc.cause else .stop) ∧
      (s.lc.state = .running ∨ s.lc.state = .starting → c.startLimit = none ∧ c.silence = none) := by
  have stands := settle_stopped before n line accepted
  obtain ⟨-, ready, -, draining⟩ := line
  by_cases rests : s.lc.state = .ready ∨ s.lc.state = .draining
  · rw [if_pos rests, Lc.standing, Lc.standing, Prod.mk.injEq, Prod.mk.injEq] at stands
    obtain ⟨state, cause, -⟩ := stands
    refine ⟨?_, by rw [cause, if_pos rests], fun moves => ?_⟩
    · rcases rests with h | h
      · rw [state, h, if_pos (ready h)]
      · rw [state, h, if_neg (draining h)]
    · rcases rests with h | h <;> simp [h] at moves
  · rw [if_neg rests, Lc.standing, Prod.mk.injEq, Prod.mk.injEq, Prod.mk.injEq] at stands
    obtain ⟨state, cause, limit, silence⟩ := stands
    exact ⟨state, by rw [cause, if_neg rests], fun _ => ⟨limit, silence⟩⟩

/-- Settles O39: the effect by the line state and the table; the settling that follows ends a drain over an empty
table, moves no other line in READY or DRAINING, and computes the demand target. -/
theorem stop : Obligations.Stop := by
  unfold Obligations.Stop
  intro s tag handling
  refine ⟨fun rests => ?_, fun moves => ?_, fun ends empty => ?_, fun halted records => ?_, fun line accepted => ?_⟩
  · have answered := stop_replies handling (.inl (by rcases rests with h | h <;> simp [h]))
    rwa [stopped_of_settled rests] at answered
  · have answered := stop_replies handling (.inl (by rcases moves with h | ⟨h, -⟩ <;> simp [h]))
    rw [stopped_drains moves] at answered
    exact ⟨_, answered, enterDraining_without s _ rfl rfl, enterDraining_flag _ s, enterDraining_lc _ s⟩
  · have answered := stop_replies handling (.inr empty)
    rw [stopped_readies ends empty] at answered
    exact ⟨_, answered, enterReady_taken .stop s⟩
  · rw [Refused, exec_stop_handling handling, ownStop_refused halted records, giveReply_refuse]
  · have target := replyReady_target
      ⟨replyFrame 0x21 tag .ok [byteOf (settle s (stopped s).pos (stopped s)).lc.state.code], none⟩
      (settle_target s (stopped s).pos (stopped s))
    refine ⟨_, stop_replies handling accepted, by simp [SameBut], ?_⟩
    obtain ⟨state, cause, timers⟩ := settle_stopped_lc s (stopped s).pos line accepted
    have follows := targetFollows_computed target
    rw [replyReady_lc] at target ⊢
    exact ⟨replyReady_stands ⟨0x21, tag, []⟩ .ok _ none _, state, cause, timers, target, follows⟩

end Sys2Proof.Machine
end

section
/-! PROOFS. SET_NOTICE_MASK, and what a raising does under the mask (R193, R196). -/

namespace Sys2Proof.Machine

/-! ### Kind sets and their bytes (R196) -/

theorem leNat_lt (bs : List Byte) : leNat bs < 256 ^ bs.length := by
  induction bs with
  | nil => simp [leNat]
  | cons b bs ih =>
    have byte := b.isLt
    simp only [leNat, List.length_cons, pow_succ]
    omega

/-- Bytes are given back by the number they carry. -/
theorem leBytes_leNat (bs : List Byte) : leBytes bs.length (leNat bs) = bs := by
  induction bs with
  | nil => rfl
  | cons b bs ih =>
    have byte := b.isLt
    have low : BitVec.ofNat 8 (b.toNat + 256 * leNat bs) = b :=
      BitVec.eq_of_toNat_eq (by rw [BitVec.toNat_ofNat]; omega)
    have high : (b.toNat + 256 * leNat bs) / 256 = leNat bs := by omega
    simp only [List.length_cons, leNat, leBytes, low, high, ih]

/-- Three bytes lose nothing in the 24 bits of a kind set. -/
theorem toNat_kindSet {bs : List Byte} (h : bs.length = 3) : (kindSet bs).toNat = leNat bs := by
  have fits := leNat_lt bs
  rw [h] at fits
  exact Nat.mod_eq_of_lt fits

theorem leBytes_kindSet {bs : List Byte} (h : bs.length = 3) : leBytes 3 (kindSet bs).toNat = bs := by
  rw [toNat_kindSet h, ← h, leBytes_leNat]

theorem kindIn_eq_testBit (set : BitVec 24) (k : Kind) : kindIn set k = set.toNat.testBit (k.code - 1) := rfl

theorem leNat_three (a b c : Byte) : leNat [a, b, c] = a.toNat + 256 * b.toNat + 65536 * c.toNat := by
  simp only [leNat]
  omega

/-- A kind stands in the set of three bytes when its bit of their number is set. -/
theorem kindIn_kindSet (a b c : Byte) (k : Kind) :
    kindIn (kindSet [a, b, c]) k = (a.toNat + 256 * b.toNat + 65536 * c.toNat).testBit (k.code - 1) := by
  rw [kindIn_eq_testBit, toNat_kindSet rfl, leNat_three]

/-! ### A raising of a kind that is neither masked nor queued (R193) -/

/-- A transmitter that is sending begins nothing (R192). -/
theorem beginNext_of_busy {lp : Lp} (h : lp.tx ≠ .idle) : lp.beginNext = lp := by
  unfold Lp.beginNext
  split
  · next idle => exact absurd idle h
  · rfl

/-- ATTN stands with a notice at the tail of the queue (R195). -/
theorem withAttn_append (lp : Lp) (q : List Notice) (n : Notice) :
    Lp.withAttn { lp with queue := q ++ [n] } = { lp with queue := q ++ [n], attn := true } := by
  have waits : (q ++ [n]).isEmpty = false := by simp
  rw [Lp.withAttn, waits, Bool.not_false]

/-- The notice joins the tail of the queue, and LP may begin to send. -/
theorem raise_unmasked {k : Kind} {s : State} (x : List Byte) (unmasked : kindIn s.lp.mask k = false)
    (fresh : ∀ n ∈ s.lp.queue, n.kind ≠ k) :
    (raise k x s).lp = Lp.beginNext { s.lp with
      flags := s.lp.flags ||| k.bit, queue := s.lp.queue ++ [⟨k, s.pst.clock, x⟩], attn := true } := by
  have appends : ¬(kindIn s.lp.mask k || s.lp.queue.any fun n => n.kind == k) = true := by
    simpa [unmasked] using fresh
  rw [raise, onLp_lp, Lp.raise, if_neg appends]
  exact congrArg Lp.beginNext (withAttn_append _ _ _)

/-! ### SET_NOTICE_MASK (R196) -/

theorem exec_setNoticeMask (tag : Byte) (p : List Byte) (s : State) :
    exec (.setNoticeMask tag p) s = execSetNoticeMask tag p s := rfl

/-- A SET_NOTICE_MASK in hand with its three bytes is answered by its owning rule. -/
theorem exec_setNoticeMask_handling {tag : Byte} {p : List Byte} {s : State} (h : Handling ⟨0x04, tag, p⟩ s)
    (hp : p.length = 3) : exec (.setNoticeMask tag p) s = .next (giveReply 0x04 tag (ownSetNoticeMask p s)) := by
  rw [exec_setNoticeMask, execSetNoticeMask, serve_handling 3 ownSetNoticeMask h, if_pos hp]

/-- The mask in force is the set of the three bytes, and the reply carries the same three. -/
theorem ownSetNoticeMask_eq {p : List Byte} (hp : p.length = 3) (s : State) :
    ownSetNoticeMask p s = Answer.okay (s.onLp (·.setMask (kindSet p))) p := by
  have inForce : leBytes 3 (s.onLp (·.setMask (kindSet p))).lp.mask.toNat = p := leBytes_kindSet hp
  rw [ownSetNoticeMask, inForce]

/-- Settles O53: the reply returns the bytes of the set, and a raising follows the mask in force, whichever it is. -/
theorem setNoticeMask : Obligations.SetNoticeMask := by
  unfold Obligations.SetNoticeMask
  intro s tag a b c handling
  dsimp only
  refine ⟨?_, kindIn_kindSet a b c, fun k x u =>
    ⟨?_, fun masked => ?_, fun unmasked fresh busy => ?_, fun j other => ?_⟩⟩
  · rw [exec_setNoticeMask_handling handling rfl, ownSetNoticeMask_eq rfl, giveReply_okay]
    rfl
  · simp
  · rw [raise_masked x masked, onLp_lp]
  · exact (raise_unmasked x unmasked fresh).trans (beginNext_of_busy busy)
  · simp [other]

end Sys2Proof.Machine
end

section
/-! PROOFS. What an event does, as a chain of acts: each act changes one block, or moves one record, within what the
conditions of the part ask of it. A condition that every act keeps is kept by every event. -/

namespace Sys2Proof.Machine

/-! ### The conditions, block by block -/

/-- A line monitor's count and history (R2). -/
def LineMonitor.InRange (x : LineMonitor) : Prop :=
  x.mon.count ≤ Config.pulseMax ∧ x.history.length ≤ Config.historyMax

def Sru.InRange (x : Sru) : Prop := x.w.InRange ∧ x.m.InRange

def Hd.InRange (x : Hd) : Prop :=
  ∀ l : Lane, x.heads[l].mon.count ≤ Config.pulseMax ∧ x.lanes[l].trialFails ≤ 15

def Arb.InRange (x : Arb) : Prop := ∀ l : Lane, x.bypass[l] ≤ 32

def Bag.InRange (x : Bag) : Prop := x.supply ≤ Config.bagMax

def Tie.InRange (x : Tie) : Prop :=
  x.supply ≤ Config.clipMax ∧ x.nextTrigger < 256 ∧ x.counters.mismatches ≤ 255

def HeadCrumb.InRange (x : HeadCrumb) : Prop :=
  x.estimate ≤ Config.crumbMax ∧ x.loaves ≤ Config.loavesMax ∧ 32 ≤ x.correction ∧ x.correction ≤ 128

def Crm.InRange (x : Crm) : Prop := x.belt ≤ Config.crumbMax ∧ ∀ l : Lane, x.heads[l].InRange

/-- The conditions of PurgesHold, which look at CRM alone. -/
def Crm.Orderly (x : Crm) : Prop :=
  (x.queue.map PurgeEntry.target).Nodup ∧ (x.state = .idle ↔ x.queue = []) ∧
    (x.running = true → ∃ y, x.cycle = some y ∧ x.queue.head?.map PurgeEntry.target = some y.target) ∧
    (x.purge.isSome = true → x.state = .purging)

/-- The conditions of LinkHolds, which look at LP alone. -/
def Lp.Orderly (x : Lp) : Prop :=
  (x.queue.map Notice.kind).Nodup ∧ (∀ n ∈ x.queue, kindIn x.mask n.kind = false) ∧
    x.attn = !x.queue.isEmpty ∧ (x.hand = none → x.waiting = none ∧ x.reply = none) ∧
    (x.tx = .idle → x.reply = none ∧ x.queue = [])

/-- The conditions of StoreHolds, which look at PST alone. -/
def Pst.Orderly (x : Pst) : Prop :=
  settingsValid x.settings = true ∧ (∀ i : Slot, ∀ p, x.slots[i] = some p → profileValid p = true) ∧
    ∀ l : Lane, ∀ i, x.assign[l] = some i → (x.slots[i]).isSome = true

theorem purgesHold_iff (s : State) : PurgesHold s ↔ s.crm.Orderly := Iff.rfl

theorem linkHolds_iff (s : State) : LinkHolds s ↔ s.lp.Orderly := Iff.rfl

theorem storeHolds_iff (s : State) : StoreHolds s ↔ s.pst.Orderly := Iff.rfl

theorem rangesHold_iff (s : State) : RangesHold s ↔ s.sru.pos ≤ Config.posMax ∧ s.pst.clock ≤ Config.clockMax ∧
    s.bag.InRange ∧ s.tie.InRange ∧ s.sru.InRange ∧ s.crm.InRange ∧ s.hd.InRange ∧ s.arb.InRange := by
  constructor
  · rintro ⟨pos, clock, bags, clips, trigger, mismatches, w, m, hw, hm, belt, each⟩
    exact ⟨pos, clock, bags, ⟨clips, trigger, mismatches⟩, ⟨⟨w, hw⟩, m, hm⟩,
      ⟨belt, fun l => let ⟨_, e, v, a, b, _, _⟩ := each l; ⟨e, v, a, b⟩⟩,
      fun l => let ⟨n, _, _, _, _, _, t⟩ := each l; ⟨n, t⟩, fun l => let ⟨_, _, _, _, _, y, _⟩ := each l; y⟩
  · rintro ⟨pos, clock, bags, ⟨clips, trigger, mismatches⟩, ⟨⟨w, hw⟩, m, hm⟩, ⟨belt, crumbs⟩, heads, bypass⟩
    exact ⟨pos, clock, bags, clips, trigger, mismatches, w, m, hw, hm, belt, fun l =>
      let ⟨e, v, a, b⟩ := crumbs l; let ⟨n, t⟩ := heads l; ⟨n, e, v, a, b, bypass l, t⟩⟩

/-- The line states over which the table is empty: READY, and STARTING from READY (R175, R176). -/
def Lc.WantsEmpty (x : Lc) : Prop := x.state = .ready ∨ (x.state = .starting ∧ x.origin = .ready)

/-! ### The conditions on one record -/

/-- A record that is still of the same loaf: its number, its lane and its shift tag. -/
def Rec.SameLoaf (r x : Rec) : Prop := x.loaf = r.loaf ∧ x.lane = r.lane ∧ x.tag = r.tag

/-- The condition of DecisionsHold on one record (R43, R45). -/
def Rec.DecidedWell (r : Rec) : Prop :=
  (r.decision.isSome ↔ r.state = .decided) ∧
    (r.decision = some .pass → r.suspect = false ∧ (r.reasons = [] ∨ r.late = true))

theorem decisionsHold_iff (s : State) : DecisionsHold s ↔ ∀ r ∈ s.records, r.DecidedWell := Iff.rfl

/-- No two records share a loaf number (R26). -/
def State.LoavesDiffer (s : State) : Prop := (s.records.map Rec.loaf).Nodup

theorem eq_of_loaf_eq {rs : List Rec} {r x : Rec} (h : (rs.map Rec.loaf).Nodup) (hr : r ∈ rs) (hx : x ∈ rs)
    (e : x.loaf = r.loaf) : x = r :=
  List.inj_on_of_nodup_map h hx hr e

/-- A change to a shift that counts no loaf of the table (R156). -/
def KeepsAccount (f : Shift → Shift) : Prop :=
  ∀ sh, (f sh).seq = sh.seq ∧ (f sh).inTable = sh.inTable ∧ (f sh).perLane = sh.perLane

/-! ### Acts -/

/-- One act: a change of one block that keeps the block's conditions, or a move of one record. Where `sure` holds,
a retirement is of a record that the table holds. -/
inductive Act (sure : Prop) : State → State → Prop
  | raise (k : Kind) (x : List Byte) (s : State) : Act sure s (raise k x s)
  | sru {s : State} (x : Sru) (pos : s.sru.pos ≤ x.pos) (top : s.sru.pos ≤ Config.posMax → x.pos ≤ Config.posMax)
      (range : s.sru.InRange → x.InRange) : Act sure s { s with sru := x }
  | lc {s : State} (x : Lc) (empty : x.WantsEmpty → s.lc.WantsEmpty ∨ s.tableCount = 0) : Act sure s { s with lc := x }
  | hd {s : State} (x : Hd) (range : s.hd.InRange → x.InRange) : Act sure s { s with hd := x }
  | arb {s : State} (x : Arb) (range : s.arb.InRange → x.InRange) : Act sure s { s with arb := x }
  | bag {s : State} (x : Bag) (range : s.bag.InRange → x.InRange) : Act sure s { s with bag := x }
  | tie {s : State} (x : Tie) (range : s.tie.InRange → x.InRange) : Act sure s { s with tie := x }
  | crm {s : State} (x : Crm) (range : s.crm.InRange → x.InRange) (orderly : s.crm.Orderly → x.Orderly) :
      Act sure s { s with crm := x }
  | pst {s : State} (x : Pst) (clock : s.pst.clock ≤ Config.clockMax → x.clock ≤ Config.clockMax)
      (orderly : s.pst.Orderly → x.Orderly) : Act sure s { s with pst := x }
  | nv {s : State} (x : Nonvolatile) (seq : x.seqCell = s.nv.seqCell) : Act sure s { s with nv := x }
  | event {s : State} (f : Shift → Shift) (account : KeepsAccount f) : Act sure s (lineEvent f s)
  | shifts {s : State} (x : Tot) (y : Nonvolatile)
      (accounts : AccountsHold s → AccountsHold { s with tot := x, nv := y }) : Act sure s { s with tot := x, nv := y }
  | trk {s : State} (x : Trk) (queues : x.queues = s.trk.queues) (post : x.post = s.trk.post)
      (held : x.reserveHeld = true → s.trk.reserveHeld = true) : Act sure s { s with trk := x }
  | gates (s : State) : Act sure s (evaluateGates s)
  | records {s : State} (p : Rec → Bool) (f : Rec → Rec) (same : ∀ r : Rec, r.SameLoaf (f r))
      (decided : s.LoavesDiffer → ∀ r ∈ s.records, p r = true → r.DecidedWell → (f r).DecidedWell) :
      Act sure s (mapRecords p f s)
  | queue {s : State} (l : Lane) (f : Rec → Rec) (same : ∀ r : Rec, r.SameLoaf (f r))
      (decided : ∀ r : Rec, r.DecidedWell → (f r).DecidedWell) : Act sure s (onQueue l (List.map f) s)
  | grant {s : State} (r : Rec) (l : Lane) (candidate : s.candidate l = some r) (line : ¬s.lc.WantsEmpty) :
      Act sure s (grant r s)
  | retract {s : State} (r : Rec) (held : r ∈ s.trk.post) (merged : r.state = .merged) (n : Nat) :
      Act sure s (onQueue r.lane ({ r with retries := n, mergeLead := none, seq := none, state := .queued } :: ·)
        (onPost (List.filter fun x => x.loaf != r.loaf) s))
  | retire {s : State} (r : Rec) (d : Disposition) (held : sure → ∃ x ∈ s.records, x.SameLoaf r) :
      Act sure s (retireQuiet r d s)

/-- A chain of acts. -/
abbrev Acts (sure : Prop) : State → State → Prop := Relation.ReflTransGen (Act sure)

variable {sure : Prop}

theorem Act.acts {s t : State} (h : Act sure s t) : Acts sure s t := .single h

theorem Acts.trans {s t u : State} (h : Acts sure s t) (k : Acts sure t u) : Acts sure s u := Relation.ReflTransGen.trans h k

/-- A condition that every act keeps is kept by a chain of them. -/
theorem Acts.keeps {P : State → Prop} (step : ∀ s t, Act sure s t → P s → P t) {s t : State} (h : Acts sure s t) (hs : P s) :
    P t := by
  induction h with
  | refl => exact hs
  | tail _ act ih => exact step _ _ act ih

/-! ### Acts of one block -/

variable (s : State)

theorem raise_acts (k : Kind) (x : List Byte) : Acts sure s (raise k x s) := (Act.raise k x s).acts

theorem onSru_acts (f : Sru → Sru) (pos : (f s.sru).pos = s.sru.pos) (range : s.sru.InRange → (f s.sru).InRange) :
    Acts sure s (s.onSru f) :=
  (Act.sru (f s.sru) pos.ge (fun h => pos ▸ h) range).acts

theorem onLc_acts (f : Lc → Lc) (empty : (f s.lc).WantsEmpty → s.lc.WantsEmpty ∨ s.tableCount = 0) :
    Acts sure s (s.onLc f) := (Act.lc (f s.lc) empty).acts

theorem onArb_acts (f : Arb → Arb) (range : s.arb.InRange → (f s.arb).InRange) : Acts sure s (s.onArb f) :=
  (Act.arb (f s.arb) range).acts

theorem onBag_acts (f : Bag → Bag) (range : s.bag.InRange → (f s.bag).InRange) : Acts sure s (s.onBag f) :=
  (Act.bag (f s.bag) range).acts

theorem onTie_acts (f : Tie → Tie) (range : s.tie.InRange → (f s.tie).InRange) : Acts sure s (s.onTie f) :=
  (Act.tie (f s.tie) range).acts

theorem onCrm_acts (f : Crm → Crm) (range : s.crm.InRange → (f s.crm).InRange)
    (orderly : s.crm.Orderly → (f s.crm).Orderly) : Acts sure s (s.onCrm f) :=
  (Act.crm (f s.crm) range orderly).acts

theorem lineEvent_acts (f : Shift → Shift) (account : KeepsAccount f) : Acts sure s (lineEvent f s) :=
  (Act.event f account).acts

theorem onHead_acts (l : Lane) (f : Head → Head)
    (range : (s.head l).mon.count ≤ Config.pulseMax → (f (s.head l)).mon.count ≤ Config.pulseMax) :
    Acts sure s (onHead l f s) := by
  refine (Act.hd _ fun h k => ?_).acts
  obtain ⟨count, fails⟩ := h k
  refine ⟨?_, fails⟩
  by_cases e : k = l
  · subst e
    simpa [modAt, State.head] using range (h k).1
  · simpa [modAt, getElem_putAt_ne _ _ e] using count

theorem onLane_acts (l : Lane) (f : LaneCtl → LaneCtl)
    (range : (s.lane l).trialFails ≤ 15 → (f (s.lane l)).trialFails ≤ 15) : Acts sure s (onLane l f s) := by
  refine (Act.hd _ fun h k => ?_).acts
  obtain ⟨count, fails⟩ := h k
  refine ⟨count, ?_⟩
  by_cases e : k = l
  · subst e
    simpa [modAt, State.lane] using range (h k).2
  · simpa [modAt, getElem_putAt_ne _ _ e] using fails

theorem forLanes_acts {f : Lane → State → State} (h : ∀ l t, Acts sure t (f l t)) : Acts sure s (forLanes f s) :=
  forLanes_induction (P := Acts sure s) (fun l t k => k.trans (h l t)) .refl

/-- A write to the record of a loaf number, which the records that have the number bear. -/
theorem onRec_acts (n : Nat) (f : Rec → Rec) (same : ∀ r : Rec, r.SameLoaf (f r))
    (decided : s.LoavesDiffer → ∀ r ∈ s.records, r.loaf = n → r.DecidedWell → (f r).DecidedWell) :
    Acts sure s (onRec n f s) :=
  (Act.records _ f same fun d r h e => decided d r h (beq_iff_eq.1 e)).acts

end Sys2Proof.Machine
end

section
/-! PROOFS. The shared operations as chains of acts. -/

namespace Sys2Proof.Machine

variable {sure : Prop} (s : State)

/-! ### Records and totals (R23, R49, R153, R156) -/

theorem Rec.sameLoaf_addReason (r : Rec) (x : Reason) : r.SameLoaf (r.addReason x) := by
  rw [addReason_eq]; exact ⟨rfl, rfl, rfl⟩

/-- A reason never makes a good PASS bad: one that comes after the decision is late (R45). -/
theorem Rec.DecidedWell.addReason {r : Rec} (h : r.DecidedWell) (x : Reason) : (r.addReason x).DecidedWell := by
  obtain ⟨iff, pass⟩ := h
  rw [addReason_eq]
  refine ⟨iff, fun decided => ⟨(pass decided).1, ?_⟩⟩
  have state : r.state = .decided := iff.1 (by rw [show r.decision = some .pass from decided]; rfl)
  by_cases listed : x ∈ r.reasons
  · simpa [listed] using (pass decided).2
  · simp [listed, state]

/-- A record without a decision is well decided in any state but DECIDED. -/
theorem Rec.decidedWell_of_none {r : Rec} (none : r.decision = none) (state : r.state ≠ .decided) : r.DecidedWell :=
  ⟨by simp [none, state], by simp [none]⟩

theorem Rec.DecidedWell.undecided {r : Rec} (h : r.DecidedWell) (state : r.state ≠ .decided) : r.decision = none := by
  simpa [state] using h.1

/-- What the condition looks at. -/
theorem Rec.DecidedWell.congr {r x : Rec} (h : r.DecidedWell) (decision : x.decision = r.decision)
    (state : x.state = r.state) (suspect : x.suspect = r.suspect) (reasons : x.reasons = r.reasons)
    (late : x.late = r.late) : x.DecidedWell := by
  unfold Rec.DecidedWell at *
  rwa [decision, state, suspect, reasons, late]

theorem markSuspect_acts : Acts sure s (markSuspect s) := by
  unfold markSuspect
  refine .single (.records _ _ (fun _ => ⟨rfl, rfl, rfl⟩) fun _ r _ state well => ?_)
  have undecided : r.state ≠ .decided := by simpa using state
  exact Rec.decidedWell_of_none (well.undecided undecided) undecided

theorem countPhantom_acts : Acts sure s (countPhantom s) := lineEvent_acts s _ fun _ => ⟨rfl, rfl, rfl⟩

theorem raiseIfClosed_acts (before : Tot) : Acts sure s (raiseIfClosed before s) := by
  unfold raiseIfClosed
  split
  · exact raise_acts s _ _
  · exact .refl

theorem retireRec_acts {r : Rec} {d : Disposition} (held : sure → ∃ x ∈ s.records, x.SameLoaf r) :
    Acts sure s (retireRec r d s) :=
  (Act.retire r d held).acts.trans (raiseIfClosed_acts _ _)

/-! ### The reference (chapter 1) -/

theorem refreshPacer_acts : Acts sure s (refreshPacer s) := onSru_acts s _ rfl id

theorem refreshEstimate_acts : Acts sure s (refreshEstimate s) := (onSru_acts s _ rfl id).trans (refreshPacer_acts _)

theorem setReferenceState_acts (st : RefState) (src : Source) : Acts sure s (setReferenceState st src s) :=
  (((onSru_acts s _ rfl id).trans (onLc_acts _ _ .inl)).trans (refreshEstimate_acts _)).trans (raise_acts _ _ _)

theorem enterIdle_acts : Acts sure s (enterIdle s) := by
  unfold enterIdle
  split
  · exact .refl
  · exact (onSru_acts s _ rfl id).trans (setReferenceState_acts _ _ _)

theorem LineMonitor.InRange.requalify {x : LineMonitor} (h : x.InRange) : x.requalify.InRange :=
  ⟨h.1, Nat.zero_le _⟩

theorem enterAcquire_acts : Acts sure s (enterAcquire s) :=
  (onSru_acts s _ rfl fun h => ⟨h.1.requalify, h.2.requalify⟩).trans (setReferenceState_acts _ _ _)

theorem switchTo_acts (src : LineSource) : Acts sure s (switchTo src s) := by
  refine Acts.trans ?_ ((onSru_acts _ _ rfl id).trans (setReferenceState_acts _ _ _))
  split
  · exact .refl
  · exact markSuspect_acts s

theorem enterCrawl_acts : Acts sure s (enterCrawl s) :=
  ((markSuspect_acts s).trans (onSru_acts _ _ rfl id)).trans (setReferenceState_acts _ _ _)

theorem enterHoldover_acts (est : Nat) : Acts sure s (enterHoldover est s) :=
  (onSru_acts s _ rfl id).trans (setReferenceState_acts _ _ _)

theorem countLoss_acts : Acts sure s (countLoss s) := by
  unfold countLoss
  refine .tail (.single (.nv _ ?_)) (.event _ ?_)
  · rfl
  · exact fun _ => ⟨rfl, rfl, rfl⟩

theorem lossOfTrack_acts (est : Nat) : Acts sure s (lossOfTrack est s) := by
  unfold lossOfTrack
  split
  · exact (countLoss_acts s).trans (enterCrawl_acts _)
  · exact (countLoss_acts s).trans (enterHoldover_acts _ _)

theorem evaluateSelection_acts (est : Nat) : Acts sure s (evaluateSelection est s) := by
  unfold evaluateSelection
  (repeat' split)
  · exact .refl
  · exact .refl
  · exact switchTo_acts s _
  · exact lossOfTrack_acts s _
  · exact .refl

theorem slipCheck_acts : Acts sure s (slipCheck s) := by
  unfold slipCheck
  dsimp only
  (repeat' split)
  · exact .refl
  · exact (onSru_acts s _ rfl id).trans (raise_acts _ _ _)
  · exact onSru_acts s _ rfl id
  · exact .refl
  · exact onSru_acts s _ rfl id

/-! ### Blades and lanes (chapter 4) -/

theorem spinUp_acts (l : Lane) : Acts sure s (spinUp l s) := onHead_acts s l _ id

theorem setBlade_acts (b : BladeState) (l : Lane) : Acts sure s (setBlade b l s) := onHead_acts s l _ id

theorem spinUpUnlessParked_acts (l : Lane) : Acts sure s (spinUpUnlessParked l s) := by
  unfold spinUpUnlessParked
  split
  · exact .refl
  · exact spinUp_acts s l

theorem stopBladeIf_acts (p : BladeState → Bool) (l : Lane) : Acts sure s (stopBladeIf p l s) := by
  unfold stopBladeIf
  split
  · exact setBlade_acts s _ l
  · exact .refl

theorem raiseLane_acts (l : Lane) : Acts sure s (raiseLane l s) := raise_acts s _ _

theorem setLaneState_acts (st : LaneState) (l : Lane) : Acts sure s (setLaneState st l s) := by
  unfold setLaneState
  split
  · exact .refl
  · exact (onLane_acts s l _ id).trans (raiseLane_acts _ l)

theorem endTrial_acts (l : Lane) : Acts sure s (endTrial l s) := onLane_acts s l _ id

theorem laneOutOfMotion_acts (l : Lane) : Acts sure s (laneOutOfMotion l s) := by
  unfold laneOutOfMotion
  refine (endTrial_acts s l).trans ?_
  split
  · exact setLaneState_acts _ _ l
  · exact setLaneState_acts _ _ l
  · exact setLaneState_acts _ _ l
  · exact .refl

theorem headsAtReady_acts : Acts sure s (headsAtReady s) :=
  forLanes_acts s fun l t => (stopBladeIf_acts t _ l).trans (laneOutOfMotion_acts _ l)

theorem headsAtHalted_acts : Acts sure s (headsAtHalted s) :=
  forLanes_acts s fun l t => (stopBladeIf_acts t _ l).trans (laneOutOfMotion_acts _ l)

theorem headsAtStarting_acts : Acts sure s (headsAtStarting s) := forLanes_acts s fun l t => by
  split
  · exact spinUpUnlessParked_acts t l
  · exact .refl

theorem bladeQualified_acts (l : Lane) : Acts sure s (bladeQualified l s) := by
  unfold bladeQualified
  refine (setBlade_acts s .running l).trans ?_
  dsimp only
  (repeat' split)
  · exact setLaneState_acts _ _ l
  · exact .refl
  · exact .refl
  · exact onLane_acts _ l _ id
  · exact .refl

theorem enterTrial_acts (l : Lane) : Acts sure s (enterTrial l s) :=
  ((endTrial_acts s l).trans (spinUpUnlessParked_acts _ l)).trans (setLaneState_acts _ _ l)

theorem offTrialList_acts (l : Lane) (loaf : Nat) : Acts sure s (offTrialList l loaf s) := by
  unfold offTrialList
  dsimp only
  (repeat' split)
  · refine Acts.trans (Acts.trans ?_ (onLane_acts _ l _ fun _ => Nat.zero_le _)) (setLaneState_acts _ _ l)
    exact onLane_acts s l _ id
  · exact onLane_acts s l _ id
  · exact .refl

theorem unpark_acts (l : Lane) : Acts sure s (unpark l s) := by
  unfold unpark
  dsimp only
  (repeat' split)
  · exact spinUp_acts s l
  · exact spinUp_acts s l
  · exact spinUp_acts s l
  · exact setBlade_acts s _ l
  · exact setBlade_acts s _ l
  · exact .refl

theorem stopIdleBlade_acts (l : Lane) : Acts sure s (stopIdleBlade l s) := by
  unfold stopIdleBlade
  (repeat' split)
  · exact .refl
  · exact .refl
  · exact setBlade_acts s _ l
  · exact .refl

theorem settleRetrial_acts (l : Lane) : Acts sure s (settleRetrial l s) := onLane_acts s l _ id

/-! ### The purge queue (R133 to R136) -/

/-- A target's entry is the one with its target, so a queue without it holds no entry of the target. -/
theorem entryOf_eq_none_iff (q : List PurgeEntry) (t : Target) : entryOf q t = none ↔ ∀ e ∈ q, e.target ≠ t := by
  simp [entryOf, List.find?_eq_none]

/-- A queue that gains one entry for a target without one, its front kept where a cycle runs, is orderly. -/
theorem Crm.Orderly.insert {c : Crm} (h : c.Orderly) {q a b : List PurgeEntry} {e : PurgeEntry}
    (q_sub : q.Sublist c.queue) (split : a ++ b = q) (fresh : ∀ x ∈ q, x.target ≠ e.target)
    (front : c.running = true → (a ++ e :: b).head?.map PurgeEntry.target = c.queue.head?.map PurgeEntry.target) :
    ({ c with queue := a ++ e :: b, state := if c.state = .idle then .wait else c.state } : Crm).Orderly := by
  obtain ⟨nodup, idle, cycle, purge⟩ := h
  have perm : (a ++ e :: b).Perm (e :: q) := by rw [← split]; exact List.perm_middle
  refine ⟨?_, ?_, ?_, fun p => ?_⟩
  · refine (perm.map _).nodup_iff.2 ?_
    rw [List.map_cons, List.nodup_cons]
    refine ⟨fun m => ?_, nodup.sublist (q_sub.map _)⟩
    obtain ⟨x, hx, e⟩ := List.mem_map.1 m
    exact fresh x hx e
  · cases c.state <;> simp
  · intro running
    have runs : c.running = true := by
      revert running
      unfold Crm.running
      cases c.state <;> simp
    obtain ⟨y, hy, target⟩ := cycle runs
    exact ⟨y, hy, (front runs).trans target⟩
  · show (if c.state = .idle then .wait else c.state) = .purging
    rw [purge p]
    rfl

theorem forcedRequest_acts (t : Target) (h : s.crm.cycleTarget ≠ some t) : Acts sure s (forcedRequest t s) := by
  by_cases e : entryOf s.crm.queue t = some ⟨t, .forced⟩
  · rw [(forcedRequest_takes t s).1 e]
  · have taken := ((forcedRequest_takes t s).2 e).2
    have chain : Acts sure s (s.onCrm fun c =>
        Crm.wake { c with queue := joinForced c.running (c.queue.filter fun e => e.target != t) t }) := by
      obtain ⟨a, b, joined, whole, -, front, -⟩ :=
        joinForced_spec s.crm.running (s.crm.queue.filter fun e => e.target != t) t
      have woken := wake_state s.crm (joinForced s.crm.running (s.crm.queue.filter fun e => e.target != t) t)
        (by simp [joined])
      refine onCrm_acts s _ (fun r => by rw [woken]; exact r) fun orderly => ?_
      rw [woken, joined]
      refine orderly.insert List.filter_sublist whole (fun x hx => by simpa using (List.mem_filter.1 hx).2) fun runs => ?_
      cases q : s.crm.queue with
      | nil =>
        obtain ⟨y, -, target⟩ := orderly.2.2.1 runs
        simp [q] at target
      | cons x rest =>
        have other : x.target ≠ t := fun e => h ((cycleTarget_iff _ _).2 ⟨(running_iff _).1 runs, by simp [q, e]⟩)
        rw [q, List.filter_cons_of_pos (by simpa using other)] at whole front
        cases a with
        | nil => exact absurd rfl (front runs (by simp))
        | cons y a => simp at whole; simp [whole.1]
    unfold forcedRequest
    split
    · exact .refl
    · exact chain.trans (raise_acts _ _ _)

theorem softRequest_acts (t : Target) : Acts sure s (softRequest t s) := by
  by_cases e : entryOf s.crm.queue t = none
  · refine onCrm_acts s _ (fun r => ?_) fun orderly => ?_
    all_goals
      have taken := (softRequest_takes t s).1 e
      unfold softRequest at taken
      rw [onCrm_crm] at taken
      rw [taken]
    · exact r
    · refine orderly.insert (b := []) (List.Sublist.refl _) (by simp) ((entryOf_eq_none_iff _ _).1 e) fun runs => ?_
      obtain ⟨y, -, target⟩ := orderly.2.2.1 runs
      cases q : s.crm.queue with
      | nil => simp [q] at target
      | cons x rest => rfl
  · rw [(softRequest_takes t s).2 e]

theorem evalTriggers_acts (t : Target) : Acts sure s (evalTriggers t s) := by
  unfold evalTriggers
  split
  · exact .refl
  · next h =>
    (repeat' split)
    · exact forcedRequest_acts s t (not_or.1 h).1
    · exact softRequest_acts s t
    · exact .refl

theorem evalAllTriggers_acts : Acts sure s (evalAllTriggers s) :=
  (forLanes_acts s fun _ t => evalTriggers_acts t _).trans (evalTriggers_acts _ _)

/-- A head's new values in range leave all of CRM in range. -/
theorem Crm.InRange.putHead {c : Crm} (h : c.InRange) (l : Lane) {x : HeadCrumb} (hx : x.InRange) :
    ({ c with heads := putAt c.heads l x } : Crm).InRange := by
  refine ⟨h.1, fun k => ?_⟩
  by_cases e : k = l
  · subst e; simpa using hx
  · simpa [getElem_putAt_ne _ _ e] using h.2 k

theorem onCrumb_acts (l : Lane) (f : HeadCrumb → HeadCrumb)
    (range : s.crm.heads[l].InRange → (f s.crm.heads[l]).InRange) : Acts sure s (onCrumb l f s) :=
  onCrm_acts s _ (fun h => h.putHead l (range (h.2 l))) id

theorem endSlicing_acts (r : Rec) : Acts sure s (endSlicing r s) := by
  refine Acts.trans ?_ ((evalTriggers_acts _ _).trans (evalTriggers_acts _ _))
  refine (onCrumb_acts s r.lane _ fun h => ?_).trans (onCrm_acts _ _ (fun h => ?_) id)
  · obtain ⟨-, -, low, high⟩ := h
    exact ⟨min_le_left _ _, min_le_left _ _, low, high⟩
  · exact ⟨min_le_left _ _, h.2⟩

/-- The front entry starts its cycle (R135, R138). -/
theorem startCycle_acts {e : PurgeEntry} {rest : List PurgeEntry} (queue : s.crm.queue = e :: rest) :
    Acts sure s (startCycle e.target s) := by
  have begun : ∀ t : State, t.crm = s.crm → Acts sure t (t.onCrm fun c => { c with
      state := .purging, cycle := some ⟨e.target, c.estimate e.target, none, none⟩, weigh := some Config.weighMs }) := by
    intro t same
    refine onCrm_acts t _ id fun orderly => ?_
    obtain ⟨nodup, -, -, -⟩ := orderly
    rw [same] at nodup ⊢
    exact ⟨nodup, by simp [queue], fun _ => ⟨_, rfl, by simp [queue]⟩, fun _ => rfl⟩
  unfold startCycle
  dsimp only
  split
  · exact (setBlade_acts s _ _).trans (begun _ rfl)
  · exact begun s rfl

theorem settlePurge_acts (h : Nat) : Acts sure s (settlePurge h s) := by
  unfold settlePurge
  split
  · next queue =>
    split
    · exact startCycle_acts s queue
    · exact .refl
  · exact .refl

theorem Crm.Orderly.nonempty_of_running {c : Crm} (h : c.Orderly) (runs : c.running = true) : c.queue ≠ [] := by
  obtain ⟨-, -, cycle, -⟩ := h
  obtain ⟨y, -, target⟩ := cycle runs
  intro empty
  simp [empty] at target

theorem abortCycle_acts : Acts sure s (abortCycle s) := by
  refine onCrm_acts s _ (fun h => ?_) fun orderly => ?_
  · split
    · exact h
    · exact h
  · split
    · next runs => exact ⟨orderly.1, by simp [orderly.nonempty_of_running runs], nofun, nofun⟩
    · exact orderly

end Sys2Proof.Machine
end

section
/-! PROOFS. The bagger, the tyer, the line, the lane faults and the settling as chains of acts. -/

namespace Sys2Proof.Machine

variable {sure : Prop} (s : State)

/-! ### Writes to a record (R27, R43) -/

/-- The table holds a record of a loaf number that is not DECIDED. -/
def State.Undecided (n : Nat) : Prop := ∃ x ∈ s.records, x.loaf = n ∧ x.state ≠ .decided

variable {s} in
theorem State.Undecided.intro {r : Rec} (held : r ∈ s.records) (state : r.state ≠ .decided) : s.Undecided r.loaf :=
  ⟨r, held, rfl, state⟩

/-- A write that moves an undecided record on, short of its decision. -/
theorem onRec_acts_undecided {n : Nat} (h : s.Undecided n) (f : Rec → Rec)
    (keeps : ∀ x : Rec, x.SameLoaf (f x) ∧ (f x).decision = x.decision ∧ (f x).state ≠ .decided) :
    Acts sure s (onRec n f s) := by
  obtain ⟨y, hy, rfl, state⟩ := h
  refine onRec_acts s y.loaf f (fun x => (keeps x).1) fun differ x hx e well => ?_
  obtain ⟨-, decision, undecided⟩ := keeps x
  rw [eq_of_loaf_eq differ hy hx e] at well decision undecided ⊢
  exact Rec.decidedWell_of_none (decision.trans (well.undecided state)) undecided

/-- A write that neither the number nor the decision of any record feels. -/
theorem onRec_acts_any (n : Nat) (f : Rec → Rec) (same : ∀ x : Rec, x.SameLoaf (f x))
    (well : ∀ x : Rec, x.DecidedWell → (f x).DecidedWell) : Acts sure s (onRec n f s) :=
  onRec_acts s n f same fun _ x _ _ h => well x h

theorem mem_records_onRec {n : Nat} {f : Rec → Rec} {x : Rec} (h : x ∈ s.records) (e : x.loaf = n) :
    f x ∈ (onRec n f s).records := by
  rw [onRec, records_mapRecords, mapIf]
  exact List.mem_map.2 ⟨x, h, by simp [e]⟩

variable {s} in
/-- A record stays undecided through a write that does not decide it. -/
theorem State.Undecided.onRec {n : Nat} (h : s.Undecided n) {f : Rec → Rec}
    (keeps : ∀ x : Rec, (f x).loaf = x.loaf ∧ (x.state ≠ .decided → (f x).state ≠ .decided)) :
    (onRec n f s).Undecided n := by
  obtain ⟨x, hx, e, state⟩ := h
  exact ⟨f x, mem_records_onRec s hx e, (keeps x).1.trans e, (keeps x).2 state⟩

variable {s} in
theorem State.Undecided.congr {t : State} {n : Nat} (h : s.Undecided n) (e : t.trk = s.trk) : t.Undecided n := by
  unfold State.Undecided State.records at *
  rwa [e]

/-! ### The bagger (R102 to R109) -/

theorem raiseBagsLow_acts (before : Nat) : Acts sure s (raiseBagsLow before s) := by
  unfold raiseBagsLow
  split
  · exact raise_acts s _ _
  · exact .refl

theorem beginAttempt_acts (loaf number : Nat) : Acts sure s (beginAttempt loaf number s) := by
  unfold beginAttempt
  dsimp only
  refine Acts.trans ?_ (raiseBagsLow_acts _ _)
  refine Acts.trans ?_ (lineEvent_acts _ _ ?_)
  · exact onBag_acts s _ fun h => (Nat.sub_le _ _).trans h
  · exact fun _ => ⟨rfl, rfl, rfl⟩

theorem Rec.sameLoaf_bagDone (r : Rec) (x : BagResult) : r.SameLoaf (r.bagDone x) := by
  unfold Rec.bagDone
  split
  · exact r.sameLoaf_addReason _
  · exact ⟨rfl, rfl, rfl⟩

/-- A record that leaves one state before DECIDED for another stays well decided. -/
theorem Rec.DecidedWell.move {r : Rec} (h : r.DecidedWell) {a b : RecState} (ha : a ≠ .decided) (hb : b ≠ .decided)
    {x : Rec} (decision : x.decision = r.decision) (state : x.state = if r.state = a then b else r.state)
    (suspect : x.suspect = r.suspect) (reasons : x.reasons = r.reasons) (late : x.late = r.late) :
    x.DecidedWell := by
  by_cases e : r.state = a
  · rw [if_pos e] at state
    exact Rec.decidedWell_of_none (decision.trans (h.undecided (e ▸ ha))) (state ▸ hb)
  · rw [if_neg e] at state
    exact h.congr decision state suspect reasons late

theorem Rec.DecidedWell.bagDone {r : Rec} (h : r.DecidedWell) (x : BagResult) : (r.bagDone x).DecidedWell := by
  have moved : ∀ y : Rec, y.DecidedWell → y.state = r.state →
      ({ y with bagResult := some x, state := if r.state = .merged then .bagged else r.state } : Rec).DecidedWell :=
    fun y hy e => hy.move (a := .merged) (b := .bagged) nofun nofun rfl (by rw [e]) rfl rfl rfl
  unfold Rec.bagDone
  split
  · exact moved _ (h.addReason _) (addReason_state r _)
  · exact moved r h rfl

theorem endCycle_acts (e : CycleEnd) (x : BagResult) : Acts sure s (endCycle e x s) := by
  have written : ∀ n, Acts sure s (onRec n (·.bagDone x) s) := fun n =>
    onRec_acts_any s n _ (fun r => r.sameLoaf_bagDone x) fun r h => h.bagDone x
  unfold endCycle
  dsimp only
  (repeat' split)
  · exact .refl
  · refine Acts.trans ?_ (raise_acts _ _ _)
    refine (written _).trans (onBag_acts _ _ ?_)
    exact id
  · refine (written _).trans (onBag_acts _ _ ?_)
    exact id

theorem bagConfirmed_acts : Acts sure s (bagConfirmed s) := by
  unfold bagConfirmed
  split
  · exact .refl
  · exact endCycle_acts s _ _

theorem bagMissed_acts : Acts sure s (bagMissed s) := by
  unfold bagMissed
  (repeat' split)
  · exact .refl
  · exact beginAttempt_acts s _ _
  · exact endCycle_acts s _ _

theorem bagStation_acts (r : Rec) : Acts sure s (bagStation r s) := by
  unfold bagStation
  split
  · exact beginAttempt_acts s _ _
  · exact onRec_acts_any s _ _ (fun r => r.sameLoaf_bagDone _) fun r h => h.bagDone _

/-! ### The tyer (R110 to R129) -/

theorem raiseClipsLow_acts (before : Nat) : Acts sure s (raiseClipsLow before s) := by
  unfold raiseClipsLow
  split
  · exact raise_acts s _ _
  · exact .refl

theorem Rec.tied_fields (r : Rec) (code : Option (List Byte)) (challenge : Bool) :
    r.SameLoaf (r.tied code challenge) ∧ (r.tied code challenge).decision = r.decision ∧
      (r.tied code challenge).state ≠ .decided := by
  unfold Rec.tied
  split
  · rw [addReason_eq]; exact ⟨⟨rfl, rfl, rfl⟩, rfl, nofun⟩
  · exact ⟨⟨rfl, rfl, rfl⟩, rfl, nofun⟩

theorem tieStation_acts {r : Rec} (h : s.Undecided r.loaf) : Acts sure s (tieStation r s) := by
  unfold tieStation
  split
  · unfold stroke
    dsimp only
    refine Acts.trans ?_ (raiseClipsLow_acts _ _)
    refine Acts.trans ?_ (lineEvent_acts _ _ ?_)
    · refine Acts.trans ?_ (onTie_acts _ _ ?_)
      · exact onRec_acts_undecided s h _ fun x => x.tied_fields _ _
      · exact fun h => ⟨(Nat.sub_le _ _).trans h.1, h.2⟩
    · exact fun _ => ⟨rfl, rfl, rfl⟩
  · exact onRec_acts_undecided s h _ fun x => ⟨⟨rfl, rfl, rfl⟩, rfl, nofun⟩

theorem verifyStation_acts {r : Rec} (h : s.Undecided r.loaf) : Acts sure s (verifyStation r s) := by
  unfold verifyStation
  split
  · exact onTie_acts s _ fun h => ⟨h.1, Nat.mod_lt _ (by decide), h.2.2⟩
  · refine onRec_acts_undecided s h _ fun x => ?_
    split
    · exact ⟨⟨rfl, rfl, rfl⟩, rfl, nofun⟩
    · rw [addReason_eq]; exact ⟨⟨rfl, rfl, rfl⟩, rfl, nofun⟩

theorem burstFound_acts : Acts sure s (burstFound s) := by
  unfold burstFound
  dsimp only
  (repeat' split)
  · exact (onTie_acts s _ id).trans (raise_acts _ _ _)
  · exact .refl
  · exact (onTie_acts s _ id).trans (raise_acts _ _ _)
  · exact .refl

theorem markBad_acts (loaf : Nat) : Acts sure s (markBad loaf s) := by
  unfold markBad
  dsimp only
  (repeat' split)
  · refine Acts.trans ?_ (burstFound_acts _)
    exact onTie_acts s _ id
  · exact onTie_acts s _ id
  · exact .refl

theorem onCounters_acts (f : CodeCounters → CodeCounters)
    (range : s.tie.counters.mismatches ≤ 255 → (f s.tie.counters).mismatches ≤ 255) : Acts sure s (onCounters f s) :=
  onTie_acts s _ fun h => ⟨h.1, h.2.1, range h.2.2⟩

theorem Rec.sameLoaf_readDone (r : Rec) (x : ReadResult) (y : Option Reason) : r.SameLoaf (r.readDone x y) := by
  cases y with
  | none => exact ⟨rfl, rfl, rfl⟩
  | some y => exact r.sameLoaf_addReason y

theorem Rec.DecidedWell.readDone {r : Rec} (h : r.DecidedWell) (x : ReadResult) (y : Option Reason) :
    (r.readDone x y).DecidedWell := by
  have moved : ∀ z : Rec, z.DecidedWell → z.state = r.state →
      ({ z with read := some x, state := if r.state = .tied then .checked else r.state } : Rec).DecidedWell :=
    fun z hz e => hz.move (a := .tied) (b := .checked) nofun nofun rfl (by rw [e]) rfl rfl rfl
  cases y with
  | none => exact moved r h rfl
  | some y => exact moved _ (h.addReason y) (addReason_state r y)

theorem readDone_acts (n : Nat) (x : ReadResult) (y : Option Reason) : Acts sure s (onRec n (·.readDone x y) s) :=
  onRec_acts_any s n _ (fun r => r.sameLoaf_readDone x y) fun _ h => h.readDone x y

theorem resolvePlain_acts (r : Rec) (a : Option Answered) : Acts sure s (resolvePlain r a s) := by
  unfold resolvePlain
  dsimp only
  (repeat' split)
  · exact Acts.trans (readDone_acts s _ _ _) (onCounters_acts _ _ id)
  · refine Acts.trans ?_ (markBad_acts _ _)
    refine Acts.trans ?_ (raise_acts _ _ _)
    refine Acts.trans ?_ (onTie_acts _ _ ?_)
    · refine Acts.trans (readDone_acts s _ _ _) (onCounters_acts _ _ ?_)
      exact fun _ => min_le_left _ _
    · exact id
  · exact Acts.trans (readDone_acts s _ _ _) (onCounters_acts _ _ id)
  · exact Acts.trans (Acts.trans (readDone_acts s _ _ _) (onCounters_acts _ _ id)) (markBad_acts _ _)

theorem settleReindex_acts : Acts sure s (settleReindex s) := by
  unfold settleReindex
  split
  · exact onTie_acts s _ id
  · exact .refl

theorem tyerAtHalted_acts : Acts sure s (tyerAtHalted s) := by
  refine onTie_acts s _ fun h => ?_
  split <;> exact h

theorem resetCounters_acts : Acts sure s (resetCounters s) := onTie_acts s _ fun h => ⟨h.1, h.2.1, Nat.zero_le _⟩

/-! ### The line (chapter 10) -/

theorem setLine_acts (st : LineState)
    (empty : ({ s.lc with state := st } : Lc).WantsEmpty → s.lc.WantsEmpty ∨ s.tableCount = 0) :
    Acts sure s (setLine st s) := (onLc_acts s _ empty).trans (raise_acts _ _ _)

theorem enterReady_acts (cause : StopCause) (empty : s.lc.WantsEmpty ∨ s.tableCount = 0) :
    Acts sure s (enterReady cause s) := by
  unfold enterReady
  refine Acts.trans ?_ (headsAtReady_acts _)
  refine Acts.trans ?_ (enterIdle_acts _)
  refine Acts.trans ?_ (setLine_acts _ _ ?_)
  · exact onLc_acts s _ .inl
  · exact fun _ => empty

theorem restPushers_acts : Acts sure s (restPushers s) := onArb_acts s _ id

theorem enterHalted_acts (cause : StopCause) : Acts sure s (enterHalted cause s) := by
  unfold enterHalted bagAtHalted
  dsimp only
  refine Acts.trans ?_ (tyerAtHalted_acts _)
  refine Acts.trans ?_ (abortCycle_acts _)
  refine Acts.trans ?_ (restPushers_acts _)
  refine Acts.trans ?_ (endCycle_acts _ _ _)
  refine Acts.trans ?_ (headsAtHalted_acts _)
  refine Acts.trans ?_ (enterIdle_acts _)
  refine Acts.trans ?_ (setLine_acts _ _ ?_)
  · exact onLc_acts s _ .inl
  · rintro (h | ⟨h, -⟩) <;> exact nomatch h

theorem enterDraining_acts (cause : StopCause) : Acts sure s (enterDraining cause s) := by
  refine Acts.trans ?_ (setLine_acts _ _ ?_)
  · exact onLc_acts s _ .inl
  · rintro (h | ⟨h, -⟩) <;> exact nomatch h

theorem enterRunning_acts : Acts sure s (enterRunning s) := by
  refine Acts.trans ?_ (setLine_acts _ _ ?_)
  · exact onLc_acts s _ .inl
  · rintro (h | ⟨h, -⟩) <;> exact nomatch h

theorem enterStarting_acts (h : s.lc.state = .ready ∨ s.lc.state = .halted) : Acts sure s (enterStarting s) := by
  have entered : ∀ (o : Origin) (u : State), u.lc = s.lc → (o = .ready → s.lc.state = .ready) → Acts sure s u →
      Acts sure s (setLine .starting (u.onLc fun lc =>
        { lc with origin := o, cause := .none, startLimit := some (1000 * u.set.startLimitS) })) := by
    intro o u same origin chain
    refine (chain.trans (Acts.trans (onLc_acts u _ ?_) (setLine_acts _ _ ?_)))
    · rintro (k | ⟨k, -⟩)
      · exact .inl (.inl k)
      · have k : u.lc.state = .starting := k
        rw [same] at k
        rcases h with h | h <;> exact nomatch h.symm.trans k
    · rintro (k | ⟨-, k⟩)
      · exact nomatch k
      · refine .inl (.inl ?_)
        show u.lc.state = .ready
        rw [same]
        exact origin k
  unfold enterStarting
  dsimp only
  refine Acts.trans (Acts.trans ?_ (enterAcquire_acts _)) (headsAtStarting_acts _)
  rcases h with h | h
  · simpa [h] using entered .ready s rfl (fun _ => h) .refl
  · have set : (markSuspect s).set = s.set := rfl
    simpa [h, set] using entered .halted (markSuspect s) rfl nofun (markSuspect_acts s)

theorem haltLine_acts (cause : StopCause) : Acts sure s (haltLine cause s) := by
  unfold haltLine
  split
  · exact enterHalted_acts s cause
  · exact .refl

theorem requestDrain_acts (cause : StopCause) : Acts sure s (requestDrain cause s) := by
  unfold requestDrain
  (repeat' split)
  · exact enterDraining_acts s cause
  · next empty => exact enterReady_acts s cause (.inr empty)
  · exact enterDraining_acts s cause
  · exact .refl

/-! ### Lane faults (R79, R80, R83) -/

theorem askNarrowing_acts : Acts sure s (askNarrowing s) := by
  unfold askNarrowing
  split
  · exact .refl
  · exact requestDrain_acts s _

theorem faultTo_acts (st : LaneState) (l : Lane) : Acts sure s (faultTo st l s) :=
  ((onLane_acts s l _ id).trans (raiseLane_acts _ l)).trans (askNarrowing_acts _)

theorem laneFault_acts (fault : LaneFault) (spinning : Bool) (l : Lane) : Acts sure s (laneFault fault spinning l s) := by
  unfold laneFault
  dsimp only
  have noted := onLane_acts (sure := sure) s l (fun c => { c with lastFault := some (fault, s.pos) }) id
  (repeat' split)
  · exact noted.trans (faultTo_acts _ _ l)
  · refine noted.trans (Acts.trans ?_ (faultTo_acts _ _ l))
    exact onLane_acts _ l _ fun _ => min_le_left _ _
  · refine noted.trans (Acts.trans ?_ (raiseLane_acts _ l))
    exact onLane_acts _ l _ id
  · exact noted.trans (raiseLane_acts _ l)
  · exact noted.trans (faultTo_acts _ _ l)
  · exact noted.trans (raiseLane_acts _ l)

theorem checkNoLanes_acts (before : State) : Acts sure s (checkNoLanes before s) := by
  unfold checkNoLanes
  split
  · exact requestDrain_acts s _
  · exact .refl

theorem retire_acts {r : Rec} {d : Disposition} (held : sure → ∃ x ∈ s.records, x.SameLoaf r) :
    Acts sure s (retire r d s) := (retireRec_acts s held).trans (offTrialList_acts _ _ _)

theorem retireLost_acts {r : Rec} {cause : LostCause} (held : sure → ∃ x ∈ s.records, x.SameLoaf r) :
    Acts sure s (retireLost r cause s) := (retire_acts s held).trans (raise_acts _ _ _)

theorem phantom_acts (eye : Eye) : Acts sure s (phantom eye s) := (raise_acts s _ _).trans (countPhantom_acts _)

theorem blindRead_acts (r : Rec) : Acts sure s (blindRead r s) :=
  ((onTie_acts s _ id).trans (raise_acts _ _ _)).trans (requestDrain_acts _ _)

theorem resolveChallenge_acts (r : Rec) (a : Option Answered) : Acts sure s (resolveChallenge r a s) := by
  unfold resolveChallenge
  dsimp only
  have counted := onCounters_acts (sure := sure) s (fun c => { c with reads := bump32 c.reads }) id
  (repeat' split)
  · refine Acts.trans ?_ (lineEvent_acts _ _ ?_)
    · refine Acts.trans ?_ (onCounters_acts _ _ ?_)
      · exact counted.trans (readDone_acts _ _ _ _)
      · exact id
    · exact fun _ => ⟨rfl, rfl, rfl⟩
  · exact counted.trans ((readDone_acts _ _ _ _).trans (blindRead_acts _ _))
  · exact counted.trans (readDone_acts _ _ _ _)
  · exact Acts.trans (readDone_acts s _ _ _) (onCounters_acts _ _ id)
  · exact Acts.trans (readDone_acts s _ _ _) (onCounters_acts _ _ id)

theorem resolveRead_acts (o : OpenRead) (a : Option Answered) : Acts sure s (resolveRead o a s) := by
  unfold resolveRead
  dsimp only
  have left := onTie_acts (sure := sure) s (fun t => { t with openReads := t.openReads.filter fun x => x.trigger != o.trigger }) id
  (repeat' split)
  · exact left.trans (resolveChallenge_acts _ _ _)
  · exact left.trans (resolvePlain_acts _ _ _)
  · exact left

/-! ### The settling (chapter 5, log entry 41) -/

theorem evaluateGates_acts : Acts sure s (evaluateGates s) := (Act.gates s).acts

theorem refreshTarget_acts : Acts sure s (refreshTarget s) := by
  unfold refreshTarget
  dsimp only
  refine Acts.trans ?_ (onLc_acts _ _ ?_)
  · exact onLc_acts s _ .inl
  · exact .inl

theorem refreshBlades_acts : Acts sure s (refreshBlades s) := .single (.hd _ fun h l => by simpa using h l)

theorem refreshWithhold_acts : Acts sure s (refreshWithhold s) :=
  onArb_acts s (fun a => { a with withhold := s.withholdDue }) id

theorem refresh_acts : Acts sure s (refresh s) := by
  unfold refresh
  refine Acts.trans ?_ (refreshWithhold_acts _)
  refine Acts.trans ?_ (refreshBlades_acts _)
  exact (refreshTarget_acts s).trans (refreshPacer_acts _)

theorem refresh_due : (refresh s).arb.withhold = (refresh s).withholdDue := rfl

/-- A grant is made while the line moves on its own (R91). -/
theorem line_of_withhold_isEmpty {s : State} (h : s.arb.withhold.isEmpty = true) (due : s.arb.withhold = s.withholdDue) :
    ¬s.lc.WantsEmpty := by
  rw [due] at h
  rintro (k | ⟨k, -⟩) <;> simp [Withhold.isEmpty, State.withholdDue, k] at h

theorem earliest_mem {p : Lane} {rs : List Rec} {r : Rec} (h : earliest p rs = some r) : r ∈ rs := by
  induction rs generalizing r with
  | nil => exact nomatch h
  | cons a rs ih =>
    unfold earliest at h
    split at h
    · cases h; exact List.mem_cons_self
    · next b first =>
      split at h
      · cases h; exact List.mem_cons_of_mem _ (ih first)
      · cases h; exact List.mem_cons_self

/-- The choice is a candidate. -/
theorem choice_mem {r : Rec} (h : s.choice = some r) : r ∈ s.candidates := by
  have m := earliest_mem h
  split at m
  · exact (List.mem_filter.1 m).1
  · split at m
    · exact (List.mem_filter.1 m).1
    · exact m

theorem candidate_of_mem {r : Rec} (h : r ∈ s.candidates) : ∃ l, s.candidate l = some r := by
  obtain ⟨l, -, h⟩ := List.mem_filterMap.1 h
  exact ⟨l, h⟩

theorem settleGrant_acts (h : Nat) (due : s.arb.withhold = s.withholdDue) : Acts sure s (settleGrant h s) := by
  unfold settleGrant
  split
  · next may =>
    split
    · next r chosen =>
      split
      · obtain ⟨l, candidate⟩ := candidate_of_mem s (choice_mem s chosen)
        exact .single (.grant r l candidate (line_of_withhold_isEmpty may.1 due))
      · exact onArb_acts s _ id
    · exact .refl
  · exact .refl

theorem settleChangeover_acts : Acts sure s (settleChangeover s) := by
  unfold settleChangeover
  (repeat' split)
  · exact .refl
  · exact onArb_acts s _ id
  · exact .refl

theorem settleStart_acts : Acts sure s (settleStart s) := by
  unfold settleStart
  split
  · exact enterRunning_acts s
  · exact .refl

theorem settleDrain_acts : Acts sure s (settleDrain s) := by
  unfold settleDrain
  split
  · next empty => exact enterReady_acts s _ (.inr empty.2)
  · exact .refl

theorem settle_acts (before : State) (h : Nat) : Acts sure s (settle before h s) := by
  have idleBlades := fun t : State => forLanes_acts (sure := sure) t fun l u => stopIdleBlade_acts u l
  unfold settle
  dsimp only
  refine Acts.trans ?_ (evaluateGates_acts _)
  refine Acts.trans ?_ (refresh_acts _)
  refine Acts.trans ?_ (settleChangeover_acts _)
  refine Acts.trans ?_ (settleGrant_acts _ h (refresh_due _))
  refine Acts.trans ?_ (refresh_acts _)
  refine Acts.trans ?_ (forLanes_acts _ fun l u => settleRetrial_acts u l)
  refine Acts.trans ?_ (settlePurge_acts _ h)
  refine Acts.trans ?_ (settleChangeover_acts _)
  refine Acts.trans ?_ (settleReindex_acts _)
  refine Acts.trans ?_ (idleBlades _)
  refine Acts.trans ?_ (settleDrain_acts _)
  refine Acts.trans ?_ (settleStart_acts _)
  exact (idleBlades s).trans (checkNoLanes_acts _ before)

end Sys2Proof.Machine
end

section
/-! PROOFS. The events of the line position and the eyes, and the advance, as chains of acts. -/

namespace Sys2Proof.Machine

variable {sure : Prop} (s : State)

/-! ### Where records stand -/

theorem mem_records_iff (r : Rec) : r ∈ s.records ↔ (∃ l, r ∈ s.queue l) ∨ r ∈ s.trk.post := by
  simp only [State.records, Trk.records, List.mem_append, State.queue]
  constructor
  · rintro ((((h | h) | h) | h) | h)
    · exact .inl ⟨0, h⟩
    · exact .inl ⟨1, h⟩
    · exact .inl ⟨2, h⟩
    · exact .inl ⟨3, h⟩
    · exact .inr h
  · rintro (⟨l, h⟩ | h)
    · fin_cases l
      · exact .inl (.inl (.inl (.inl h)))
      · exact .inl (.inl (.inl (.inr h)))
      · exact .inl (.inl (.inr h))
      · exact .inl (.inr h)
    · exact .inr h

theorem mem_records_of_queue {r : Rec} {l : Lane} (h : r ∈ s.queue l) : r ∈ s.records :=
  (mem_records_iff s r).2 (.inl ⟨l, h⟩)

theorem mem_records_of_post {r : Rec} (h : r ∈ s.trk.post) : r ∈ s.records := (mem_records_iff s r).2 (.inr h)

/-- A record that the table holds, as a retirement of it asks. -/
theorem held_as {r x : Rec} (held : x ∈ s.records) (same : x.SameLoaf r) : sure → ∃ y ∈ s.records, y.SameLoaf r :=
  fun _ => ⟨x, held, same⟩

theorem Rec.SameLoaf.refl (r : Rec) : r.SameLoaf r := ⟨rfl, rfl, rfl⟩

/-- What an event of the position knows of its record (R38, R39, R42, R61). -/
def Station.Held : Station → Prop
  | .blockedEye r => r ∈ s.records ∧ r.state = .measuring
  | .cut r => r ∈ s.records ∧ (r.state = .planned ∨ r.state = .slicing)
  | .clearOfHead r => r ∈ s.records ∧ (r.state = .planned ∨ r.state = .slicing)
  | .pocketDeadline r => r ∈ s.records ∧ r.state = .queued
  | .releaseEnd r => r ∈ s.trk.post ∧ r.state = .merged
  | .bag r => r ∈ s.records ∧ r.state = .merged
  | .tie r => r ∈ s.records ∧ (r.state = .merged ∨ r.state = .bagged)
  | .verify r => r ∈ s.records ∧ r.state = .tied
  | .readEnd _ => True
  | .decision r => r ∈ s.records ∧ r.state ≠ .decided
  | .windowPassed r => r ∈ s.records ∧ r.state = .decided
  | .wake => True

theorem laneStation_held {r : Rec} {l : Lane} (h : r ∈ s.queue l) {v : Nat} {e : Station}
    (station : s.laneStation r = some (v, e)) : e.Held s := by
  have held := mem_records_of_queue s h
  unfold State.laneStation at station
  (repeat' split at station) <;> cases station
  · exact ⟨held, by assumption⟩
  · exact ⟨held, by assumption⟩
  · exact ⟨held, .inl (by assumption)⟩
  · exact ⟨held, .inl (by assumption)⟩
  · exact ⟨held, .inr (by assumption)⟩
  · exact ⟨held, .inr (by assumption)⟩

theorem postStation_held {r : Rec} (h : r ∈ s.trk.post) {v : Nat} {e : Station}
    (station : s.postStation r = some (v, e)) : e.Held s := by
  have held := mem_records_of_post s h
  unfold State.postStation at station
  dsimp only at station
  split at station
  case h_1 merged =>
    (repeat' split at station) <;> cases station
    · exact ⟨h, merged⟩
    · exact ⟨held, .inl merged⟩
    · exact ⟨held, merged⟩
  case h_2 bagged => cases station; exact ⟨held, .inr bagged⟩
  case h_3 tied =>
    split at station <;> cases station
    · trivial
    · exact ⟨held, tied⟩
  case h_4 decided => cases station; exact ⟨held, decided⟩
  case h_5 other => cases station; exact ⟨held, other⟩

/-- Every event still to come is of a record that the table holds, in the state that the event is of. -/
theorem stations_held {h v : Nat} {e : Station} (m : (v, e) ∈ s.stations h) : e.Held s := by
  unfold State.stations at m
  rcases List.mem_append.1 m with m | m
  · rcases List.mem_append.1 m with m | m
    · obtain ⟨r, hr, station⟩ := List.mem_filterMap.1 m
      exact postStation_held s hr station
    · obtain ⟨q, hq, m⟩ := List.mem_flatten.1 m
      obtain ⟨l, -, rfl⟩ := List.mem_map.1 hq
      obtain ⟨r, hr, station⟩ := List.mem_filterMap.1 m
      exact laneStation_held s hr station
  · obtain ⟨p, -, station⟩ := List.mem_filterMap.1 m
    obtain ⟨v, -, station⟩ := Option.bind_eq_some_iff.1 station
    split at station <;> cases station
    trivial

theorem firstStation_mem {es : List (Nat × Station)} {e : Nat × Station} (h : firstStation es = some e) : e ∈ es := by
  induction es generalizing e with
  | nil => exact nomatch h
  | cons a es ih =>
    unfold firstStation at h
    split at h
    · cases h; exact List.mem_cons_self
    · next b first =>
      split at h <;> cases h
      · exact List.mem_cons_of_mem _ (ih first)
      · exact List.mem_cons_self

/-! ### One event of the position (R39) -/

/-- A write that gives a record a reason, and leaves its state, its decision and its mark. -/
theorem addReason_acts (n : Nat) (x : Reason) (f : Rec → Rec)
    (keeps : ∀ r : Rec, (r.addReason x).SameLoaf (f r) ∧ (f r).decision = r.decision ∧ (f r).state = r.state ∧
      (f r).suspect = r.suspect ∧ (f r).reasons = (r.addReason x).reasons ∧ (f r).late = (r.addReason x).late) :
    Acts sure s (onRec n f s) := by
  refine onRec_acts_any s n f (fun r => ?_) fun r well => ?_
  · obtain ⟨⟨loaf, lane, tag⟩, -⟩ := keeps r
    obtain ⟨loaf', lane', tag'⟩ := r.sameLoaf_addReason x
    exact ⟨loaf.trans loaf', lane.trans lane', tag.trans tag'⟩
  · obtain ⟨-, decision, state, suspect, reasons, late⟩ := keeps r
    have added := well.addReason x
    rw [addReason_eq] at added reasons late
    exact added.congr decision state suspect reasons late

theorem withdraw_acts (n : Nat) : Acts sure s (onRec n Rec.withdraw s) :=
  addReason_acts s n .blade _ fun r => by simp [Rec.withdraw, Rec.SameLoaf, addReason_eq]

theorem missedCut_acts (n : Nat) :
    Acts sure s (onRec n (fun r => { r.addReason .blade with slicingEnded := true }) s) :=
  addReason_acts s n .blade _ fun r => by simp [Rec.SameLoaf, addReason_eq]

theorem toQueued_acts {r : Rec} (h : s.Undecided r.loaf) : Acts sure s (toQueued r s) := by
  unfold toQueued
  refine Acts.trans ?_ (offTrialList_acts _ _ _)
  exact onRec_acts_undecided s h _ fun _ => ⟨⟨rfl, rfl, rfl⟩, rfl, nofun⟩

theorem takeBlockedEye_acts {r : Rec} (h : s.Undecided r.loaf) : Acts sure s (takeBlockedEye r s) := by
  unfold takeBlockedEye
  refine Acts.trans ?_ (laneFault_acts _ _ _ _)
  refine onRec_acts_undecided s h _ fun x => ?_
  rw [addReason_eq]
  exact ⟨⟨rfl, rfl, rfl⟩, rfl, nofun⟩

theorem makeCut_acts {r : Rec} (h : s.Undecided r.loaf) (k : Nat) : Acts sure s (makeCut r k s) := by
  unfold makeCut
  dsimp only
  have slicing : Acts sure s (onRec r.loaf (fun x => { x with cutsDone := x.cutsDone + 1, state := .slicing }) s) :=
    onRec_acts_undecided s h _ fun _ => ⟨⟨rfl, rfl, rfl⟩, rfl, nofun⟩
  split
  · refine Acts.trans ?_ (toQueued_acts _ (.congr ?_ (kept_trk (endSlicing_without (b := { lp := true, crm := true }) _ _ rfl rfl) rfl)))
    · refine Acts.trans ?_ (endSlicing_acts _ _)
      refine slicing.trans (onRec_acts_any _ _ _ ?_ ?_)
      · exact fun _ => ⟨rfl, rfl, rfl⟩
      · exact fun x well => well.congr rfl rfl rfl rfl rfl
    · refine State.Undecided.onRec (.onRec h ?_) ?_
      · exact fun x => ⟨rfl, fun _ => nofun⟩
      · exact fun x => ⟨rfl, id⟩
  · exact slicing

theorem missCut_acts (r : Rec) : Acts sure s (missCut r s) := by
  unfold missCut
  split
  · exact withdraw_acts s _
  · exact (missedCut_acts s _).trans (endSlicing_acts _ _)

theorem takeCut_acts {r : Rec} (h : s.Undecided r.loaf) : Acts sure s (takeCut r s) := by
  unfold takeCut
  split
  · split
    · exact makeCut_acts s h _
    · exact missCut_acts s r
  · exact .refl

theorem takeDeadline_acts {r : Rec} (held : r ∈ s.records) : Acts sure s (takeDeadline r s) := by
  unfold takeDeadline
  refine Acts.trans ?_ (laneFault_acts _ _ _ _)
  exact retireLost_acts s (held_as s held (.refl r))

theorem endFlight_acts (l : Lane) : Acts sure s (endFlight l s) := onArb_acts s _ id

theorem retract_acts {r : Rec} (held : r ∈ s.trk.post) (merged : r.state = .merged) : Acts sure s (retract r s) := by
  unfold retract
  dsimp only
  split
  · refine Acts.trans ?_ (laneFault_acts _ _ _ _)
    refine (endFlight_acts s _).trans (retireLost_acts _ (held_as (x := r) _ ?_ ⟨rfl, rfl, rfl⟩))
    exact mem_records_of_post s held
  · exact (endFlight_acts s _).trans (.single (.retract (s := endFlight r.lane s) r held merged _))

/-- What the decision point makes of a record's reasons, and the decision (R43, R44). -/
theorem takeDecision_acts {r : Rec} (held : r ∈ s.records) : Acts sure s (takeDecision r s) := by
  unfold takeDecision
  dsimp only
  refine Acts.trans ?_ (.single (.trk _ ?_ ?_ ?_))
  rotate_left
  · rfl
  · rfl
  · exact id
  refine onRec_acts s r.loaf _ (fun _ => ⟨rfl, rfl, rfl⟩) fun differ x hx e well => ?_
  rw [eq_of_loaf_eq differ held hx e]
  refine ⟨by simp, fun pass => ?_⟩
  have none : (if r.suspect = true ∧ r.reasons = [] then { r with reasons := [Reason.suspect] } else r).reasons = [] := by
    by_contra some
    simp [some] at pass
  by_cases sus : r.suspect = true ∧ r.reasons = []
  · simp [sus] at none
  · rw [if_neg sus] at none
    refine ⟨?_, .inl (by simpa [sus] using none)⟩
    show r.suspect = false
    simpa [none] using sus

/-- One event of the position is a chain of acts. -/
theorem takeStation_acts {e : Station} (held : e.Held s) : Acts sure s (takeStation e s) := by
  cases e with
  | blockedEye r => exact takeBlockedEye_acts s (.intro held.1 (held.2 ▸ nofun))
  | cut r =>
    obtain ⟨held, planned | slicing⟩ := held
    · exact takeCut_acts s (.intro held (planned ▸ nofun))
    · exact takeCut_acts s (.intro held (slicing ▸ nofun))
  | clearOfHead r =>
    obtain ⟨held, planned | slicing⟩ := held
    · exact toQueued_acts s (.intro held (planned ▸ nofun))
    · exact toQueued_acts s (.intro held (slicing ▸ nofun))
  | pocketDeadline r => exact takeDeadline_acts s held.1
  | releaseEnd r => exact retract_acts s held.1 held.2
  | bag r => exact bagStation_acts s r
  | tie r =>
    obtain ⟨held, merged | bagged⟩ := held
    · exact tieStation_acts s (.intro held (merged ▸ nofun))
    · exact tieStation_acts s (.intro held (bagged ▸ nofun))
  | verify r => exact verifyStation_acts s (.intro held.1 (held.2 ▸ nofun))
  | readEnd o => exact resolveRead_acts s o none
  | decision r => exact takeDecision_acts s held.1
  | windowPassed r => exact retireLost_acts s (held_as s held.1 (.refl r))
  | wake => exact .refl

/-! ### An advance (R8, R9) -/

theorem takeReached_acts (fuel h : Nat) : Acts sure s (takeReached fuel h s) := by
  induction fuel generalizing h s with
  | zero => exact .refl
  | succ fuel ih =>
    unfold takeReached
    (repeat' split)
    · exact .refl
    · next first _ =>
      refine Acts.trans ?_ (ih _ _)
      exact (takeStation_acts s (stations_held s (firstStation_mem first))).trans (settle_acts _ _ _)
    · exact .refl
    · exact .refl

theorem advance_acts (d : Nat) : Acts sure s (advance d s) := by
  unfold advance
  dsimp only
  split
  · exact .refl
  · next moves =>
    have moved : Acts sure s (s.onSru fun x => { x with pos := min Config.posMax (s.pos + d) }) :=
      .single (.sru _ (le_of_not_ge (not_or.1 moves).2) (fun _ => min_le_left _ _) id)
    have reached := moved.trans (takeReached_acts _ stationFuel s.pos)
    split
    · exact (reached.trans (haltLine_acts _ _)).trans (settle_acts _ _ _)
    · exact reached

end Sys2Proof.Machine
end

section
/-! PROOFS. The eyes, the motion events and the timers as chains of acts; clearing the table. -/

namespace Sys2Proof.Machine

variable {sure : Prop} (s : State)

/-! ### The eyes and the other inputs -/

theorem planRecord_fields (p : Profile) (rmax v : Nat) (r : Rec) :
    r.SameLoaf (planRecord p rmax v r) ∧ (planRecord p rmax v r).decision = r.decision ∧
      (planRecord p rmax v r).state ≠ .decided := by
  unfold planRecord
  dsimp only
  (repeat' split) <;> simp [Rec.SameLoaf, addReason_eq]

theorem measure_acts {r : Rec} (h : s.Undecided r.loaf) (len : Rec → Option Nat) (p : Rec → Profile) (rmax v : Nat) :
    Acts sure s (onRec r.loaf (fun r => planRecord (p r) rmax v { r with length := len r }) s) :=
  onRec_acts_undecided s h _ fun x => planRecord_fields _ rmax v { x with length := len x }

theorem pocket_acts (n : Nat) (p : Option Nat) : Acts sure s (onRec n (fun r => { r with pocket := p }) s) := by
  refine onRec_acts_any s n _ (fun _ => ⟨rfl, rfl, rfl⟩) fun r well => ?_
  exact well.congr rfl rfl rfl rfl rfl

theorem confirmGrant_acts (g : Grant) (r : Rec) : Acts sure s (confirmGrant g r s) :=
  (endFlight_acts s g.lane).trans (onArb_acts (endFlight g.lane s)
    (fun a => { a with spacing := some ⟨r.mergeLead.getD 0, r.length.getD 0⟩ }) id)

theorem raiseEscape_acts (r : Rec) : Acts sure s (raiseEscape r s) := raise_acts s _ _

theorem countDivertFail_acts : Acts sure s (countDivertFail s) := lineEvent_acts s _ fun _ => ⟨rfl, rfl, rfl⟩

theorem divertFail_acts {r : Rec} (held : r ∈ s.records) : Acts sure s (divertFail r s) := by
  unfold divertFail
  refine Acts.trans ?_ (raise_acts _ _ _)
  refine Acts.trans ?_ (raiseEscape_acts _ _)
  refine (countDivertFail_acts s).trans (retire_acts _ (held_as (x := r) _ ?_ (.refl r)))
  exact held

variable {s} in
theorem oldestIn_mem {x : Decision} {d : Nat} {r : Rec} (h : s.oldestIn x d = some r) : r ∈ s.records :=
  mem_records_of_post s (List.mem_of_find?_eq_some h)

theorem exitEffect_acts : Acts sure s (match s.oldestIn .pass s.set.dExit with
    | some r => if r.late then raiseEscape r (retire r .escape s) else retire r .good s
    | none =>
      match s.oldestIn .divert s.set.dExit with
      | some r => divertFail r s
      | none => phantom .exit s) := by
  (repeat' split)
  · next r h _ => exact (retire_acts s (held_as s (oldestIn_mem h) (.refl r))).trans (raiseEscape_acts _ _)
  · next r h _ => exact retire_acts s (held_as s (oldestIn_mem h) (.refl r))
  · next r h => exact divertFail_acts s (oldestIn_mem h)
  · exact phantom_acts s _

theorem chuteEffect_acts : Acts sure s (match s.oldestIn .divert s.set.dChute with
    | some r => retire r (if r.challenge then .challenge else .rejected) s
    | none => phantom .chute s) := by
  split
  · next r h => exact retire_acts s (held_as s (oldestIn_mem h) (.refl r))
  · exact phantom_acts s _

theorem strayAnswer_acts : Acts sure s (strayAnswer s) := onCounters_acts s _ id

/-! ### A purge's readings (R140 to R143) -/

theorem openAir_acts (x : Option Nat) (h : s.crm.state = .purging) : Acts sure s (openAir x s) := by
  refine onCrm_acts s _ id fun orderly => ?_
  obtain ⟨nodup, idle, cycle, -⟩ := orderly
  have runs : s.crm.running = true := by simp [Crm.running, h]
  obtain ⟨y, hy, front⟩ := cycle runs
  exact ⟨nodup, idle, fun _ => ⟨{ y with before := x }, by simp [hy], front⟩, fun _ => h⟩

theorem corrected_range {c start : Nat} (h : 32 ≤ c ∧ c ≤ 128) (removed : Option Nat) :
    32 ≤ corrected c start removed ∧ corrected c start removed ≤ 128 := by
  unfold corrected
  split
  · split
    · exact h
    · omega
  · exact h

theorem onCrm_last_acts (f : Crm → PerLane (Option LastPurge)) : Acts sure s (s.onCrm fun c => { c with last := f c }) :=
  onCrm_acts s _ id id

theorem settleCycle_acts (y : Cycle) : Acts sure s (settleCycle y s).1 := by
  unfold settleCycle
  dsimp only
  split
  · refine Acts.trans ?_ (lineEvent_acts _ _ ?_)
    · refine Acts.trans (onCrumb_acts s _ _ fun h => ?_) (onCrm_last_acts _ _)
      obtain ⟨estimate, -, correction⟩ := h
      exact ⟨(Nat.sub_le _ _).trans estimate, Nat.zero_le _, corrected_range correction _⟩
    · exact fun _ => ⟨rfl, rfl, rfl⟩
  · refine Acts.trans ?_ (lineEvent_acts _ _ ?_)
    · exact onCrm_acts s _ (fun h => ⟨(Nat.sub_le _ _).trans h.1, h.2⟩) id
    · exact fun _ => ⟨rfl, rfl, rfl⟩

theorem checkModel_acts (y : Cycle) : Acts sure s (checkModel y s) := by
  unfold checkModel
  split
  · exact raise_acts s _ _
  · exact .refl

theorem checkResidual_acts (y : Cycle) : Acts sure s (checkResidual y s) := by
  unfold checkResidual
  (repeat' split)
  · exact laneFault_acts s _ _ _
  · exact .refl
  · exact .refl

theorem endCycleCrm_acts : Acts sure s (s.onCrm Crm.endCycle) := by
  refine onCrm_acts s _ id fun orderly => ⟨?_, ?_, ?_, nofun⟩
  · exact orderly.1.sublist ((List.tail_sublist _).map _)
  · cases q : s.crm.queue.tail <;> simp [Crm.endCycle, q]
  · cases q : s.crm.queue.tail <;> simp [Crm.endCycle, q, Crm.running]

theorem finishCycle_acts (y : Cycle) (last : LastPurge) : Acts sure s (finishCycle y last s) := by
  unfold finishCycle
  dsimp only
  refine Acts.trans ?_ (evalTriggers_acts _ _)
  refine Acts.trans ?_ (raise_acts _ _ _)
  split
  · exact (endCycleCrm_acts s).trans (unpark_acts _ _)
  · exact endCycleCrm_acts s

theorem completeCycle_acts (y : Cycle) : Acts sure s (completeCycle y s) := by
  unfold completeCycle
  dsimp only
  refine Acts.trans ?_ (finishCycle_acts _ _ _)
  refine Acts.trans ?_ (checkResidual_acts _ _)
  exact (settleCycle_acts s y).trans (checkModel_acts _ _)

theorem takeReading_acts (x : Option Nat) : Acts sure s (takeReading x s) := by
  unfold takeReading
  split
  · next purging _ => exact openAir_acts s x purging
  · exact completeCycle_acts s _
  · exact .refl

/-! ### Motion -/

theorem Monitor.windowEnd_count (m : Monitor) (x : LineSettings) (n : Nat) : (m.windowEnd x n).count = 0 := rfl

theorem joinHistory_length (h : List WindowCount) (c : WindowCount) : (joinHistory h c).length ≤ Config.historyMax := by
  simp only [joinHistory, List.length_drop]
  omega

theorem LineMonitor.windowEnd_inRange (m : LineMonitor) (x : LineSettings) (n ms : Nat) :
    (m.windowEnd x n ms).InRange :=
  ⟨Nat.zero_le _, joinHistory_length _ _⟩

theorem Monitor.pulse_range (m : Monitor) : m.pulse.count ≤ Config.pulseMax := min_le_left _ _

theorem countPulse_acts (src : LineSource) : Acts sure s (countPulse src s) := by
  cases src with
  | w => exact onSru_acts s _ rfl fun h => ⟨⟨Monitor.pulse_range _, h.1.2⟩, h.2⟩
  | m => exact onSru_acts s _ rfl fun h => ⟨h.1, Monitor.pulse_range _, h.2.2⟩

theorem pacerCarry_acts (n : Nat) : Acts sure s (s.onSru fun x => { x with pacerCarry := n }) :=
  onSru_acts s _ rfl id

theorem bladePulse_acts (l : Lane) : Acts sure s (onHead l (fun h => { h with mon := h.mon.pulse }) s) :=
  onHead_acts s l _ fun _ => Monitor.pulse_range _

theorem classAll_acts : Acts sure s (classAll s) := by
  unfold classAll
  refine Acts.trans (onSru_acts s _ rfl fun _ => ?_) (.single (.hd _ fun h l => ?_))
  · exact ⟨LineMonitor.windowEnd_inRange _ _ _ _, LineMonitor.windowEnd_inRange _ _ _ _⟩
  · obtain ⟨-, fails⟩ := h l
    exact ⟨by simp [Monitor.windowEnd_count], fails⟩

theorem Rec.sameLoaf_bladeFaulted (r : Rec) : r.SameLoaf r.bladeFaulted := by
  unfold Rec.bladeFaulted
  split <;> simp [Rec.withdraw, addReason_eq, Rec.SameLoaf]

theorem Rec.DecidedWell.bladeFaulted {r : Rec} (h : r.DecidedWell) : r.bladeFaulted.DecidedWell := by
  unfold Rec.bladeFaulted
  split
  · exact h.addReason .blade
  · exact (h.addReason .blade).congr rfl rfl rfl rfl rfl
  · exact (h.addReason .blade).congr rfl rfl rfl rfl rfl
  · exact h

theorem bladeFault_acts (l : Lane) : Acts sure s (bladeFault l s) := by
  unfold bladeFault
  dsimp only
  refine Acts.trans ?_ (laneFault_acts _ _ _ _)
  have stopped : Acts sure s (onQueue l (List.map Rec.bladeFaulted) (raise .bladeFault
      (bladeFaultSnapshot l (codeOrNone Rec.loaf (s.slicingRec l)) (s.bladeVictims l) (setBlade .fault l s))
      (setBlade .fault l s))) :=
    ((setBlade_acts s _ l).trans (raise_acts _ _ _)).trans
      (.single (.queue l _ Rec.sameLoaf_bladeFaulted fun _ h => h.bladeFaulted))
  (repeat' split)
  · exact stopped
  · exact stopped.trans (endSlicing_acts _ _)
  · exact stopped

theorem takeQualification_acts (before : State) (l : Lane) : Acts sure s (takeQualification before l s) := by
  unfold takeQualification
  (repeat' split)
  · exact bladeQualified_acts s l
  · exact .refl
  · exact bladeFault_acts s l
  · exact .refl
  · exact .refl

theorem beginWindow_acts : Acts sure s (beginWindow s) :=
  onSru_acts s (fun x => { x with windowMs := s.set.windowMs, windowLeft := s.set.windowMs }) rfl id

theorem windowEffect_acts : Acts sure s (beginWindow (forLanes (takeQualification s)
    (refreshEstimate (slipCheck (evaluateSelection s.sru.estimate (classAll s)))))) := by
  refine Acts.trans ?_ (beginWindow_acts _)
  refine Acts.trans ?_ (forLanes_acts _ fun l t => takeQualification_acts t s l)
  refine Acts.trans ?_ (refreshEstimate_acts _)
  refine Acts.trans ?_ (slipCheck_acts _)
  exact (classAll_acts s).trans (evaluateSelection_acts _ _)

theorem demand_acts (d carry : Nat) : Acts sure s (s.onLc fun lc => { lc with demand := d, rampCarry := carry }) :=
  onLc_acts s _ .inl

theorem clockTick_acts : Acts sure s (s.onPst fun p => { p with clock := min Config.clockMax (p.clock + 1) }) :=
  (Act.pst { s.pst with clock := min Config.clockMax (s.pst.clock + 1) } (fun _ => min_le_left _ _) id).acts

/-! ### Timers -/

theorem spinupExpiry_acts (l : Lane) (x : List Byte) :
    Acts sure s (laneFault .blade true l (raise .bladeFault x (setBlade .fault l s))) :=
  ((setBlade_acts s _ l).trans (raise_acts _ _ _)).trans (laneFault_acts _ _ _ _)

theorem purgeExpiry_acts (h : s.crm.purge.isSome = true) : Acts sure s (s.onCrm fun c =>
    { c with state := .settle, purge := none, air := none, settle := some Config.settleMs }) := by
  refine onCrm_acts s _ id fun orderly => ?_
  obtain ⟨nodup, idle, cycle, purging⟩ := orderly
  have state := purging h
  refine ⟨nodup, ⟨nofun, fun empty => ?_⟩, fun _ => cycle (by simp [Crm.running, state]), nofun⟩
  have : s.crm.state = .idle := idle.2 empty
  rw [state] at this
  exact nomatch this

theorem settleExpiry_acts : Acts sure s (s.onCrm fun c => { c with settle := none, weigh := some Config.weighMs }) :=
  onCrm_acts s _ id id

theorem startFail_acts (h : s.lc.state = .starting) : Acts sure s (match s.lc.origin with
    | .ready => enterReady .startFail s
    | .halted => enterHalted .startFail s) := by
  split
  · next origin => exact enterReady_acts s _ (.inl (.inr ⟨h, origin⟩))
  · exact enterHalted_acts s _

theorem silenceExpiry_acts (x : List Byte) :
    Acts sure s (requestDrain .linkSilent (raise .linkSilent x (s.onLc fun lc => { lc with silence := none }))) := by
  refine Acts.trans ?_ (requestDrain_acts _ _)
  refine Acts.trans ?_ (raise_acts _ _ _)
  exact onLc_acts s _ .inl

theorem estop_acts : Acts sure s (s.onLc fun lc => { lc with estop := true }) := onLc_acts s _ .inl

theorem estopReleased_acts : Acts sure s (s.onLc fun lc => { lc with estop := false }) := onLc_acts s _ .inl

theorem raiseStoreFault_acts (x : BitVec 17) : Acts sure s (raiseStoreFault x s) := by
  unfold raiseStoreFault
  split
  · exact .refl
  · exact raise_acts s _ _

theorem storeMarks_acts (f : Pst → Pst) (same : ∀ p, (f p).slots = p.slots ∧ (f p).assign = p.assign ∧
    (f p).settings = p.settings ∧ (f p).clock = p.clock) : Acts sure s (s.onPst f) := by
  obtain ⟨slots, assign, settings, clock⟩ := same s.pst
  refine (Act.pst _ (fun h => clock ▸ h) fun h => ?_).acts
  unfold Pst.Orderly at *
  rwa [slots, assign, settings]

/-! ### Clearing the table (R51, R185) -/

theorem retireQuiet_records (r : Rec) (d : Disposition) :
    (retireQuiet r d s).records = s.records.filter fun x => x.loaf != r.loaf := by
  have trk := (retireQuiet_as r d s).1.1
  simp [State.records, Trk.records, trk, List.filter_append]

theorem retire_records (r : Rec) (d : Disposition) :
    (retire r d s).records = s.records.filter fun x => x.loaf != r.loaf := by
  have trk := (retire_as r d s).1.1
  simp [State.records, Trk.records, trk, List.filter_append]

theorem clearOrder_perm : s.clearOrder.Perm s.records := by
  unfold State.clearOrder State.records Trk.records
  refine List.perm_iff_count.2 fun r => ?_
  simp only [List.count_append]
  omega

section
variable {f : State → Rec → State}

/-- Retiring records that stand in the table under different numbers, one after another, is a chain of acts. -/
theorem foldl_acts (acts : ∀ t r, (sure → r ∈ t.records) → Acts sure t (f t r))
    (records : ∀ t r, (f t r).records = t.records.filter fun x => x.loaf != r.loaf) :
    ∀ (rs : List Rec) (s : State), (sure → (rs.map Rec.loaf).Nodup ∧ ∀ r ∈ rs, r ∈ s.records) →
      Acts sure s (rs.foldl f s)
  | [], _, _ => .refl
  | r :: rs, s, h => by
    refine (acts s r fun k => (h k).2 r List.mem_cons_self).trans (foldl_acts acts records rs (f s r) fun k => ?_)
    obtain ⟨nodup, held⟩ := h k
    obtain ⟨fresh, nodup⟩ := List.nodup_cons.1 nodup
    refine ⟨nodup, fun x hx => ?_⟩
    rw [records]
    refine List.mem_filter.2 ⟨held x (List.mem_cons_of_mem _ hx), ?_⟩
    have other : x.loaf ≠ r.loaf := fun e => fresh (List.mem_map.2 ⟨x, hx, e⟩)
    simpa using other

/-- Retiring the records of the table one after another leaves it empty. -/
theorem foldl_records (records : ∀ t r, (f t r).records = t.records.filter fun x => x.loaf != r.loaf) :
    ∀ (rs : List Rec) (s : State), (∀ r ∈ s.records, r ∈ rs) → (rs.foldl f s).records = []
  | [], s, h => List.eq_nil_iff_forall_not_mem.2 fun r hr => List.not_mem_nil (h r hr)
  | r :: rs, s, h => by
    refine foldl_records records rs (f s r) fun x hx => ?_
    rw [records] at hx
    obtain ⟨held, other⟩ := List.mem_filter.1 hx
    refine (List.mem_cons.1 (h x held)).resolve_left fun e => ?_
    simp [e] at other

end

theorem clearOrder_held (h : sure → s.LoavesDiffer) :
    sure → (s.clearOrder.map Rec.loaf).Nodup ∧ ∀ r ∈ s.clearOrder, r ∈ s.records := fun k =>
  ⟨((clearOrder_perm s).map _).nodup_iff.2 (h k), fun _ hr => (clearOrder_perm s).mem_iff.1 hr⟩

theorem clearQuiet_acts (h : sure → s.LoavesDiffer) : Acts sure s (clearQuiet s) :=
  foldl_acts (fun _ r held => .single (.retire r _ fun k => ⟨r, held k, .refl r⟩))
    (fun t r => retireQuiet_records t r _) _ s (clearOrder_held s h)

theorem clearQuiet_records : (clearQuiet s).records = [] :=
  foldl_records (fun t r => retireQuiet_records t r _) _ s fun _ hr => (clearOrder_perm s).mem_iff.2 hr

theorem clearTable_acts (h : sure → s.LoavesDiffer) : Acts sure s (clearTable s) := by
  unfold clearTable
  refine Acts.trans ?_ (.single (.trk _ ?_ ?_ ?_))
  rotate_left
  · rfl
  · rfl
  · exact id
  refine Acts.trans ?_ (onArb_acts _ _ ?_)
  · exact foldl_acts (fun t r held => retire_acts t fun k => ⟨r, held k, .refl r⟩) (fun t r => retire_records t r _) _ s
      (clearOrder_held s h)
  · exact fun _ l => by simp

end Sys2Proof.Machine
end

section
/-! PROOFS. The settings set: what its 154 bytes carry, and what keeps it valid (R127, R168). -/

namespace Sys2Proof.Machine

theorem toList_four {α : Type} (v : PerLane α) : v.toList = [v[0], v[1], v[2], v[3]] := by
  refine List.ext_getElem (by simp) fun i hi _ => ?_
  have : i < 4 := by simpa using hi
  interval_cases i <;> simp

/-- The carried values of the settings that a list names are that list, its narrowing flag being 0 or 1. -/
theorem settingsValues_settingsOf {vs : List Nat} (length : vs.length = 71) (flag : vs.getD 41 0 ≤ 1) :
    settingsValues (settingsOf vs) = vs := by
  have each : vs = (List.range 71).map fun i => vs.getD i 0 := by
    refine List.ext_getElem (by simp [length]) fun i hi _ => ?_
    simp [List.getD_eq_getElem?_getD, List.getElem?_eq_getElem hi]
  have narrowing : (if vs.getD 41 0 = 1 then 1 else 0) = vs.getD 41 0 := by
    split
    · next one => exact one.symm
    · next other => omega
  conv_rhs => rw [each]
  simp only [settingsValues, settingsOf, toList_four, decide_eq_true_eq, narrowing, Nat.mul_div_cancel_left _ (by decide : 0 < 10),
    Nat.mul_div_cancel_left _ (by decide : 0 < 100)]
  rfl

theorem readFields_length (fs : List Field) (bs : List Byte) : (readFields fs bs).length = fs.length := by
  induction fs generalizing bs with
  | nil => rfl
  | cons f fs ih => simp [readFields, ih]

/-- The ranges, value by value. -/
theorem inRanges_iff (fs : List Field) (vs : List Nat) : inRanges fs vs = true ↔
    vs.length = fs.length ∧ ∀ i f, fs[i]? = some f → f.lo ≤ vs.getD i 0 ∧ vs.getD i 0 ≤ f.hi := by
  induction fs generalizing vs with
  | nil => cases vs <;> simp [inRanges]
  | cons f fs ih =>
    cases vs with
    | nil => simp [inRanges]
    | cons v vs =>
      simp only [inRanges, Bool.and_eq_true, decide_eq_true_iff, ih, List.length_cons, Nat.add_right_cancel_iff]
      constructor
      · rintro ⟨first, length, rest⟩
        refine ⟨length, fun i g hg => ?_⟩
        cases i with
        | zero => cases hg; exact first
        | succ i => exact rest i g hg
      · rintro ⟨length, each⟩
        exact ⟨each 0 f rfl, length, fun i g hg => each (i + 1) g hg⟩

/-- Settings that SET_LINE's payload names and that agree are valid: their durations lie on their steps. -/
theorem settingsValid_of_parse {bs : List Byte} {x : LineSettings} (h : parseSettings bs = some x)
    (agree : settingsAgree x = true) : settingsValid x = true := by
  unfold parseSettings at h
  dsimp only at h
  split at h
  case isFalse => exact nomatch h
  case isTrue ranges =>
    cases h
    obtain ⟨ranges, challenge⟩ := Bool.and_eq_true_iff.1 ranges
    obtain ⟨length, each⟩ := (inRanges_iff _ _).1 ranges
    have flag := (each 41 ⟨2, 0, 1⟩ rfl).2
    unfold settingsValid
    rw [settingsValues_settingsOf length flag, ranges, challenge, agree]
    simp [onSteps, settingsOf, Nat.mul_mod_right]

theorem settingsAgree_challenge (x : LineSettings) (n : Nat) :
    settingsAgree { x with challengeInterval := n } = settingsAgree x := rfl

/-- A challenge interval in its range leaves valid settings valid (R127). -/
theorem settingsValid_challenge {x : LineSettings} (h : settingsValid x = true) {n : Nat} (ok : challengeOk n = true) :
    settingsValid { x with challengeInterval := n } = true := by
  unfold settingsValid at *
  simp only [Bool.and_eq_true] at h ⊢
  obtain ⟨⟨⟨ranges, -⟩, steps⟩, agree⟩ := h
  refine ⟨⟨⟨?_, ok⟩, steps⟩, agree⟩
  rw [inRanges_iff] at ranges ⊢
  obtain ⟨length, each⟩ := ranges
  have same : ∀ i, i ≠ 55 → (settingsValues { x with challengeInterval := n }).getD i 0 = (settingsValues x).getD i 0 := by
    intro i hi
    have split : ∀ m, settingsValues { x with challengeInterval := m } =
        (settingsValues x).take 55 ++ m :: (settingsValues x).drop 56 := by
      intro m
      simp only [settingsValues, toList_four]
      rfl
    have whole := split x.challengeInterval
    have lead : ((settingsValues x).take 55).length = 55 := by simp [length, settingsFields, fieldPerLane]
    rw [split n]
    conv_rhs => rw [show settingsValues x = _ from whole]
    rcases Nat.lt_or_gt_of_ne hi with low | high
    · have before : i < ((settingsValues x).take 55).length := lead.symm ▸ low
      rw [List.getD_append _ _ _ _ before, List.getD_append _ _ _ _ before]
    · obtain ⟨j, rfl⟩ := Nat.exists_eq_add_of_lt high
      rw [List.getD_append_right _ _ _ _ (by omega), List.getD_append_right _ _ _ _ (by omega), lead,
        show 55 + j + 1 - 55 = j + 1 by omega, List.getD_cons_succ, List.getD_cons_succ]
  have there : (settingsValues { x with challengeInterval := n }).getD 55 0 = n := by
    simp only [settingsValues, toList_four]
    rfl
  refine ⟨by simpa [settingsValues] using length, fun i f hf => ?_⟩
  by_cases e : i = 55
  · subst e
    cases hf
    rw [there]
    have : n = 0 ∨ (50 ≤ n ∧ n ≤ 5000) := by simpa [challengeOk] using ok
    exact ⟨Nat.zero_le _, show n ≤ 5000 by omega⟩
  · rw [same i e]
    exact each i f hf

end Sys2Proof.Machine
end

section
/-! PROOFS. Turns: the acts of the blocks and the changes of the link; how a request is answered. -/

namespace Sys2Proof.Machine

/-! ### The link (R190 to R196) -/

/-- The conditions of LinkHolds but for the idle transmitter's. -/
def Lp.Ordered (x : Lp) : Prop :=
  (x.queue.map Notice.kind).Nodup ∧ (∀ n ∈ x.queue, kindIn x.mask n.kind = false) ∧
    x.attn = !x.queue.isEmpty ∧ (x.hand = none → x.waiting = none ∧ x.reply = none)

theorem Lp.Orderly.ordered {x : Lp} (h : x.Orderly) : x.Ordered :=
  let ⟨nodup, unmasked, attn, hand, _⟩ := h
  ⟨nodup, unmasked, attn, hand⟩

/-- A transmitter that begins what it can is idle only with nothing to send. -/
theorem Lp.Ordered.beginNext {x : Lp} (h : x.Ordered) : x.beginNext.Orderly := by
  obtain ⟨nodup, unmasked, attn, hand⟩ := h
  unfold Lp.beginNext
  split
  · split
    · exact ⟨nodup, unmasked, attn, fun _ => ⟨rfl, rfl⟩, nofun⟩
    · next reply =>
      split
      · next n rest queue =>
        rw [queue] at nodup unmasked
        exact ⟨(List.nodup_cons.1 nodup).2, fun k hk => unmasked k (List.mem_cons_of_mem _ hk), rfl, hand, nofun⟩
      · next queue => exact ⟨nodup, unmasked, attn, hand, fun _ => ⟨reply, queue⟩⟩
  · next busy => exact ⟨nodup, unmasked, attn, hand, fun idle => absurd idle busy⟩

theorem Lp.Orderly.raise {x : Lp} (h : x.Orderly) (k : Kind) (time : Nat) (bs : List Byte) :
    (x.raise k time bs).Orderly := by
  obtain ⟨nodup, unmasked, attn, hand, idle⟩ := h
  unfold Lp.raise
  dsimp only
  split
  · exact ⟨nodup, unmasked, attn, hand, idle⟩
  · next fresh =>
    obtain ⟨mask, queued⟩ : kindIn x.mask k = false ∧ ∀ n ∈ x.queue, n.kind ≠ k := by simpa using fresh
    refine Lp.Ordered.beginNext ⟨?_, fun n hn => ?_, rfl, hand⟩
    · show ((x.queue ++ [_]).map Notice.kind).Nodup
      rw [List.map_append, List.map_singleton, ← List.concat_eq_append]
      refine nodup.concat fun m => ?_
      obtain ⟨n, hn, e⟩ := List.mem_map.1 m
      exact queued n hn e
    · rcases List.mem_append.1 hn with hn | hn
      · exact unmasked n hn
      · rw [List.mem_singleton.1 hn]; exact mask

/-- With no reply ready, a raising leaves the request in hand and its reply. -/
theorem Lp.raise_hand {x : Lp} (h : x.reply = none) (k : Kind) (time : Nat) (bs : List Byte) :
    (x.raise k time bs).hand = x.hand ∧ (x.raise k time bs).reply = none := by
  unfold Lp.raise Lp.withAttn Lp.beginNext
  dsimp only
  rw [h]
  (repeat' split) <;> simp_all [Lp.withAttn]

/-! ### Turns -/

/-- One turn of an event: an act of the blocks, or a change of the link that, where `calm` holds, keeps its
conditions. -/
inductive Turn (sure calm : Prop) : State → State → Prop
  | act {s t : State} (h : Act sure s t) : Turn sure calm s t
  | link {s : State} (x : Lp) (orderly : calm → s.lp.Orderly → x.Orderly)
      (reserve : s.trk.reserveHeld = true → kindIn s.lp.flags .tableReserve = true → kindIn x.flags .tableReserve = true) :
      Turn sure calm s { s with lp := x }

/-- A chain of turns. -/
abbrev Turns (sure calm : Prop) : State → State → Prop := Relation.ReflTransGen (Turn sure calm)

variable {sure calm : Prop}

theorem Acts.turns {s t : State} (h : Acts sure s t) : Turns sure calm s t :=
  Relation.ReflTransGen.mono (fun _ _ => .act) _ _ h

theorem Turns.trans {s t u : State} (h : Turns sure calm s t) (k : Turns sure calm t u) : Turns sure calm s u :=
  Relation.ReflTransGen.trans h k

theorem Turns.keeps {P : State → Prop} (act : ∀ s t, Act sure s t → P s → P t)
    (link : ∀ s : State, ∀ x : Lp, (calm → s.lp.Orderly → x.Orderly) →
      (s.trk.reserveHeld = true → kindIn s.lp.flags .tableReserve = true → kindIn x.flags .tableReserve = true) →
      P s → P { s with lp := x })
    {s t : State} (h : Turns sure calm s t) (hs : P s) : P t := by
  induction h with
  | refl => exact hs
  | tail _ turn ih =>
    cases turn with
    | act a => exact act _ _ a ih
    | link x orderly reserve => exact link _ x orderly reserve ih

/-- What an act does to the link: nothing, or one raising. -/
theorem Act.lp {s t : State} (h : Act sure s t) : t.lp = s.lp ∨ ∃ k time bs, t.lp = s.lp.raise k time bs := by
  cases h
  case raise k x => exact .inr ⟨k, _, x, rfl⟩
  case gates =>
    unfold evaluateGates
    dsimp only
    split
    · exact .inr ⟨_, _, _, rfl⟩
    · exact .inl rfl
  case retire r d _ =>
    exact .inl (kept_lp (retireQuiet_without (b := { trk := true, tot := true, arb := true, tie := true, refs := true })
      _ _ _ rfl rfl rfl rfl rfl) rfl rfl)
  all_goals exact .inl rfl

variable (s : State)

theorem link_turns (f : Lp → Lp) (orderly : calm → s.lp.Orderly → (f s.lp).Orderly)
    (flags : (f s.lp).flags = s.lp.flags) : Turns sure calm s (s.onLp f) :=
  .single (.link (f s.lp) orderly fun _ h => by rw [flags]; exact h)

/-! ### Requests (R190, R191) -/

/-- A chain of turns that leaves the request in hand in hand, without a reply ready. -/
def Owned (sure calm : Prop) (s t : State) : Prop :=
  Turns sure calm s t ∧ ∀ r, s.lp.hand = some r ∧ s.lp.reply = none → t.lp.hand = some r ∧ t.lp.reply = none

variable {s} in
theorem Acts.owned {t : State} (h : Acts sure s t) : Owned sure calm s t := by
  refine ⟨h.turns, fun r => h.keeps (P := fun t => t.lp.hand = some r ∧ t.lp.reply = none) fun s t act k => ?_⟩
  obtain ⟨hand, reply⟩ := k
  rcases act.lp with e | ⟨k, time, bs, e⟩
  · rw [e]; exact ⟨hand, reply⟩
  · rw [e]
    obtain ⟨kept, none⟩ := Lp.raise_hand reply k time bs
    exact ⟨kept.trans hand, none⟩

variable {s} in
theorem Owned.trans {t u : State} (h : Owned sure calm s t) (k : Owned sure calm t u) : Owned sure calm s u :=
  ⟨h.1.trans k.1, fun r e => k.2 r (h.2 r e)⟩

theorem link_owned (f : Lp → Lp) (orderly : calm → s.lp.Orderly → (f s.lp).Orderly)
    (flags : s.trk.reserveHeld = true → kindIn s.lp.flags .tableReserve = true →
      kindIn (f s.lp).flags .tableReserve = true)
    (hand : (f s.lp).hand = s.lp.hand ∧ (f s.lp).reply = s.lp.reply) : Owned sure calm s (s.onLp f) := by
  obtain ⟨hand, reply⟩ := hand
  refine ⟨.single (.link (f s.lp) orderly flags), fun r k => ?_⟩
  show (f s.lp).hand = some r ∧ (f s.lp).reply = none
  rwa [hand, reply]

/-- A request taken up changes the link alone. -/
theorem takeUp_turns {r : Req} {u : State} (h : takeUp r s = some u) :
    Turns sure calm s u ∧ (∃ x, u = { s with lp := x }) ∧
      (s.lp.Orderly → u.lp.hand = some r ∧ u.lp.reply = none) := by
  unfold takeUp at h
  split at h
  · next empty =>
    cases h
    refine ⟨link_turns s _ (fun _ o => ?_) rfl, ⟨_, rfl⟩, fun o => ⟨rfl, (o.2.2.2.1 empty).2⟩⟩
    obtain ⟨nodup, unmasked, attn, -, idle⟩ := o
    exact ⟨nodup, unmasked, attn, nofun, idle⟩
  · next hand =>
    split at h
    · next same =>
      cases h
      exact ⟨.refl, ⟨s.lp, rfl⟩, fun _ => ⟨hand.trans (congrArg some same.1), same.2⟩⟩
    · exact nomatch h

/-- A request that is taken up, served by its owner and answered. -/
theorem answered_turns {r : Req} {u : State} (calmly : calm → s.lp.Orderly) (up : takeUp r s = some u)
    (kind tag : Byte) {a : Answer} (h : Owned sure calm u a.state) : Turns sure calm s (giveReply kind tag a) := by
  obtain ⟨taken, -, handling⟩ := takeUp_turns (sure := sure) (calm := calm) s up
  obtain ⟨turns, kept⟩ := h
  refine (taken.trans turns).trans
    (link_turns _ (fun lp => Lp.beginNext { lp with reply := _ }) (fun c o => ?_) (beginNext_flags _))
  obtain ⟨hand, -⟩ := kept r (handling (calmly c))
  obtain ⟨nodup, unmasked, attn, -⟩ := o.ordered
  exact Lp.Ordered.beginNext ⟨nodup, unmasked, attn, fun none => nomatch hand.symm.trans none⟩

theorem whenPowered_turns {f : State → State} (h : Turns sure calm s (f s)) {t : State}
    (k : whenPowered s f = .next t) : Turns sure calm s t := by
  unfold whenPowered at k
  cases k
  split
  · exact h
  · exact .refl

/-- A catalogue request whose owner, whatever the link holds, makes turns that leave the request in hand. -/
theorem serve_turns {kind tag : Byte} {len : Nat} {owner : List Byte → State → Answer} {p : List Byte} {t : State}
    (k : serve kind len owner tag p s = .next t) (calmly : calm → s.lp.Orderly)
    (h : ∀ x : Lp, Owned sure calm { s with lp := x } (owner p { s with lp := x }).state) : Turns sure calm s t := by
  refine whenPowered_turns s ?_ k
  split
  · exact .refl
  · next u up =>
    refine answered_turns s calmly up kind tag ?_
    obtain ⟨-, ⟨x, rfl⟩, -⟩ := takeUp_turns (sure := sure) (calm := calm) s up
    split
    · exact h x
    · exact Acts.owned .refl

end Sys2Proof.Machine
end

section
/-! PROOFS. The requests on the store, the settings, the lanes and the supplies as chains of acts. -/

namespace Sys2Proof.Machine

variable {sure calm : Prop} (s : State)

/-! ### The store (R127, R164, R167, R168) -/

theorem touchSettings_acts : Acts sure s (touchSettings s) := storeMarks_acts s _ fun _ => ⟨rfl, rfl, rfl, rfl⟩

theorem getElem_putAt {α : Type} {n : Nat} (v : Vector α n) (i j : Fin n) (x : α) :
    (putAt v i x)[j.val] = if j = i then x else v[j.val] := by
  split
  · next e => subst e; simp
  · next e => exact getElem_putAt_ne v x e

theorem slotInUse_eq_false {i : Slot} (h : s.slotInUse i = false) (l : Lane) : s.pst.assign[l] ≠ some i := by
  unfold State.slotInUse at h
  simp only [Bool.or_eq_false_iff] at h
  have := List.any_eq_false.1 h.1 l (mem_lanes l)
  simpa using this

theorem writeSlot_acts {i : Slot} {x : Option Profile} (valid : ∀ p, x = some p → profileValid p = true)
    (free : s.slotInUse i = false) : Acts sure s (writeSlot i x s) := by
  unfold writeSlot
  refine .single (.pst _ (fun h => ?_) fun orderly => ?_)
  · dsimp only
    split <;> exact h
  · dsimp only
    split
    · exact orderly
    · obtain ⟨settings, slots, assign⟩ := orderly
      refine ⟨settings, fun j p h => ?_, fun l j h => ?_⟩
      · have h : (putAt s.pst.slots i x)[j.val] = some p := h
        rw [getElem_putAt] at h
        split at h
        · exact valid p h
        · exact slots j p h
      · show ((putAt s.pst.slots i x)[j.val]).isSome = true
        have other : j ≠ i := fun e => slotInUse_eq_false s free l (e ▸ h)
        rw [getElem_putAt, if_neg other]
        exact assign l j h

theorem putSlot_acts (i : Slot) (x : Option Profile) : Acts sure s (putSlot i x s).state := by
  unfold putSlot
  (repeat' split)
  · exact .refl
  · exact .refl
  · next invalid used =>
    refine writeSlot_acts s (fun p e => ?_) (by simpa using used)
    simpa [e] using invalid

theorem takeChallenge_acts (old new : Nat) : Acts sure s (takeChallenge old new s) := by
  unfold takeChallenge
  split
  · exact .refl
  · exact (onTie_acts s (fun t => { t with challengeCount := 0 }) id).trans (resetCounters_acts _)

theorem filter_head? {α : Type} {p : α → Bool} {q : List α} {x : α} (h : q.head? = some x) (hx : p x = true) :
    (q.filter p).head? = some x := by
  cases q with
  | nil => exact nomatch h
  | cons y q => cases h; rw [List.filter_cons_of_pos hx]; rfl

theorem dropHeadEntry_acts (l : Lane) : Acts sure s (dropHeadEntry l s) := by
  unfold dropHeadEntry
  dsimp only
  have stopped : ∀ t : State, t.crm.cycleTarget ≠ some (.head l) → Acts sure t (t.onCrm fun c =>
      { c with
        queue := c.queue.filter fun e => e.target != .head l
        state := if (c.queue.filter fun e => e.target != .head l).isEmpty ∧ c.running = false then .idle
          else c.state }) := by
    intro t other
    refine onCrm_acts t _ id fun orderly => ?_
    obtain ⟨nodup, idle, cycle, purge⟩ := orderly
    have front : t.crm.running = true → ∃ y, t.crm.cycle = some y ∧
        ((t.crm.queue.filter fun e => e.target != .head l).head?).map PurgeEntry.target = some y.target := by
      intro runs
      obtain ⟨y, hy, target⟩ := cycle runs
      obtain ⟨e, he, et⟩ := Option.map_eq_some_iff.1 target
      have away : e.target ≠ .head l := fun same => other ((cycleTarget_iff _ _).2 ⟨(running_iff _).1 runs, by simp [he, same]⟩)
      exact ⟨y, hy, by rw [filter_head? he (by simpa using away)]; exact congrArg some et⟩
    refine ⟨nodup.sublist (List.filter_sublist.map _), ?_, fun runs => ?_, fun p => ?_⟩
    · dsimp only
      split
      · next empty => simpa using empty.1
      · next stays =>
        constructor
        · intro e
          rw [idle.1 e]
          rfl
        · intro e
          have runs : t.crm.running = true := by simpa [e] using stays
          obtain ⟨y, -, target⟩ := front runs
          simp [e] at target
    · refine front ?_
      by_contra still
      have still : t.crm.running = false := by simpa using still
      have kept : ∀ st, (if (t.crm.queue.filter fun e => e.target != .head l).isEmpty ∧ t.crm.running = false then .idle
          else t.crm.state) = st → st ≠ .purging ∧ st ≠ .settle := by
        rintro _ rfl
        split
        · exact ⟨nofun, nofun⟩
        · constructor <;> (intro e; simp [Crm.running, e] at still)
      have moved := (running_iff _).1 runs
      rcases moved with e | e
      · exact (kept _ e).1 rfl
      · exact (kept _ e).2 rfl
    · have state := purge p
      have runs : t.crm.running = true := by simp [Crm.running, state]
      show (if _ then _ else t.crm.state) = _
      rw [if_neg (by simp [runs]), state]
  split
  · refine (abortCycle_acts s).trans (stopped _ fun target => ?_)
    have runs := (running_iff _).2 ((cycleTarget_iff _ _).1 target).1
    revert runs
    show (abortCycle s).crm.running = true → False
    unfold abortCycle
    rw [onCrm_crm]
    split
    · exact nofun
    · next halted => exact halted
  · next other => exact stopped s other

theorem clearLaneTarget_acts (l : Lane) : Acts sure s (onLane l (fun c => { c with target := false, trialFails := 0 }) s) :=
  onLane_acts s l _ fun _ => Nat.zero_le _

theorem reconfigure_acts (old new : Nat) (l : Lane) : Acts sure s (reconfigure old new l s) := by
  unfold reconfigure
  dsimp only
  (repeat' split)
  · refine Acts.trans ?_ (dropHeadEntry_acts _ l)
    refine Acts.trans ?_ (clearLaneTarget_acts _ l)
    exact ((setBlade_acts s _ l).trans (endTrial_acts _ l)).trans (setLaneState_acts _ _ l)
  · refine Acts.trans ?_ (clearLaneTarget_acts _ l)
    exact (endTrial_acts s l).trans (setLaneState_acts _ _ l)
  · exact .refl

theorem thresholdBags_acts (old : LineSettings) : Acts sure s (thresholdBags old s) := by
  unfold thresholdBags
  split
  · exact raise_acts s _ _
  · exact .refl

theorem thresholdClips_acts (old : LineSettings) : Acts sure s (thresholdClips old s) := by
  unfold thresholdClips
  split
  · exact raise_acts s _ _
  · exact .refl

theorem putSettings_acts {x : LineSettings} (valid : s.pst.Orderly → settingsValid x = true) :
    Acts sure s (s.onPst fun p => { p with settings := x }) :=
  .single (.pst { s.pst with settings := x } id fun orderly => ⟨valid orderly, orderly.2⟩)

theorem onSruInc_acts (w m : Nat) : Acts sure s (s.onSru fun r => { r with incW := w, incM := m }) :=
  onSru_acts s _ rfl id

theorem applySettings_acts {x : LineSettings} (valid : settingsValid x = true) : Acts sure s (applySettings x s) := by
  unfold applySettings
  dsimp only
  refine Acts.trans ?_ (evalAllTriggers_acts _)
  refine Acts.trans ?_ (thresholdClips_acts _ _)
  refine Acts.trans ?_ (thresholdBags_acts _ _)
  refine Acts.trans ?_ (takeChallenge_acts _ _ _)
  refine Acts.trans ?_ (forLanes_acts _ fun l t => reconfigure_acts t _ _ l)
  refine Acts.trans ?_ (onSruInc_acts _ _ _)
  split
  · exact putSettings_acts s fun _ => valid
  · refine (putSettings_acts s fun _ => valid).trans (Acts.trans ?_ (touchSettings_acts _))
    refine storeMarks_acts _ _ ?_
    exact fun _ => ⟨rfl, rfl, rfl, rfl⟩

theorem ownSetLine_acts (p : List Byte) : Acts sure s (ownSetLine p s).state := by
  unfold ownSetLine
  (repeat' split)
  · exact .refl
  · next x parsed agree =>
    dsimp only [Answer.okay]
    exact (applySettings_acts s (settingsValid_of_parse parsed agree)).trans (settle_acts _ _ _)
  · exact .refl
  · exact .refl

theorem ownStore_acts (p : List Byte) : Acts sure s (ownStore p s).state := by
  unfold ownStore
  split
  · dsimp only [Answer.okay]
    refine storeMarks_acts s _ ?_
    exact fun _ => ⟨rfl, rfl, rfl, rfl⟩
  · exact .refl

theorem ownSetChallenge_acts (p : List Byte) : Acts sure s (ownSetChallenge p s).state := by
  unfold ownSetChallenge
  dsimp only
  (repeat' split)
  · exact .refl
  · next ok _ =>
    show Acts sure s (touchSettings _)
    refine Acts.trans ?_ (touchSettings_acts _)
    refine Acts.trans ?_ (takeChallenge_acts _ _ _)
    exact putSettings_acts s fun orderly => settingsValid_challenge orderly.1 ok
  · exact .refl

theorem ownPutProfile_acts (p : List Byte) : Acts sure s (ownPutProfile p s).state := by
  unfold ownPutProfile
  split
  · exact putSlot_acts s _ _
  · exact .refl

/-! ### Lanes (R86, R167) -/

theorem addTarget_acts (l : Lane) : Acts sure s (addTarget l s) := by
  unfold addTarget
  dsimp only
  have joined : Acts sure s (onLane l (fun c => { c with target := true }) s) := onLane_acts s l _ id
  (repeat' split)
  · exact joined.trans (setLaneState_acts _ _ l)
  · exact joined.trans (spinUpUnlessParked_acts _ l)
  · exact joined

theorem removeTarget_acts (l : Lane) : Acts sure s (removeTarget l s) := by
  unfold removeTarget
  dsimp only
  have left : Acts sure s (onLane l (fun c => { c with target := false }) s) := onLane_acts s l _ id
  split
  · exact left
  · exact left.trans (stopBladeIf_acts _ _ l)
  · refine Acts.trans ?_ (setLaneState_acts _ _ l)
    exact (left.trans (stopBladeIf_acts _ _ l)).trans (endTrial_acts _ l)

theorem setTarget_acts (n : Nat) (l : Lane) : Acts sure s (setTarget n l s) := by
  unfold setTarget
  split
  · exact addTarget_acts s l
  · exact removeTarget_acts s l
  · exact .refl

theorem ownSetLanes_acts (p : List Byte) : Acts sure s (ownSetLanes p s).state := by
  unfold ownSetLanes
  dsimp only
  split
  · exact .refl
  · dsimp only [Answer.okay]
    exact (forLanes_acts s fun l t => setTarget_acts t _ l).trans (settle_acts _ _ _)

theorem assignSlot_acts {l : Lane} {i : Slot} (filled : (s.pst.slots[i]).isSome = true) :
    Acts sure s (assignSlot l i s) := by
  unfold assignSlot
  split
  · exact .refl
  · refine Acts.trans ?_ (onCrumb_acts _ l _ ?_)
    rotate_left
    · exact fun h => ⟨h.1, h.2.1, show 32 ≤ 64 by decide, show 64 ≤ 128 by decide⟩
    refine Acts.trans ?_ (touchSettings_acts _)
    refine .single (.pst { s.pst with assign := putAt s.pst.assign l (some i) } id fun orderly => ?_)
    obtain ⟨settings, slots, assign⟩ := orderly
    refine ⟨settings, slots, fun k j h => ?_⟩
    have h : (putAt s.pst.assign l (some i))[k.val] = some j := h
    rw [getElem_putAt] at h
    split at h
    · cases h; exact filled
    · exact assign k j h

theorem ownSetLaneProfile_acts (p : List Byte) : Acts sure s (ownSetLaneProfile p s).state := by
  unfold ownSetLaneProfile
  (repeat' split)
  · next ok =>
    have filled := (Bool.and_eq_true_iff.1 ok).2
    dsimp only [Answer.okay]
    exact (assignSlot_acts s filled).trans (settle_acts _ _ _)
  · exact .refl
  · exact .refl

theorem ownClearLane_acts (p : List Byte) : Acts sure s (ownClearLane p s).state := by
  unfold ownClearLane
  (repeat' split)
  · next l _ _ _ =>
    have fails : Acts sure s (onLane l (fun c => { c with trialFails := 0 }) s) := onLane_acts s l _ fun _ => Nat.zero_le _
    dsimp only [Answer.okay]
    exact (fails.trans (setLaneState_acts _ _ l)).trans (settle_acts _ _ _)
  · exact .refl
  · exact .refl
  · exact .refl

/-! ### The line and the table (R15, R50, R51, R176 to R182) -/

theorem answerLine_acts {t : State} (h : Acts sure s t) (before : State) : Acts sure s (answerLine before t).state := by
  dsimp only [answerLine, Answer.okay]
  exact h.trans (settle_acts _ _ _)

theorem startRefusal_line (h : s.startRefusal = none) : s.lc.state = .ready ∨ s.lc.state = .halted := by
  unfold State.startRefusal at h
  split at h
  · exact nomatch h
  · next still => revert still; cases s.lc.state <;> simp [LineState.moving]

theorem ownStart_acts (p : List Byte) : Acts sure s (ownStart p s).state := by
  unfold ownStart
  split
  · exact .refl
  · next ok => exact answerLine_acts s (enterStarting_acts s (startRefusal_line s ok)) s

theorem ownStop_acts (p : List Byte) : Acts sure s (ownStop p s).state := by
  unfold ownStop
  (repeat' split)
  · next empty => exact answerLine_acts s (enterReady_acts s _ (.inr empty)) s
  · exact .refl
  · exact answerLine_acts s (requestDrain_acts s _) s

theorem ownHalt_acts (p : List Byte) : Acts sure s (ownHalt p s).state := answerLine_acts s (haltLine_acts s _) s

theorem ownClearTrack_acts (h : sure → s.LoavesDiffer) (p : List Byte) : Acts sure s (ownClearTrack p s).state := by
  unfold ownClearTrack
  split
  · dsimp only [Answer.okay]
    exact (clearTable_acts s h).trans (settle_acts _ _ _)
  · exact .refl

theorem ownSetSpeed_acts (p : List Byte) : Acts sure s (ownSetSpeed p s).state := by
  dsimp only [ownSetSpeed]
  refine Acts.trans ?_ (settle_acts _ _ _)
  exact onLc_acts s (fun lc => { lc with setSpeed := min (leNat p) lc.ceiling }) .inl

theorem ownSetReference_acts (p : List Byte) : Acts sure s (ownSetReference p s).state := by
  unfold ownSetReference
  split
  · next x _ =>
    have put : Acts sure s (s.onSru fun r => { r with settings := x }) := onSru_acts s _ rfl id
    dsimp only [Answer.okay]
    exact (put.trans (evaluateSelection_acts _ _)).trans (settle_acts _ _ _)
  · exact .refl

theorem ownRejectLoaf_acts (p : List Byte) : Acts sure s (ownRejectLoaf p s).state := by
  unfold ownRejectLoaf
  split
  · exact addReason_acts s _ .operator _ fun r => ⟨.refl _, by simp [addReason_eq]⟩
  · exact .refl

/-! ### Supplies, the code check and the crumb unit (R107, R114, R128, R134) -/

theorem ownLoadBags_acts (p : List Byte) : Acts sure s (ownLoadBags p s).state := by
  unfold ownLoadBags
  dsimp only
  refine Acts.trans ?_ (settle_acts _ _ _)
  refine Acts.trans ?_ (raiseBagsLow_acts _ _)
  exact onBag_acts s _ fun _ => min_le_left _ _

theorem loadClips_acts {n : Nat} (h : n ≤ Config.clipMax) : Acts sure s (loadClips n s) :=
  onTie_acts s _ fun range => ⟨h, range.2⟩

theorem ownLoadClips_acts (p : List Byte) : Acts sure s (ownLoadClips p s).state := by
  unfold ownLoadClips
  dsimp only
  refine Acts.trans ?_ (settle_acts _ _ _)
  refine Acts.trans ?_ (raiseClipsLow_acts _ _)
  exact loadClips_acts s (min_le_left _ _)

theorem ownPurge_acts (p : List Byte) : Acts sure s (ownPurge p s).state := by
  unfold ownPurge
  (repeat' split)
  · dsimp only [Answer.okay]
    exact (softRequest_acts s _).trans (settle_acts _ _ _)
  · exact .refl
  · exact .refl

theorem ownSetClock_acts (p : List Byte) : Acts sure s (ownSetClock p s).state := by
  unfold ownSetClock
  dsimp only
  split
  · exact .refl
  · next inRange =>
    exact .single (.pst { s.pst with clock := leNat p, clockValid := true } (fun _ => Nat.le_of_not_lt inRange) id)

end Sys2Proof.Machine
end

section
/-! PROOFS. The shifts, the link's own requests and events, the warm restart, and every command as a chain of turns. -/

namespace Sys2Proof.Machine

variable {sure calm : Prop} (s : State)

/-! ### Opening and closing shifts (R149 to R153) -/

theorem nextSeqAfter_ne (n : Nat) : nextSeqAfter n ≠ n := by
  unfold nextSeqAfter
  split <;> omega

/-- With no shift OPEN, a fresh one takes a sequence that no record is tagged with. -/
theorem accountsHold_openShift {s : State} (h : AccountsHold s) (shut : s.tot.opened = none) (digit : Nat) :
    AccountsHold (openShift digit s) := by
  obtain ⟨differ, tagged, -, closing, closed, next, -⟩ := h
  have untagged : ∀ r ∈ s.records, r.tag ≠ s.nextShiftSeq := by
    intro r hr e
    obtain ⟨sh, place, seq⟩ := tagged r hr
    have place : s.tot.closing = some sh := by simpa [shut] using place
    rw [next sh place shut] at e
    exact nextSeqAfter_ne _ (e.symm.trans seq.symm)
  have none : (s.records.filter fun r => r.tag == s.nextShiftSeq) = [] :=
    List.filter_eq_nil_iff.2 fun r hr => by simpa using untagged r hr
  refine ⟨differ, fun r hr => ?_, fun sh e => ?_, closing, closed, nofun, fun a b ha hb => ?_⟩
  · obtain ⟨sh, place, seq⟩ := tagged r hr
    have place : s.tot.closing = some sh := by simpa [shut] using place
    exact ⟨sh, .inr place, seq⟩
  · have e : some (Shift.fresh s.nextShiftSeq digit s.pst.clock) = some sh := e
    cases e
    refine ⟨⟨?_, fun l _ => ?_⟩, rfl⟩
    · exact (congrArg List.length none).symm
    · have lane : (s.records.filter fun r => r.tag == s.nextShiftSeq && r.lane == l) = [] :=
        List.filter_eq_nil_iff.2 fun r hr => by simp [untagged r hr]
      have admitted : (Vector.replicate 4 Counts.zero)[l].admitted = 0 := by simp [Counts.zero]
      have ended : (Vector.replicate 4 Counts.zero)[l].ended = 0 := by simp [Counts.zero, Counts.ended]
      have length : (s.records.filter fun r => r.tag == s.nextShiftSeq && r.lane == l).length = 0 := by rw [lane]; rfl
      exact admitted.trans (congrArg₂ (· + ·) length ended).symm
  · have hb : some (Shift.fresh s.nextShiftSeq digit s.pst.clock) = some b := hb
    cases hb
    exact next a ha shut

/-- The OPEN shift takes the empty CLOSING place, and is CLOSED there when none of its records is left. -/
theorem accountsHold_startClosing {s : State} (h : AccountsHold s) {sh : Shift} (opened : s.tot.opened = some sh)
    (free : s.tot.closing = none) : AccountsHold ((startClosing sh s).onTot Tot.settle) := by
  obtain ⟨differ, tagged, balance, -, closed, -, -⟩ := h
  obtain ⟨⟨count, each⟩, next⟩ := balance sh opened
  have tagged : ∀ r ∈ s.records, sh.seq = r.tag := by
    intro r hr
    obtain ⟨x, place, seq⟩ := tagged r hr
    have : x = sh := by simpa [opened, free, eq_comm] using place
    rwa [← this]
  unfold startClosing State.onTot Tot.settle
  dsimp only
  split
  · next empty =>
    have none : s.records = [] := by
      have all : (s.records.filter fun r => r.tag == sh.seq) = s.records :=
        List.filter_eq_self.2 fun r hr => by simp [tagged r hr]
      rw [all, empty] at count
      exact List.length_eq_zero_iff.1 count.symm
    refine ⟨differ, fun r hr => ?_, nofun, nofun, fun x e => ?_, nofun, nofun⟩
    · have hr : r ∈ s.records := hr
      rw [none] at hr
      exact nomatch hr
    · cases e
      refine ⟨empty, fun l few => ?_⟩
      have := each l few
      rw [none] at this
      simpa using this
  · next some =>
    refine ⟨differ, fun r hr => ⟨_, .inr rfl, tagged r hr⟩, nofun, fun x e => ?_, closed, fun a e _ => ?_, nofun⟩
    · cases e
      exact ⟨⟨count, each⟩, some⟩
    · cases e
      exact next

/-- The move of the OPEN shift, with the next one opened in the same event where the close is ROLLING. -/
theorem accountsHold_closing {s : State} (h : AccountsHold s) {sh : Shift} (opened : s.tot.opened = some sh)
    (free : s.tot.closing = none) (rolling : Bool) (digit : Nat) :
    AccountsHold ((if rolling then openShift digit (startClosing sh s) else startClosing sh s).onTot Tot.settle) := by
  have closed := accountsHold_startClosing h opened free
  cases rolling with
  | false => exact closed
  | true =>
    have shut : ((startClosing sh s).onTot Tot.settle).tot.opened = none := by
      unfold startClosing State.onTot Tot.settle
      dsimp only
      split <;> rfl
    have commute : (openShift digit (startClosing sh s)).onTot Tot.settle =
        openShift digit ((startClosing sh s).onTot Tot.settle) := by
      unfold openShift startClosing State.onTot State.onNv Tot.settle State.nextShiftSeq
      dsimp only
      split <;> rfl
    rw [if_pos rfl, commute]
    exact accountsHold_openShift closed shut digit

theorem openShift_acts (shut : s.tot.opened = none) (digit : Nat) : Acts sure s (openShift digit s) :=
  .single (.shifts _ _ fun h => accountsHold_openShift h shut digit)

theorem ownOpenShift_acts (p : List Byte) : Acts sure s (ownOpenShift p s).state := by
  unfold ownOpenShift
  dsimp only
  (repeat' split)
  · exact .refl
  · exact .refl
  · exact .refl
  · next shut _ =>
    dsimp only [Answer.okay]
    exact (openShift_acts s (by simpa using shut) _).trans (settle_acts _ _ _)

theorem drainForClose_acts : Acts sure s (drainForClose s) := by
  unfold drainForClose
  split
  · exact requestDrain_acts _ _
  · exact .refl

theorem closeShift_acts {sh : Shift} (opened : s.tot.opened = some sh) (free : s.tot.closing = none) (rolling : Bool)
    (digit : Nat) : Acts sure s (closeShift rolling digit sh s) := by
  have moved : Acts sure s
      ((if rolling then openShift digit (startClosing sh s) else startClosing sh s).onTot Tot.settle) := by
    have accounts := fun h => accountsHold_closing (s := s) h opened free rolling digit
    cases rolling with
    | true => exact .single (.shifts _ _ accounts)
    | false => exact .single (.shifts _ s.nv accounts)
  unfold closeShift settleShift
  dsimp only
  have closed := moved.trans (raiseIfClosed_acts _
    (if rolling then openShift digit (startClosing sh s) else startClosing sh s).tot)
  cases rolling with
  | true => exact closed
  | false => exact closed.trans (drainForClose_acts _)

theorem ownCloseShift_acts (p : List Byte) : Acts sure s (ownCloseShift p s).state := by
  unfold ownCloseShift
  dsimp only
  split
  · next sh ok opened =>
    dsimp only [Answer.okay]
    have free : s.tot.closing = none := by
      unfold State.closeRefusal at ok
      (repeat' split at ok) <;> simp_all
    exact (closeShift_acts s opened free _ _).trans (settle_acts _ _ _)
  · exact .refl
  · exact .refl

/-! ### The link's own requests (R196, R197) -/

theorem setMask_orderly {x : Lp} (h : x.Orderly) (mask : BitVec 24) : (x.setMask mask).Orderly := by
  obtain ⟨nodup, -, -, hand, idle⟩ := h
  refine ⟨nodup.sublist (List.filter_sublist.map _), fun n hn => ?_, rfl, hand, fun still => ⟨(idle still).1, ?_⟩⟩
  · have stays := (List.mem_filter.1 hn).2
    have stays : kindIn mask n.kind = false := by simpa using stays
    exact stays
  · show x.queue.filter _ = []
    rw [(idle still).2]
    rfl

theorem ownSetNoticeMask_owned (p : List Byte) : Owned sure calm s (ownSetNoticeMask p s).state :=
  link_owned s (·.setMask (kindSet p)) (fun _ o => setMask_orderly o _) (fun _ => id) ⟨rfl, rfl⟩

theorem kindIn_join (ks : List Kind) (x : BitVec 24) (j : Kind) :
    kindIn (ks.foldl (fun x k => x ||| k.bit) x) j = (kindIn x j || decide (j ∈ ks)) := by
  induction ks generalizing x with
  | nil => simp
  | cons k ks ih => simp [ih, kindIn_or, kindIn_bit, Bool.or_assoc]

theorem mem_kinds (k : Kind) : k ∈ kinds := by cases k <;> decide

theorem kindIn_refusedKinds (named : BitVec 24) (k : Kind) :
    kindIn (s.refusedKinds named) k = (kindIn named k && s.clearRefused k) := by
  unfold State.refusedKinds
  rw [kindIn_join]
  simp [mem_kinds, kindIn]

/-- The flags after a CLEAR: a named kind keeps its flag only where it is refused (R197). -/
theorem kindIn_cleared (flags named refused : BitVec 24) (k : Kind) :
    kindIn (flags &&& ~~~(named &&& ~~~refused)) k = (kindIn flags k && (!kindIn named k || kindIn refused k)) := by
  have inside : k.code - 1 < 24 := by cases k <;> decide
  simp [kindIn, inside, Bool.not_and]

theorem baggerCleared_acts : Acts sure s (baggerCleared s) := by
  unfold baggerCleared
  split
  · exact onBag_acts s _ id
  · exact .refl

theorem clearActs_acts (named : BitVec 24) : Acts sure s (clearActs named s) := by
  unfold clearActs
  dsimp only
  have first : Acts sure s (if kindIn named .baggerDown then baggerCleared s else s) := by
    split
    · exact baggerCleared_acts s
    · exact .refl
  split
  · refine first.trans (onTie_acts _ _ ?_)
    exact id
  · exact first

theorem clearActs_keeps (named : BitVec 24) :
    (clearActs named s).without { bag := true, tie := true } = s.without { bag := true, tie := true } := by
  unfold clearActs baggerCleared
  dsimp only
  (repeat' split) <;> rfl

theorem ownClear_owned (p : List Byte) : Owned sure calm s (ownClear p s).state := by
  unfold ownClear
  dsimp only [Answer.okay]
  refine Owned.trans ?_ (settle_acts _ _ _).owned
  refine (clearActs_acts s _).owned.trans (link_owned _ _ (fun _ o => o) (fun held flag => ?_) ⟨rfl, rfl⟩)
  rw [kindIn_cleared, flag, kindIn_refusedKinds]
  have held : s.trk.reserveHeld = true := by rwa [kept_trk (clearActs_keeps s _) rfl] at held
  cases kindIn (kindSet p) .tableReserve <;> simp [State.clearRefused, held]

/-! ### The warm restart (R185) -/

theorem raiseWhile_acts (cause : Bool) (k : Kind) (x : List Byte) : Acts sure s (raiseWhile cause k x s) := by
  unfold raiseWhile
  split
  · exact raise_acts s _ _
  · exact .refl

theorem restartRaisings_acts (before : State) : Acts sure s (restartRaisings before s) := by
  unfold restartRaisings raisePersisting
  dsimp only
  refine Acts.trans ?_ (raiseIfClosed_acts _ _)
  refine Acts.trans ?_ (raiseWhile_acts _ _ _ _)
  refine Acts.trans ?_ (raiseWhile_acts _ _ _ _)
  refine Acts.trans ?_ (raiseWhile_acts _ _ _ _)
  refine Acts.trans ?_ (raiseWhile_acts _ _ _ _)
  refine Acts.trans ?_ (raiseWhile_acts _ _ _ _)
  exact raise_acts s _ _

theorem sruRestart_acts (n : Nat) : Acts sure s (s.onSru (·.restart n)) :=
  onSru_acts s _ rfl fun _ => ⟨⟨Nat.zero_le _, Nat.zero_le _⟩, Nat.zero_le _, Nat.zero_le _⟩

theorem lcRestart_acts (n : Nat) (empty : s.tableCount = 0) : Acts sure s (s.onLc (·.restart n)) :=
  onLc_acts s _ fun _ => .inr empty

theorem hdRestart_acts : Acts sure s (s.onHd Hd.restart) := by
  refine .single (.hd _ fun h l => ?_)
  obtain ⟨-, fails⟩ := h l
  refine ⟨?_, ?_⟩
  · simp [Hd.restart, Head.powerOn, Monitor.fresh]
  · simpa [Hd.restart, LaneCtl.restart] using fails

theorem crmRestart_acts : Acts sure s (s.onCrm Crm.restart) := by
  refine onCrm_acts s _ id fun orderly => ⟨orderly.1, ?_, ?_, nofun⟩
  · cases q : s.crm.queue <;> simp [Crm.restart, q]
  · cases q : s.crm.queue <;> simp [Crm.restart, q, Crm.running]

theorem restartLp_owned : Owned sure calm (s.onTrk Trk.restart)
    ((s.onTrk Trk.restart).onLp fun lp => Lp.withAttn { lp with flags := 0, queue := [] }) := by
  refine link_owned _ _ (fun _ o => ?_) nofun ⟨rfl, rfl⟩
  obtain ⟨-, -, -, hand, idle⟩ := o
  exact ⟨List.nodup_nil, nofun, rfl, hand, fun still => ⟨(idle still).1, rfl⟩⟩

/-- What the blocks take at a restart, once the table is empty. -/
theorem restartEach_owned (windowMs lineMax reindexMs : Nat) (empty : s.tableCount = 0) : Owned sure calm s { s with
    lp := Lp.withAttn { s.lp with flags := 0, queue := [] }
    sru := s.sru.restart windowMs
    lc := s.lc.restart lineMax
    trk := s.trk.restart
    hd := s.hd.restart
    arb := s.arb.restart
    bag := s.bag.restart
    tie := s.tie.restart reindexMs
    crm := s.crm.restart } := by
  refine Owned.trans (Acts.owned (.single (.trk s.trk.restart rfl rfl nofun))) ?_
  refine (restartLp_owned s).trans ?_
  refine Owned.trans (sruRestart_acts _ windowMs).owned ?_
  refine Owned.trans (lcRestart_acts _ lineMax ?_).owned ?_
  · exact empty
  refine Owned.trans (hdRestart_acts _).owned ?_
  refine Owned.trans (onArb_acts _ Arb.restart fun _ l => by simp [Arb.restart]).owned ?_
  refine Owned.trans (onBag_acts _ Bag.restart id).owned ?_
  refine Owned.trans (onTie_acts _ (·.restart reindexMs) id).owned ?_
  exact (crmRestart_acts _).owned

theorem restartBlocks_owned (h : sure → s.LoavesDiffer) : Owned sure calm s (restartBlocks s) :=
  (clearQuiet_acts s h).owned.trans
    (restartEach_owned _ s.set.windowMs s.set.lineMax s.set.reindexMs (congrArg List.length (clearQuiet_records s)))

/-! ### The link's own events (R188 to R192) -/

theorem onLink_turns (f : LinkCounters → LinkCounters) : Turns sure calm s (onLink f s) :=
  link_turns s _ (fun _ o => o) rfl

theorem setReceiver_turns (x : Receiver) : Turns sure calm s (setReceiver x s) := link_turns s _ (fun _ o => o) rfl

theorem placeRequest_turns (r : Req) : Turns sure calm s (placeRequest r s) := by
  unfold placeRequest
  split
  · refine link_turns s _ (fun _ o => ?_) rfl
    obtain ⟨nodup, unmasked, attn, -, idle⟩ := o
    exact ⟨nodup, unmasked, attn, nofun, idle⟩
  · exact onLink_turns s _
  · exact onLink_turns s _
  · next h _ hand _ =>
    refine link_turns s _ (fun _ o => ?_) rfl
    obtain ⟨nodup, unmasked, attn, -, idle⟩ := o
    refine ⟨nodup, unmasked, attn, fun e => ?_, idle⟩
    have e : s.lp.hand = none := e
    exact nomatch hand.symm.trans e

theorem takeFrame_turns (r : Req) : Turns sure calm s (takeFrame r s) := by
  unfold takeFrame
  dsimp only
  refine Turns.trans ?_ (placeRequest_turns _ _)
  split
  · refine (onLink_turns s _).trans (Acts.turns (onLc_acts _ _ ?_))
    exact .inl
  · exact onLink_turns s _

theorem endFrame_turns (n : Nat) (bs : List Byte) : Turns sure calm s (endFrame n bs s) := by
  unfold endFrame
  dsimp only
  split
  · exact takeFrame_turns s _
  · exact onLink_turns s _

theorem receiveByte_turns (b : Byte) : Turns sure calm s (receiveByte b s) := by
  unfold receiveByte
  dsimp only
  (repeat' split)
  · exact setReceiver_turns s _
  · exact .refl
  · exact setReceiver_turns s _
  · exact (onLink_turns s _).trans (setReceiver_turns _ _)
  · exact (setReceiver_turns s _).trans (endFrame_turns _ _ _)
  · exact setReceiver_turns s _

theorem receiveBytes_turns (bs : List Byte) : Turns sure calm s (receiveBytes bs s) := by
  induction bs generalizing s with
  | nil => exact .refl
  | cons b bs ih => exact (receiveByte_turns s b).trans (ih _)

theorem truncate_turns : Turns sure calm s (truncate s) := by
  unfold truncate
  split
  · exact .refl
  · exact (onLink_turns s _).trans (setReceiver_turns _ _)

theorem takeRate_turns (rate : Option LinkRate) : Turns sure calm s (takeRate rate s) := by
  unfold takeRate
  split
  · refine Turns.trans (link_turns s _ ?_ ?_) (truncate_turns _)
    · exact fun _ o => o
    · rfl
  · exact .refl

theorem txIdle_turns : Turns sure calm s (txIdle s) :=
  link_turns s (fun lp => Lp.beginNext { lp with tx := .idle }) (fun _ o => Lp.Ordered.beginNext (x := { s.lp with tx := .idle }) o.ordered)
    (beginNext_flags _)

/-! ### Admissions (R35, R36) -/

/-- What the state an event acts on can be: the state itself, or after the admission of one loaf at an open gate. -/
def Begins (s u : State) : Prop :=
  u = s ∨ ∃ l sh, s.tot.opened = some sh ∧ s.gateOpen l = true ∧ 0 < s.free ∧ u = admitLoaf l sh.seq s

theorem untracked_acts (l : Lane) : Acts sure s (untracked l s) := (raise_acts s _ _).trans (laneFault_acts _ _ _ l)

theorem leadingEdge_begins {l : Lane} {t : State} (h : execInfeedLeadingEdge l s = .next t) :
    ∃ u, Begins s u ∧ Turns sure calm u t := by
  unfold execInfeedLeadingEdge whenPowered at h
  cases h
  dsimp only
  split
  case isFalse => exact ⟨s, .inl rfl, .refl⟩
  split
  case isFalse => exact ⟨s, .inl rfl, .refl⟩
  split
  · next sh opened =>
    split
    · next gate => exact ⟨_, .inr ⟨l, sh, opened, gate.1, gate.2, rfl⟩, (settle_acts _ _ _).turns⟩
    · exact ⟨s, .inl rfl, ((untracked_acts s l).trans (settle_acts _ _ _)).turns⟩
  · exact ⟨s, .inl rfl, ((untracked_acts s l).trans (settle_acts _ _ _)).turns⟩

end Sys2Proof.Machine
end

section
/-! PROOFS. Every command but the coming and the loss of power is a chain of turns. -/

namespace Sys2Proof.Machine

variable {sure calm : Prop} (s : State)

/-! ### The requests that read (R52, R128, R146, R158, R165, R169, R173, R189, R198) -/

@[simp] theorem ownIdentify_state (p : List Byte) : (ownIdentify p s).state = s := rfl

@[simp] theorem ownReadStatus_state (p : List Byte) : (ownReadStatus p s).state = s := by
  unfold ownReadStatus; split <;> rfl

@[simp] theorem ownSetLink_state (p : List Byte) : (ownSetLink p s).state = s := by
  unfold ownSetLink; split <;> rfl

@[simp] theorem ownReadClock_state (p : List Byte) : (ownReadClock p s).state = s := rfl

@[simp] theorem ownGetProfile_state (p : List Byte) : (ownGetProfile p s).state = s := by
  unfold ownGetProfile; split <;> rfl

@[simp] theorem ownGetLine_state (p : List Byte) : (ownGetLine p s).state = s := rfl

@[simp] theorem ownReadCodecheck_state (p : List Byte) : (ownReadCodecheck p s).state = s := rfl

@[simp] theorem ownReadCrumb_state (p : List Byte) : (ownReadCrumb p s).state = s := rfl

@[simp] theorem ownReadTotals_state (p : List Byte) : (ownReadTotals p s).state = s := by
  unfold ownReadTotals
  dsimp only
  split
  · rfl
  · split <;> rfl

@[simp] theorem ownReadTrack_state (p : List Byte) : (ownReadTrack p s).state = s := by
  unfold ownReadTrack
  (repeat' split) <;> rfl

theorem owned_of_eq {t : State} (h : t = s) : Owned sure calm s t := h ▸ Acts.owned .refl

/-! ### Outcomes -/

/-- A command ends in a next state, by a chain of turns. -/
def Reaches (sure calm : Prop) (s : State) (o : Host.Outcome State Fault Refusal) : Prop :=
  ∃ t, o = .next t ∧ Turns sure calm s t

theorem whenPowered_reaches {f : State → State} (h : Turns sure calm s (f s)) :
    Reaches sure calm s (whenPowered s f) := ⟨_, rfl, whenPowered_turns s h rfl⟩

theorem event_reaches {f : State → State} (h : Acts sure s (f s)) : Reaches sure calm s (whenPowered s f) :=
  whenPowered_reaches s h.turns

/-- An event that acts, and is settled, where a condition holds, and does nothing elsewhere. -/
theorem settled_if_acts {c : Prop} [Decidable c] {u : State} (h : c → Acts sure s u) (before : State) (p : Nat) :
    Acts sure s (if c then settle before p u else s) := by
  split
  · next holds => exact (h holds).trans (settle_acts _ _ _)
  · exact .refl

theorem serve_reaches {kind tag : Byte} {len : Nat} {owner : List Byte → State → Answer} {p : List Byte}
    (calmly : calm → s.lp.Orderly)
    (h : ∀ x : Lp, Owned sure calm { s with lp := x } (owner p { s with lp := x }).state) :
    Reaches sure calm s (serve kind len owner tag p s) := ⟨_, rfl, serve_turns s rfl calmly h⟩

/-! ### The events -/

theorem lineEncoderPulse_reaches (src : LineSource) : Reaches sure calm s (execLineEncoderPulse src s) := by
  refine event_reaches s ?_
  split
  · exact (countPulse_acts s src).trans (advance_acts _ _)
  · exact countPulse_acts s src

theorem pacerAdvance_reaches (ms : Nat) : Reaches sure calm s (execPacerAdvance ms s) := by
  refine event_reaches s ?_
  dsimp only
  split
  · exact (pacerCarry_acts s _).trans (advance_acts _ _)
  · exact .refl

theorem bladeEncoderPulse_reaches (l : Lane) : Reaches sure calm s (execBladeEncoderPulse l s) := by
  refine event_reaches s ?_
  split
  · exact bladePulse_acts s l
  · exact .refl

theorem windowEnd_reaches : Reaches sure calm s (execWindowEnd s) := by
  refine event_reaches s ?_
  dsimp only
  exact (windowEffect_acts s).trans (settle_acts _ _ _)

theorem infeedTrailingEdge_reaches (l : Lane) : Reaches sure calm s (execInfeedTrailingEdge l s) := by
  refine event_reaches s ?_
  dsimp only
  split
  · split
    · next r found =>
      have held := mem_records_of_queue s (List.mem_of_find?_eq_some found)
      have state : r.state = .measuring := by simpa using List.find?_some found
      refine Acts.trans ?_ (settle_acts _ _ _)
      exact measure_acts s (.intro held (state ▸ nofun)) (fun r => some (measured s.pos r.lead))
        (fun r => s.profile r.slot) _ _
    · exact .refl
  · exact .refl

theorem pocketArrival_reaches (l : Lane) : Reaches sure calm s (execPocketArrival l s) := by
  refine event_reaches s ?_
  dsimp only
  refine settled_if_acts s (fun _ => ?_) s _
  split
  · exact pocket_acts s _ _
  · exact (phantom_acts s _).trans (laneFault_acts _ _ _ _)

theorem mergeReleaseEdge_reaches : Reaches sure calm s (execMergeReleaseEdge s) := by
  refine event_reaches s ?_
  dsimp only
  refine Acts.trans ?_ (settle_acts _ _ _)
  (repeat' split)
  · exact confirmGrant_acts s _ _
  · exact phantom_acts s _
  · exact phantom_acts s _
  · exact phantom_acts s _

theorem exitArrival_reaches : Reaches sure calm s (execExitArrival s) := by
  refine event_reaches s ?_
  dsimp only
  refine Acts.trans ?_ (settle_acts _ _ _)
  (repeat' split)
  · next r h _ => exact (retire_acts s (held_as s (oldestIn_mem h) (.refl r))).trans (raiseEscape_acts _ _)
  · next r h _ => exact retire_acts s (held_as s (oldestIn_mem h) (.refl r))
  · next r h => exact divertFail_acts s (oldestIn_mem h)
  · exact phantom_acts s _

theorem chuteArrival_reaches : Reaches sure calm s (execChuteArrival s) := by
  refine event_reaches s ?_
  dsimp only
  refine Acts.trans ?_ (settle_acts _ _ _)
  split
  · next r h => exact retire_acts s (held_as s (oldestIn_mem h) (.refl r))
  · exact phantom_acts s _

theorem bagOpenSignal_reaches : Reaches sure calm s (execBagOpenSignal s) := by
  refine event_reaches s ?_
  exact (bagConfirmed_acts s).trans (settle_acts _ _ _)

theorem estopAsserted_reaches : Reaches sure calm s (execEstopAsserted s) := by
  refine event_reaches s ?_
  dsimp only
  exact ((estop_acts s).trans (haltLine_acts _ _)).trans (settle_acts _ _ _)

theorem estopReleased_reaches : Reaches sure calm s (execEstopReleased s) := event_reaches s (estopReleased_acts s)

theorem codeReaderAnswer_reaches (bytes : List Byte) : Reaches sure calm s (execCodeReaderAnswer bytes s) := by
  refine event_reaches s ?_
  dsimp only
  (repeat' split)
  · exact strayAnswer_acts s
  · exact strayAnswer_acts s
  · exact (resolveRead_acts s _ _).trans (settle_acts _ _ _)

theorem weighAnswer_reaches (tray : Target) (load : Nat) : Reaches sure calm s (execWeighAnswer tray load s) :=
  event_reaches s (settled_if_acts s (fun _ => takeReading_acts s _) s _)

theorem frameReceived_reaches (bytes : List Byte) : Reaches sure calm s (execFrameReceived bytes s) :=
  whenPowered_reaches s (receiveBytes_turns s bytes)

theorem interbyteTimeout_reaches : Reaches sure calm s (execInterbyteTimeout s) :=
  whenPowered_reaches s (truncate_turns s)

theorem frameSent_reaches : Reaches sure calm s (execFrameSent s) := by
  refine whenPowered_reaches s ?_
  split
  · exact .refl
  · exact (takeRate_turns s _).trans (txIdle_turns _)
  · exact (onLink_turns s _).trans (txIdle_turns _)

theorem clockTick_reaches : Reaches sure calm s (execClockTick s) := event_reaches s (clockTick_acts s)

theorem demandRamp_reaches (ms : Nat) : Reaches sure calm s (execDemandRamp ms s) := by
  refine event_reaches s ?_
  dsimp only
  exact (demand_acts s _ _).trans (settle_acts _ _ _)

theorem holdoverTimerExpiry_reaches : Reaches sure calm s (execHoldoverTimerExpiry s) :=
  event_reaches s (settled_if_acts s (fun _ => enterCrawl_acts s) s _)

theorem spinupTimerExpiry_reaches (l : Lane) : Reaches sure calm s (execSpinupTimerExpiry l s) :=
  event_reaches s (settled_if_acts s (fun _ => spinupExpiry_acts s l _) s _)

theorem retrialTimerExpiry_reaches (l : Lane) : Reaches sure calm s (execRetrialTimerExpiry l s) :=
  event_reaches s (settled_if_acts s (fun _ => enterTrial_acts s l) s _)

theorem bagConfirmTimerExpiry_reaches : Reaches sure calm s (execBagConfirmTimerExpiry s) :=
  event_reaches s (settled_if_acts s (fun _ => bagMissed_acts s) s _)

theorem endChangeover_acts (c : Nat) : Acts sure s (s.onArb fun a => { a with bagClass := c, changeover := .none }) :=
  onArb_acts s _ id

theorem changeoverTimerExpiry_reaches : Reaches sure calm s (execChangeoverTimerExpiry s) := by
  refine event_reaches s ?_
  split
  · exact (endChangeover_acts s _).trans (settle_acts _ _ _)
  · exact .refl

theorem endReindex_acts : Acts sure s (endReindex s) := onTie_acts s _ id

theorem reindexTimerExpiry_reaches : Reaches sure calm s (execReindexTimerExpiry s) :=
  event_reaches s (settled_if_acts s (fun _ => endReindex_acts s) s _)

theorem purgeTimerExpiry_reaches : Reaches sure calm s (execPurgeTimerExpiry s) := by
  refine event_reaches s ?_
  split
  · next runs => exact purgeExpiry_acts s runs
  · exact .refl

theorem settleTimerExpiry_reaches : Reaches sure calm s (execSettleTimerExpiry s) := by
  refine event_reaches s ?_
  split
  · exact settleExpiry_acts s
  · exact .refl

theorem weighTimerExpiry_reaches : Reaches sure calm s (execWeighTimerExpiry s) :=
  event_reaches s (settled_if_acts s (fun _ => takeReading_acts s none) s _)

theorem startLimitExpiry_reaches : Reaches sure calm s (execStartLimitExpiry s) :=
  event_reaches s (settled_if_acts s (fun runs => startFail_acts s runs.2) s _)

theorem silenceTimerExpiry_reaches : Reaches sure calm s (execSilenceTimerExpiry s) :=
  event_reaches s (settled_if_acts s (fun _ => silenceExpiry_acts s _) s _)

theorem storeComplete_reaches (failed : BitVec 17) : Reaches sure calm s (execStoreComplete failed s) := by
  refine event_reaches s ?_
  dsimp only
  split
  · exact .refl
  · next snap changed _ =>
    refine Acts.trans ?_ (raiseStoreFault_acts _ _)
    refine Acts.trans ?_ (raise_acts _ _ _)
    refine Acts.trans (.single (.nv (storedImage snap failed s.nv) rfl)) ?_
    refine storeMarks_acts (s.onNv (storedImage snap failed)) _ ?_
    exact fun _ => ⟨rfl, rfl, rfl, rfl⟩

theorem unknownKindRequest_reaches (calmly : calm → s.lp.Orderly) (kind tag : Byte) (payload : List Byte) :
    Reaches sure calm s (execUnknownKindRequest kind tag payload s) := by
  refine whenPowered_reaches s ?_
  (repeat' split)
  · exact .refl
  · exact .refl
  · next u up => exact answered_turns s calmly up kind tag (Acts.owned .refl)

theorem restart_reaches (differ : sure → s.LoavesDiffer) (calmly : calm → s.lp.Orderly) (tag : Byte)
    (payload : List Byte) : Reaches sure calm s (execRestart tag payload s) := by
  refine whenPowered_reaches s ?_
  split
  · exact .refl
  · next u up =>
    obtain ⟨-, ⟨x, rfl⟩, -⟩ := takeUp_turns (sure := sure) (calm := calm) s up
    split
    · refine Turns.trans ?_ (settle_acts _ _ _).turns
      refine Turns.trans ?_ (restartRaisings_acts _ _).turns
      exact answered_turns s calmly up 0x24 tag (restartBlocks_owned _ differ)
    · exact answered_turns s calmly up 0x24 tag (Acts.owned .refl)

/-! ### Every command -/

theorem exec_reaches (differ : sure → s.LoavesDiffer) (calmly : calm → s.lp.Orderly) (c : Instr)
    (on : ∀ e, c ≠ .powerOn e) (off : ∀ n d, c ≠ .powerLoss n d) (edge : ∀ l, c ≠ .infeedLeadingEdge l) :
    Reaches sure calm s (exec c s) := by
  have request := fun {kind len owner tag p} => serve_reaches (sure := sure) s (kind := kind) (len := len) (owner := owner)
    (tag := tag) (p := p) calmly
  cases c with
  | powerOn e => exact absurd rfl (on e)
  | powerLoss n d => exact absurd rfl (off n d)
  | infeedLeadingEdge l => exact absurd rfl (edge l)
  | lineEncoderPulse src => exact lineEncoderPulse_reaches s src
  | pacerAdvance ms => exact pacerAdvance_reaches s ms
  | bladeEncoderPulse l => exact bladeEncoderPulse_reaches s l
  | windowEnd => exact windowEnd_reaches s
  | infeedTrailingEdge l => exact infeedTrailingEdge_reaches s l
  | pocketArrival l => exact pocketArrival_reaches s l
  | mergeReleaseEdge => exact mergeReleaseEdge_reaches s
  | exitArrival => exact exitArrival_reaches s
  | chuteArrival => exact chuteArrival_reaches s
  | bagOpenSignal => exact bagOpenSignal_reaches s
  | estopAsserted => exact estopAsserted_reaches s
  | estopReleased => exact estopReleased_reaches s
  | codeReaderAnswer bytes => exact codeReaderAnswer_reaches s bytes
  | weighAnswer tray load => exact weighAnswer_reaches s tray load
  | frameReceived bytes => exact frameReceived_reaches s bytes
  | interbyteTimeout => exact interbyteTimeout_reaches s
  | frameSent => exact frameSent_reaches s
  | clockTick => exact clockTick_reaches s
  | demandRamp ms => exact demandRamp_reaches s ms
  | holdoverTimerExpiry => exact holdoverTimerExpiry_reaches s
  | spinupTimerExpiry l => exact spinupTimerExpiry_reaches s l
  | retrialTimerExpiry l => exact retrialTimerExpiry_reaches s l
  | bagConfirmTimerExpiry => exact bagConfirmTimerExpiry_reaches s
  | changeoverTimerExpiry => exact changeoverTimerExpiry_reaches s
  | reindexTimerExpiry => exact reindexTimerExpiry_reaches s
  | purgeTimerExpiry => exact purgeTimerExpiry_reaches s
  | settleTimerExpiry => exact settleTimerExpiry_reaches s
  | weighTimerExpiry => exact weighTimerExpiry_reaches s
  | startLimitExpiry => exact startLimitExpiry_reaches s
  | silenceTimerExpiry => exact silenceTimerExpiry_reaches s
  | storeComplete failed => exact storeComplete_reaches s failed
  | unknownKindRequest kind tag p => exact unknownKindRequest_reaches s calmly kind tag p
  | restart tag p => exact restart_reaches s differ calmly tag p
  | identify tag p => exact request fun x => owned_of_eq _ (ownIdentify_state _ p)
  | readStatus tag p => exact request fun x => owned_of_eq _ (ownReadStatus_state _ p)
  | setLink tag p => exact request fun x => owned_of_eq _ (ownSetLink_state _ p)
  | readClock tag p => exact request fun x => owned_of_eq _ (ownReadClock_state _ p)
  | getProfile tag p => exact request fun x => owned_of_eq _ (ownGetProfile_state _ p)
  | getLine tag p => exact request fun x => owned_of_eq _ (ownGetLine_state _ p)
  | readCodecheck tag p => exact request fun x => owned_of_eq _ (ownReadCodecheck_state _ p)
  | readCrumb tag p => exact request fun x => owned_of_eq _ (ownReadCrumb_state _ p)
  | readTotals tag p => exact request fun x => owned_of_eq _ (ownReadTotals_state _ p)
  | readTrack tag p => exact request fun x => owned_of_eq _ (ownReadTrack_state _ p)
  | setNoticeMask tag p => exact request fun x => ownSetNoticeMask_owned _ p
  | clear tag p => exact request fun x => ownClear_owned _ p
  | setClock tag p => exact request fun x => (ownSetClock_acts _ p).owned
  | putProfile tag p => exact request fun x => (ownPutProfile_acts _ p).owned
  | setLine tag p => exact request fun x => (ownSetLine_acts _ p).owned
  | store tag p => exact request fun x => (ownStore_acts _ p).owned
  | start tag p => exact request fun x => (ownStart_acts _ p).owned
  | stop tag p => exact request fun x => (ownStop_acts _ p).owned
  | halt tag p => exact request fun x => (ownHalt_acts _ p).owned
  | setSpeed tag p => exact request fun x => (ownSetSpeed_acts _ p).owned
  | setReference tag p => exact request fun x => (ownSetReference_acts _ p).owned
  | setLanes tag p => exact request fun x => (ownSetLanes_acts _ p).owned
  | setLaneProfile tag p => exact request fun x => (ownSetLaneProfile_acts _ p).owned
  | clearLane tag p => exact request fun x => (ownClearLane_acts _ p).owned
  | loadBags tag p => exact request fun x => (ownLoadBags_acts _ p).owned
  | loadClips tag p => exact request fun x => (ownLoadClips_acts _ p).owned
  | setChallenge tag p => exact request fun x => (ownSetChallenge_acts _ p).owned
  | purge tag p => exact request fun x => (ownPurge_acts _ p).owned
  | openShift tag p => exact request fun x => (ownOpenShift_acts _ p).owned
  | closeShift tag p => exact request fun x => (ownCloseShift_acts _ p).owned
  | rejectLoaf tag p => exact request fun x => (ownRejectLoaf_acts _ p).owned
  | clearTrack tag p => exact request fun x => (ownClearTrack_acts { s with lp := x } differ p).owned
  | resetCodecheck tag p => exact request fun x => (resetCounters_acts { s with lp := x }).owned

/-- Every command but the coming and the loss of power is a chain of turns, from the state or from the state after one
admission. -/
theorem exec_turns (differ : sure → s.LoavesDiffer) (calmly : calm → s.lp.Orderly) {c : Instr} {t : State}
    (h : exec c s = .next t) (on : ∀ e, c ≠ .powerOn e) (off : ∀ n d, c ≠ .powerLoss n d) :
    ∃ u, Begins s u ∧ Turns sure calm u t := by
  by_cases edge : ∃ l, c = .infeedLeadingEdge l
  · obtain ⟨l, rfl⟩ := edge
    exact leadingEdge_begins s h
  · obtain ⟨u, e, turns⟩ := exec_reaches s differ calmly c on off (not_exists.1 edge)
    cases e.symm.trans h
    exact ⟨s, .inl rfl, turns⟩

end Sys2Proof.Machine
end

section
/-! PROOFS. A step, and the conditions on the ranges, the purge queue, the store and the link that every step keeps. -/

namespace Sys2Proof.Machine

variable {sure calm : Prop}

/-! ### A step -/

theorem isSome_tickTimer (t : Timer) : (tickTimer t).isSome = t.isSome := by cases t <;> rfl

theorem tickHd_acts (s : State) : Acts sure s (s.onHd fun x =>
    { heads := x.heads.map fun h => { h with spinup := tickTimer h.spinup }
      lanes := x.lanes.map fun c => { c with retrial := tickTimer c.retrial } }) :=
  .single (.hd _ fun h l => by simpa using h l)

theorem tickCrm_acts (s : State) : Acts sure s (s.onCrm fun c =>
    { c with purge := tickTimer c.purge, settle := tickTimer c.settle, weigh := tickTimer c.weigh }) := by
  refine onCrm_acts s _ id fun o => ?_
  obtain ⟨nodup, idle, cycle, purge⟩ := o
  exact ⟨nodup, idle, cycle, fun p => purge (isSome_tickTimer s.crm.purge ▸ p)⟩

theorem tickTimers_acts (s : State) : Acts sure s (tickTimers s) := by
  have sru := onSru_acts (sure := sure) s
    (fun x => { x with windowLeft := x.windowLeft - 1, holdover := tickTimer x.holdover }) rfl id
  have lc := fun s => onLc_acts (sure := sure) s
    (fun x => { x with startLimit := tickTimer x.startLimit, silence := tickTimer x.silence }) .inl
  have arb := fun s => onArb_acts (sure := sure) s (fun x => { x with changeover := x.changeover.tick }) id
  have bag := fun s => onBag_acts (sure := sure) s (fun x => { x with confirm := tickTimer x.confirm }) id
  have tie := fun s => onTie_acts (sure := sure) s (fun x => { x with reindex := tickTimer x.reindex }) id
  exact (((((sru.trans (lc _)).trans (tickHd_acts _)).trans (arb _)).trans (bag _)).trans (tie _)).trans (tickCrm_acts _)

theorem powerOn_acts {estop : Bool} {s t : State} (h : execPowerOn estop s = .next t) :
    Acts sure (poweredOn s.nv estop s.pending) t := by
  obtain rfl := Host.Outcome.next.inj h
  refine Acts.trans ?_ (settle_acts _ _ _)
  have low : ∀ (c : Prop) [Decidable c] (u : State) (k : Kind) (x : List Byte), Acts sure u (if c then raise k x u else u) := by
    intro c _ u k x
    split
    · exact raise_acts u _ _
    · exact .refl
  exact ((raiseStoreFault_acts _ _).trans (low _ _ _ _)).trans (low _ _ _ _)

/-- What a step can be: a coming of power, a loss of power, or a chain of turns from the state or from the state after
one admission. -/
theorem step_cases {s t : State} (h : step s = .next t) (differ : sure → s.LoavesDiffer) (calmly : calm → s.lp.Orderly) :
    (∃ e rest, s.pending = .powerOn e :: rest ∧ Acts sure (poweredOn s.nv e rest) t) ∨
      (∃ n d rest, s.pending = .powerLoss n d :: rest ∧
        (t = State.off (imageAtLoss n d s.pst.store s.nv) rest ∨ t = { s with pending := rest })) ∨
      ∃ rest u, Begins { s with pending := rest } u ∧ Turns sure calm u t := by
  unfold step at h
  split at h
  · cases h
    refine .inr (.inr ⟨s.pending, s, .inl rfl, ?_⟩)
    unfold idle
    split
    · exact (tickTimers_acts s).turns
    · exact .refl
  · next c rest pending =>
    by_cases on : ∃ e, c = .powerOn e
    · obtain ⟨e, rfl⟩ := on
      exact .inl ⟨e, rest, pending, powerOn_acts (s := { s with pending := rest }) h⟩
    · by_cases off : ∃ n d, c = .powerLoss n d
      · obtain ⟨n, d, rfl⟩ := off
        refine .inr (.inl ⟨n, d, rest, pending, ?_⟩)
        have h : Host.Outcome.next (if s.powered then State.off (imageAtLoss n d s.pst.store s.nv) rest
            else { s with pending := rest }) = .next t := h
        cases h
        split
        · exact .inl rfl
        · exact .inr rfl
      · obtain ⟨u, begins, turns⟩ := exec_turns { s with pending := rest } differ calmly h (not_exists.1 on)
          fun n d e => off ⟨n, d, e⟩
        exact .inr (.inr ⟨rest, u, begins, turns⟩)

/-- A condition that holds at power-on and without power, and that every turn and every admission keeps, is kept by
every step. -/
theorem step_keeps {P : State → Prop} {s t : State} (h : step s = .next t) (differ : sure → s.LoavesDiffer)
    (calmly : calm → s.lp.Orderly) (moved : ∀ rest, P { s with pending := rest })
    (act : ∀ s t, Act sure s t → P s → P t)
    (link : ∀ s : State, ∀ x : Lp, (calm → s.lp.Orderly → x.Orderly) →
      (s.trk.reserveHeld = true → kindIn s.lp.flags .tableReserve = true → kindIn x.flags .tableReserve = true) →
      P s → P { s with lp := x })
    (admitted : ∀ rest l sh, s.tot.opened = some sh → s.gateOpen l = true → 0 < s.free →
      P (admitLoaf l sh.seq { s with pending := rest }))
    (on : ∀ e rest, P (poweredOn s.nv e rest)) (off : ∀ nv rest, P (State.off nv rest)) : P t := by
  rcases step_cases h differ calmly with ⟨e, rest, -, acts⟩ | ⟨n, d, rest, -, rfl | rfl⟩ | ⟨rest, u, begins, turns⟩
  · exact acts.keeps act (on e rest)
  · exact off _ rest
  · exact moved rest
  · refine turns.keeps act link ?_
    rcases begins with rfl | ⟨l, sh, opened, gate, free, rfl⟩
    · exact moved rest
    · exact admitted rest l sh opened gate free

/-! ### What an act leaves alone -/

theorem gates_keep (s : State) :
    (evaluateGates s).without { lp := true, trk := true } = s.without { lp := true, trk := true } := by simp

theorem retireQuiet_keeps (r : Rec) (d : Disposition) (s : State) :
    (retireQuiet r d s).without { trk := true, tot := true, arb := true, tie := true, refs := true } =
      s.without { trk := true, tot := true, arb := true, tie := true, refs := true } := by simp

theorem retireQuiet_tie (r : Rec) (d : Disposition) (s : State) :
    (retireQuiet r d s).tie = { s.tie with openReads := s.tie.openReads.filter fun o => o.loaf != r.loaf } := by
  obtain ⟨-, -, -, tie, -⟩ := endFlightOf_keeps r.loaf
    ((removeRec r.loaf s).onTot fun t => (onTagged r.tag (·.retire r d) t).settle)
  exact congrArg (fun t : Tie => { t with openReads := t.openReads.filter fun o => o.loaf != r.loaf }) tie

theorem endFlightOf_arb (n : Nat) (s : State) : ∃ f p, (endFlightOf n s).arb = { s.arb with flight := f, pushers := p } := by
  unfold endFlightOf
  split
  · split
    · exact ⟨_, _, rfl⟩
    · exact ⟨_, _, rfl⟩
  · exact ⟨_, _, rfl⟩

theorem retireQuiet_arb (r : Rec) (d : Disposition) (s : State) :
    ∃ f p, (retireQuiet r d s).arb = { s.arb with flight := f, pushers := p } :=
  endFlightOf_arb r.loaf ((removeRec r.loaf s).onTot fun t => (onTagged r.tag (·.retire r d) t).settle)

theorem retireQuiet_pst (r : Rec) (d : Disposition) (s : State) :
    (retireQuiet r d s).pst = { s.pst with refs := modAt s.pst.refs r.slot (· - 1) } := by
  obtain ⟨-, -, pst, -, -⟩ := endFlightOf_keeps r.loaf
    ((removeRec r.loaf s).onTot fun t => (onTagged r.tag (·.retire r d) t).settle)
  exact congrArg (fun p : Pst => { p with refs := modAt p.refs r.slot (· - 1) }) pst

/-- An admission moves TRK, TOT, PST's reference counts and one lane. -/
theorem admitLoaf_keeps (l : Lane) (tag : Nat) (s : State) :
    (admitLoaf l tag s).without { trk := true, tot := true, hd := true, refs := true } =
      s.without { trk := true, tot := true, hd := true, refs := true } := by simp

/-! ### The ranges (R2, R9, R83, R95, R106, R113, R118, R123, R131, R132, R172) -/

theorem Arb.InRange.after {s : State} (h : s.arb.InRange) (r : Rec) (l : Lane) : (s.bypassAfter r)[l] ≤ 32 := by
  have inRange := h l
  simp only [State.bypassAfter, Fin.getElem_fin, Vector.getElem_ofFn]
  split
  · exact Nat.zero_le _
  · split
    · split
      · exact inRange
      · exact min_le_left _ _
    · exact inRange

theorem rangesHold_act (s t : State) (h : Act sure s t) (ranges : RangesHold s) : RangesHold t := by
  rw [rangesHold_iff] at ranges ⊢
  obtain ⟨pos, clock, bag, tie, sru, crm, hd, arb⟩ := ranges
  cases h with
  | sru x _ top range => exact ⟨top pos, clock, bag, tie, range sru, crm, hd, arb⟩
  | hd x range => exact ⟨pos, clock, bag, tie, sru, crm, range hd, arb⟩
  | arb x range => exact ⟨pos, clock, bag, tie, sru, crm, hd, range arb⟩
  | bag x range => exact ⟨pos, clock, range bag, tie, sru, crm, hd, arb⟩
  | tie x range => exact ⟨pos, clock, bag, range tie, sru, crm, hd, arb⟩
  | crm x range _ => exact ⟨pos, clock, bag, tie, sru, range crm, hd, arb⟩
  | pst x range _ => exact ⟨pos, range clock, bag, tie, sru, crm, hd, arb⟩
  | grant r l _ _ => exact ⟨pos, clock, bag, tie, sru, crm, hd, arb.after r⟩
  | gates =>
    have kept := gates_keep s
    rw [kept_sru kept rfl rfl, kept_pst kept rfl rfl, kept_bag kept rfl, kept_tie kept rfl, kept_crm kept rfl,
      kept_hd kept rfl, kept_arb kept rfl]
    exact ⟨pos, clock, bag, tie, sru, crm, hd, arb⟩
  | retire r d _ =>
    have kept := retireQuiet_keeps r d s
    obtain ⟨f, p, e⟩ := retireQuiet_arb r d s
    rw [kept_sru kept rfl rfl, kept_clock kept rfl, kept_bag kept rfl, retireQuiet_tie, kept_crm kept rfl,
      kept_hd kept rfl, e]
    exact ⟨pos, clock, bag, tie, sru, crm, hd, arb⟩
  | _ => exact ⟨pos, clock, bag, tie, sru, crm, hd, arb⟩

theorem hd_admitLoaf_inRange {s : State} (h : s.hd.InRange) (l : Lane) (tag : Nat) : (admitLoaf l tag s).hd.InRange := by
  unfold admitLoaf countTrial
  dsimp only
  split
  · intro k
    obtain ⟨count, fails⟩ := h k
    refine ⟨count, ?_⟩
    show (modAt s.hd.lanes l _)[k.val].trialFails ≤ 15
    rw [modAt, getElem_putAt]
    split
    · next e => subst e; exact fails
    · exact fails
  · exact h

theorem rangesHold_fresh (p : Pst) (clock : p.clock ≤ Config.clockMax) {s : State} (sru : ∃ a b c, s.sru = Sru.powerOn a b c)
    (hd : ∃ n, s.hd = Hd.powerOn n) (rest : s.arb = Arb.powerOn ∧ s.bag = Bag.powerOn ∧ s.tie = Tie.powerOn ∧
      s.crm = Crm.powerOn) (pst : s.pst = p) : RangesHold s := by
  obtain ⟨a, b, c, sru⟩ := sru
  obtain ⟨n, hd⟩ := hd
  obtain ⟨arb, bag, tie, crm⟩ := rest
  rw [rangesHold_iff, sru, hd, arb, bag, tie, crm, pst]
  refine ⟨Nat.zero_le _, clock, Nat.zero_le _, ?_, ?_, ?_, fun l => ?_, fun l => ?_⟩
  · exact ⟨Nat.zero_le _, by decide, Nat.zero_le _⟩
  · exact ⟨⟨Nat.zero_le _, Nat.zero_le _⟩, Nat.zero_le _, Nat.zero_le _⟩
  · refine ⟨Nat.zero_le _, fun l => ?_⟩
    have each : Crm.powerOn.heads[l] = ⟨0, 64, 0⟩ := by simp [Crm.powerOn]
    rw [each]
    exact ⟨Nat.zero_le _, Nat.zero_le _, show 32 ≤ 64 by decide, show 64 ≤ 128 by decide⟩
  · simp [Hd.powerOn, Head.powerOn, Monitor.fresh, LaneCtl.powerOn]
  · simp [Arb.powerOn]

theorem pos_act (s t : State) (h : Act sure s t) : s.sru.pos ≤ t.sru.pos := by
  cases h with
  | sru x pos _ _ => exact pos
  | gates => rw [kept_pos (gates_keep s) rfl]
  | retire r d _ => rw [kept_pos (retireQuiet_keeps r d s) rfl]
  | _ => exact le_rfl

/-- Settles O5: every act keeps the ranges of its block and moves the position only up. -/
theorem rangesKept : Obligations.RangesKept := by
  intro s t ranges h
  constructor
  · refine step_keeps (sure := False) (calm := False) h nofun nofun (fun _ => ranges) rangesHold_act
      (fun _ _ _ _ k => k) (fun rest l sh _ _ _ => ?_) (fun e rest => ?_) fun nv rest => ?_
    · have kept := admitLoaf_keeps l sh.seq { s with pending := rest }
      rw [rangesHold_iff] at ranges ⊢
      obtain ⟨pos, clock, bag, tie, sru, crm, hd, arb⟩ := ranges
      rw [kept_sru kept rfl rfl, kept_clock kept rfl, kept_bag kept rfl, kept_tie kept rfl, kept_crm kept rfl,
        kept_arb kept rfl]
      exact ⟨pos, clock, bag, tie, sru, crm, hd_admitLoaf_inRange (s := { s with pending := rest }) hd l sh.seq, arb⟩
    · exact rangesHold_fresh _ (Nat.zero_le _) ⟨_, _, _, rfl⟩ ⟨_, rfl⟩ ⟨rfl, rfl, rfl, rfl⟩ rfl
    · exact rangesHold_fresh _ (Nat.zero_le _) ⟨_, _, _, rfl⟩ ⟨_, rfl⟩ ⟨rfl, rfl, rfl, rfl⟩ rfl
  · rcases step_cases (sure := False) (calm := False) h nofun nofun with
      ⟨e, rest, pending, -⟩ | ⟨n, d, rest, pending, -⟩ | ⟨rest, u, begins, turns⟩
    · exact .inr (.inl ⟨e, rest, pending⟩)
    · exact .inr (.inr ⟨n, d, rest, pending⟩)
    · refine .inl (turns.keeps (P := fun t => s.pos ≤ t.sru.pos) (fun a b act k => k.trans (pos_act a b act))
        (fun _ _ _ _ k => k) ?_)
      rcases begins with rfl | ⟨l, sh, -, -, -, rfl⟩
      · exact le_rfl
      · rw [kept_pos (admitLoaf_keeps l sh.seq _) rfl]
        exact le_rfl

end Sys2Proof.Machine
end

section
/-! PROOFS. The conditions of the purge queue, the store and the link, which every step keeps (R135, R162, R166, R168,
R190 to R196). -/

namespace Sys2Proof.Machine

variable {sure : Prop}

/-! ### The purge queue -/

theorem crmOrderly_act (s t : State) (h : Act sure s t) (o : s.crm.Orderly) : t.crm.Orderly := by
  cases h with
  | crm x _ orderly => exact orderly o
  | gates => rw [kept_crm (gates_keep s) rfl]; exact o
  | retire r d _ => rw [kept_crm (retireQuiet_keeps r d s) rfl]; exact o
  | _ => exact o

theorem crmOrderly_powerOn : Crm.powerOn.Orderly := ⟨List.nodup_nil, ⟨fun _ => rfl, fun _ => rfl⟩, nofun, nofun⟩

/-- Settles O12: every act keeps the purge queue's conditions. -/
theorem purgesKept : Obligations.PurgesKept := by
  intro s t o h
  refine step_keeps (P := PurgesHold) (sure := False) (calm := False) h nofun nofun (fun _ => o) crmOrderly_act
    (fun _ _ _ _ k => k) (fun rest l sh _ _ _ => ?_) (fun _ _ => crmOrderly_powerOn) fun _ _ => crmOrderly_powerOn
  rw [purgesHold_iff, kept_crm (admitLoaf_keeps l sh.seq _) rfl]
  exact o

/-! ### The store -/

/-- What the conditions of the store look at. -/
theorem Pst.Orderly.congr {p q : Pst} (h : p.Orderly) (settings : q.settings = p.settings) (slots : q.slots = p.slots)
    (assign : q.assign = p.assign) : q.Orderly := by
  unfold Pst.Orderly at *
  rwa [settings, slots, assign]

theorem pstOrderly_act (s t : State) (h : Act sure s t) (o : s.pst.Orderly) : t.pst.Orderly := by
  cases h with
  | pst x _ orderly => exact orderly o
  | gates => rw [kept_pst (gates_keep s) rfl rfl]; exact o
  | retire r d _ => rw [retireQuiet_pst]; exact o
  | _ => exact o

theorem settingsValid_default : settingsValid LineSettings.default = true := by decide

theorem loadSlot_valid {x : Section (Option Profile)} {p : Profile} (h : (loadSlot x).1 = some p) :
    profileValid p = true := by
  unfold loadSlot at h
  (repeat' split at h) <;> cases h
  assumption

theorem loadSettings_valid (x : Section (LineSettings × PerLane (Option Slot))) :
    settingsValid (loadSettings x).1 = true := by
  unfold loadSettings
  (repeat' split)
  · assumption
  · exact settingsValid_default
  · exact settingsValid_default

theorem keepAssigned_eq_some {slots : PerSlot (Option Profile)} {a : Option Slot} {i : Slot}
    (h : keepAssigned slots a = some i) : (slots[i]).isSome = true := by
  obtain ⟨j, -, h⟩ := Option.bind_eq_some_iff.1 h
  split at h <;> cases h
  assumption

/-- A power-on loads valid settings, valid profiles, and assignments on the slots that hold one (R171). -/
theorem loadImage_orderly (nv : Nonvolatile) : (loadImage nv).1.Orderly := by
  refine ⟨loadSettings_valid _, fun i p h => ?_, fun l i h => ?_⟩
  · have h : ((nv.slots.map loadSlot).map Prod.fst)[i] = some p := h
    simp only [Fin.getElem_fin, Vector.getElem_map] at h
    exact loadSlot_valid h
  · have h : ((loadSettings nv.settings).2.1.map (keepAssigned ((nv.slots.map loadSlot).map Prod.fst)))[l] = some i := h
    simp only [Fin.getElem_fin, Vector.getElem_map] at h
    exact keepAssigned_eq_some h

theorem unloaded_orderly : Pst.unloaded.Orderly :=
  ⟨settingsValid_default, fun i p h => by simp [Pst.unloaded] at h, fun l i h => by simp [Pst.unloaded] at h⟩

/-- Settles O13: every act keeps the store's conditions, and a power-on loads none but valid contents. -/
theorem storeKept : Obligations.StoreKept := by
  intro s t o h
  refine step_keeps (P := StoreHolds) (sure := False) (calm := False) h nofun nofun (fun _ => o) pstOrderly_act
    (fun _ _ _ _ k => k) (fun rest l sh _ _ _ => ?_) (fun _ _ => loadImage_orderly s.nv) fun _ _ => unloaded_orderly
  have kept := admitLoaf_keeps l sh.seq { s with pending := rest }
  have settings := kept_settings kept rfl
  have slots := kept_slots kept rfl
  have assign := kept_assign kept rfl
  exact Pst.Orderly.congr o settings slots assign

/-! ### The link -/

theorem lpOrderly_act (s t : State) (h : Act sure s t) (o : s.lp.Orderly) : t.lp.Orderly := by
  rcases h.lp with e | ⟨k, time, bs, e⟩
  · rw [e]; exact o
  · rw [e]; exact o.raise k time bs

theorem lpOrderly_powerOn : Lp.powerOn.Orderly :=
  ⟨List.nodup_nil, nofun, rfl, fun _ => ⟨rfl, rfl⟩, fun _ => ⟨rfl, rfl⟩⟩

/-- Settles O11: a raising, the taking up of a request, its reply and every event of the link keep its conditions. -/
theorem linkKept : Obligations.LinkKept := by
  intro s t o h
  refine step_keeps (P := LinkHolds) (sure := False) (calm := True) h nofun (fun _ => o) (fun _ => o) lpOrderly_act
    (fun _ _ orderly _ k => orderly trivial k) (fun rest l sh _ _ _ => ?_) (fun _ _ => lpOrderly_powerOn)
    fun _ _ => lpOrderly_powerOn
  rw [linkHolds_iff, kept_lp (admitLoaf_keeps l sh.seq _) rfl rfl]
  exact o

end Sys2Proof.Machine
end

section
/-! PROOFS. The records of the table under each act; the table keeps its bounds (R26, R31). -/

namespace Sys2Proof.Machine

variable {sure : Prop} (s : State)

/-! ### The records of the table, up to their order -/

theorem records_onPost (f : List Rec → List Rec) :
    (onPost f s).records = s.trk.queues[0] ++ s.trk.queues[1] ++ s.trk.queues[2] ++ s.trk.queues[3] ++ f s.trk.post := rfl

theorem records_onPost_append (r : Rec) : (onPost (· ++ [r]) s).records = s.records ++ [r] := by
  rw [records_onPost]
  simp [State.records, Trk.records]

/-- The records that are in no lane's queue but another's, or past the merge. -/
def State.recordsBut (l : Lane) : List Rec := (onQueue l (fun _ => []) s).records

theorem records_onQueue (l : Lane) (f : List Rec → List Rec) :
    (onQueue l f s).records.Perm (f (s.queue l) ++ s.recordsBut l) := by
  refine List.perm_iff_count.2 fun r => ?_
  unfold State.recordsBut State.records Trk.records onQueue State.queue
  simp only [onTrk_trk, modAt, List.count_append]
  fin_cases l <;> simp [putAt] <;> omega

theorem records_perm (l : Lane) : s.records.Perm (s.queue l ++ s.recordsBut l) := by
  refine (List.Perm.of_eq ?_).trans (records_onQueue s l id)
  unfold State.records onQueue
  simp [modAt, putAt]

theorem records_onQueue_map (l : Lane) (f : Rec → Rec) :
    (onQueue l (List.map f) s).records.Perm ((s.queue l).map f ++ s.recordsBut l) := records_onQueue s l _

/-- What a loaf is known by in the totals: its number, its lane and its shift tag. -/
def Rec.key (r : Rec) : Nat × Lane × Nat := (r.loaf, r.lane, r.tag)

theorem Rec.SameLoaf.key {r x : Rec} (h : r.SameLoaf x) : x.key = r.key := by
  obtain ⟨loaf, lane, tag⟩ := h
  simp [Rec.key, loaf, lane, tag]

theorem map_key_mapIf {p : Rec → Bool} {f : Rec → Rec} (same : ∀ r : Rec, r.SameLoaf (f r)) (rs : List Rec) :
    (mapIf p f rs).map Rec.key = rs.map Rec.key := by
  unfold mapIf
  rw [List.map_map]
  refine List.map_congr_left fun r _ => ?_
  show (if p r then f r else r).key = r.key
  split
  · exact (same r).key
  · rfl

/-- The candidate of a lane is at the head of its queue, QUEUED and in its pocket (R92). -/
theorem candidate_spec {l : Lane} {r : Rec} (h : s.candidate l = some r) :
    s.queue l = r :: (s.queue l).tail ∧ r.state = .queued := by
  unfold State.candidate at h
  split at h
  · next x rest queue =>
    split at h
    · next ok =>
      cases h
      exact ⟨by rw [queue]; rfl, ok.1⟩
    · exact nomatch h
  · exact nomatch h

/-- A granted record, MERGED (R97). -/
def State.merged (r : Rec) : Rec :=
  { r with mergeLead := some (s.pos + tuPos s.set.mergeTravel), seq := some s.trk.nextSeq, state := .merged }

theorem records_grant {l : Lane} {r : Rec} (h : s.candidate l = some r) (lane : r.lane = l) :
    (grant r s).records.Perm (s.merged r :: ((s.queue l).tail ++ s.recordsBut l)) := by
  subst lane
  have moved := (records_onQueue s r.lane List.tail).append_right [s.merged r]
  exact (List.Perm.of_eq (records_onPost_append _ _)).trans (moved.trans (List.perm_append_singleton _ _))

theorem evaluateGates_trk : ∃ c r, (evaluateGates s).trk = { s.trk with closedBy := c, reserveHeld := r } := by
  unfold evaluateGates
  dsimp only
  split <;> exact ⟨_, _, rfl⟩

theorem evaluateGates_records : (evaluateGates s).records = s.records := by
  obtain ⟨c, r, e⟩ := evaluateGates_trk s
  simp [State.records, Trk.records, e]

theorem evaluateGates_queue (l : Lane) : (evaluateGates s).queue l = s.queue l := by
  obtain ⟨c, r, e⟩ := evaluateGates_trk s
  simp [State.queue, e]

theorem queue_mapRecords (p : Rec → Bool) (f : Rec → Rec) (l : Lane) :
    (mapRecords p f s).queue l = mapIf p f (s.queue l) := by
  simp [mapRecords, State.queue]

theorem queue_onQueue (l k : Lane) (f : List Rec → List Rec) :
    (onQueue l f s).queue k = if k = l then f (s.queue l) else s.queue k := by
  show (putAt s.trk.queues l (f s.trk.queues[l]))[k.val] = _
  rw [getElem_putAt]
  rfl

theorem queue_retireQuiet (r : Rec) (d : Disposition) (l : Lane) :
    (retireQuiet r d s).queue l = (s.queue l).filter fun x => x.loaf != r.loaf := by
  have trk := (retireQuiet_as r d s).1.1
  simp [State.queue, trk]

/-- The records that a retraction leaves past the merge, with the record put back. -/
theorem records_retract (r x : Rec) (l : Lane) : (onQueue l (x :: ·)
    (onPost (List.filter fun y => y.loaf != r.loaf) s)).records.Perm
      (x :: (onPost (List.filter fun y => y.loaf != r.loaf) s).records) :=
  (records_onQueue _ l _).trans ((records_perm (onPost (List.filter fun y => y.loaf != r.loaf) s) l).symm.cons x)

theorem records_newRecord (l : Lane) (tag : Nat) :
    (admitLoaf l tag s).records.Perm (s.newRecord l tag :: s.records) := by
  have trk : (admitLoaf l tag s).records = (onQueue l (· ++ [s.newRecord l tag]) s).records := by
    unfold admitLoaf countTrial
    dsimp only
    split <;> rfl
  rw [trk]
  refine (records_onQueue s l _).trans ?_
  refine ((List.perm_append_singleton _ _).append_right _).trans ?_
  exact (records_perm s l).symm.cons _

theorem queue_admitLoaf (l k : Lane) (tag : Nat) : (admitLoaf l tag s).queue k =
    if k = l then s.queue l ++ [s.newRecord l tag] else s.queue k := by
  rw [← queue_onQueue s l k (· ++ [s.newRecord l tag])]
  unfold admitLoaf countTrial
  dsimp only
  split <;> rfl

/-! ### The table's bounds -/

theorem tableHolds_act (s t : State) (h : Act sure s t) (table : TableHolds s) : TableHolds t := by
  obtain ⟨count, lanes⟩ := table
  cases h with
  | trk x queues post _ =>
    have records : ({ s with trk := x } : State).records = s.records := by simp [State.records, Trk.records, queues, post]
    refine ⟨(congrArg List.length records).trans_le count, fun l r hr => lanes l r ?_⟩
    simpa [State.queue, queues] using hr
  | gates =>
    refine ⟨(congrArg List.length (evaluateGates_records s)).trans_le count, fun l r hr => lanes l r ?_⟩
    rwa [evaluateGates_queue] at hr
  | records p f same _ =>
    refine ⟨?_, fun l r hr => ?_⟩
    · simpa [State.tableCount, records_mapRecords, mapIf] using count
    · rw [queue_mapRecords] at hr
      obtain ⟨x, hx, rfl⟩ := List.mem_map.1 hr
      split
      · exact (same x).2.1.trans (lanes l x hx)
      · exact lanes l x hx
  | queue l f same _ =>
    refine ⟨?_, fun k r hr => ?_⟩
    · refine le_of_eq_of_le ?_ count
      simpa [State.tableCount] using (records_onQueue_map s l f).length_eq.trans
        ((records_perm s l).length_eq.trans (by simp)).symm
    · rw [queue_onQueue] at hr
      split at hr
      · next e =>
        subst e
        obtain ⟨x, hx, rfl⟩ := List.mem_map.1 hr
        exact (same x).2.1.trans (lanes k x hx)
      · exact lanes k r hr
  | grant r l candidate _ =>
    obtain ⟨queue, -⟩ := candidate_spec s candidate
    have lane : r.lane = l := lanes l r (queue ▸ List.mem_cons_self)
    refine ⟨?_, fun k x hx => lanes k x ?_⟩
    · refine le_of_eq_of_le ?_ count
      have split := records_perm s l
      rw [queue] at split
      exact (records_grant s candidate lane).length_eq.trans split.length_eq.symm
    · have left : x ∈ (onQueue r.lane List.tail s).queue k := hx
      rw [queue_onQueue] at left
      split at left
      · next e => rw [e]; exact List.mem_of_mem_tail left
      · exact left
  | retract r held merged n =>
    refine ⟨?_, fun k x hx => ?_⟩
    · refine (records_retract s r _ r.lane).length_eq.trans_le ?_
      refine le_trans ?_ count
      show (onPost (List.filter fun y => y.loaf != r.loaf) s).records.length < s.records.length
      have fewer : (s.trk.post.filter fun y => y.loaf != r.loaf).length < s.trk.post.length := by
        rw [← List.countP_eq_length_filter, List.countP_lt_length_iff]
        exact ⟨r, held, by simp⟩
      rw [records_onPost]
      simp only [State.records, Trk.records, List.length_append]
      omega
    · rw [queue_onQueue] at hx
      split at hx
      · next e =>
        subst e
        rcases List.mem_cons.1 hx with rfl | hx
        · rfl
        · exact lanes _ x hx
      · exact lanes k x hx
  | retire r d _ =>
    refine ⟨?_, fun l x hx => lanes l x ?_⟩
    · refine le_trans ?_ count
      show (retireQuiet r d s).records.length ≤ _
      rw [retireQuiet_records]
      exact List.length_filter_le _ _
    · rw [queue_retireQuiet] at hx
      exact (List.mem_filter.1 hx).1
  | _ => exact ⟨count, lanes⟩

theorem tableHolds_admitLoaf {s : State} (h : TableHolds s) (free : 0 < s.free) (l : Lane) (tag : Nat) :
    TableHolds (admitLoaf l tag s) := by
  obtain ⟨count, lanes⟩ := h
  refine ⟨?_, fun k r hr => ?_⟩
  · have room : s.records.length < Config.tableSize := Nat.lt_of_sub_pos free
    exact (records_newRecord s l tag).length_eq.trans_le room
  · rw [queue_admitLoaf] at hr
    split at hr
    · next e =>
      subst e
      rcases List.mem_append.1 hr with hr | hr
      · exact lanes k r hr
      · rw [List.mem_singleton.1 hr]; rfl
    · exact lanes k r hr

theorem tableHolds_of_powerOn {s : State} (h : s.trk = Trk.powerOn) : TableHolds s := by
  have queue : ∀ l, s.queue l = [] := fun l => by simp [State.queue, h, Trk.powerOn]
  refine ⟨?_, fun l r hr => ?_⟩
  · simp [State.tableCount, State.records, Trk.records, h, Trk.powerOn]
  · rw [queue] at hr
    exact nomatch hr

/-- Settles O6: an admission takes a free place, a grant and a retraction move one record, and every other act leaves
the queues as long as they are or shorter. -/
theorem tableKept : Obligations.TableKept := by
  intro s t table h
  refine step_keeps (P := TableHolds) (sure := False) (calm := False) h nofun nofun (fun _ => table) tableHolds_act
    (fun _ _ _ _ k => k) (fun rest l sh _ _ free => ?_) (fun _ _ => tableHolds_of_powerOn rfl)
    fun _ _ => tableHolds_of_powerOn rfl
  exact tableHolds_admitLoaf (s := { s with pending := rest }) table free l sh.seq

end Sys2Proof.Machine
end

section
/-! PROOFS. The accounts of the shifts and the decisions of the records, which every step keeps (R26, R43, R45, R154,
R155). -/

namespace Sys2Proof.Machine

variable {sure : Prop}

/-! ### The accounts look at the records' keys alone -/

theorem filter_length_key (rs : List Rec) (p : Nat × Lane × Nat → Bool) :
    (rs.filter fun r => p r.key).length = (rs.map Rec.key).countP p := by
  rw [List.countP_map, List.countP_eq_length_filter]
  rfl

theorem tagged_length (rs : List Rec) (q : Nat) :
    (rs.filter fun r => r.tag == q).length = (rs.map Rec.key).countP fun k => k.2.2 == q :=
  filter_length_key rs fun k => k.2.2 == q

theorem tagged_lane_length (rs : List Rec) (q : Nat) (l : Lane) :
    (rs.filter fun r => r.tag == q && r.lane == l).length =
      (rs.map Rec.key).countP fun k => k.2.2 == q && k.2.1 == l :=
  filter_length_key rs fun k => k.2.2 == q && k.2.1 == l

theorem Balances.congr {rs rs' : List Rec} {sh sh' : Shift} (h : Balances rs sh)
    (keys : (rs'.map Rec.key).Perm (rs.map Rec.key)) (seq : sh'.seq = sh.seq) (table : sh'.inTable = sh.inTable)
    (lanes : sh'.perLane = sh.perLane) : Balances rs' sh' := by
  obtain ⟨count, each⟩ := h
  refine ⟨?_, fun l few => ?_⟩
  · rw [table, count, seq, tagged_length, tagged_length, keys.countP_eq]
  · rw [lanes] at few ⊢
    rw [each l few, seq, tagged_lane_length, tagged_lane_length, keys.countP_eq]

theorem nodup_loaf_congr {rs rs' : List Rec} (keys : (rs'.map Rec.key).Perm (rs.map Rec.key))
    (h : (rs.map Rec.loaf).Nodup) : (rs'.map Rec.loaf).Nodup := by
  have loafs : ∀ rs : List Rec, rs.map Rec.loaf = (rs.map Rec.key).map Prod.fst := fun rs => by
    rw [List.map_map]; rfl
  rw [loafs] at h ⊢
  exact (keys.map _).nodup_iff.2 h

/-- The accounts stand over records of the same loaves, and shifts of the same counts. -/
theorem AccountsHold.congr {s t : State} (h : AccountsHold s)
    (keys : (t.records.map Rec.key).Perm (s.records.map Rec.key)) (f : Shift → Shift) (g : Shift → Shift)
    (hf : KeepsAccount f) (hg : KeepsAccount g) (opened : t.tot.opened = s.tot.opened.map f)
    (closing : t.tot.closing = s.tot.closing.map g) (closed : t.tot.closed = s.tot.closed)
    (next : t.nextShiftSeq = s.nextShiftSeq) : AccountsHold t := by
  obtain ⟨differ, tagged, o, c, d, alone, both⟩ := h
  refine ⟨nodup_loaf_congr keys differ, fun r hr => ?_, fun sh e => ?_, fun sh e => ?_, fun sh e => ?_, fun a e k => ?_,
    fun a b ha hb => ?_⟩
  · obtain ⟨x, hx, same⟩ := List.mem_map.1 (keys.mem_iff.1 (List.mem_map.2 ⟨r, hr, rfl⟩))
    have tag : x.tag = r.tag := congrArg (·.2.2) same
    obtain ⟨sh, place, seq⟩ := tagged x hx
    rcases place with place | place
    · exact ⟨f sh, .inl (by rw [opened, place]; rfl), (hf sh).1.trans (seq.trans tag)⟩
    · exact ⟨g sh, .inr (by rw [closing, place]; rfl), (hg sh).1.trans (seq.trans tag)⟩
  · rw [opened] at e
    obtain ⟨x, hx, rfl⟩ := Option.map_eq_some_iff.1 e
    obtain ⟨balance, seq⟩ := o x hx
    obtain ⟨same, table, lanes⟩ := hf x
    exact ⟨balance.congr keys same table lanes, by rw [next, seq, same]⟩
  · rw [closing] at e
    obtain ⟨x, hx, rfl⟩ := Option.map_eq_some_iff.1 e
    obtain ⟨balance, some⟩ := c x hx
    obtain ⟨same, table, lanes⟩ := hg x
    exact ⟨balance.congr keys same table lanes, by rwa [table]⟩
  · rw [closed] at e
    exact d sh e
  · rw [closing] at e
    obtain ⟨x, hx, rfl⟩ := Option.map_eq_some_iff.1 e
    rw [opened, Option.map_eq_none_iff] at k
    rw [next, alone x hx k, (hg x).1]
  · rw [closing] at ha
    rw [opened] at hb
    obtain ⟨x, hx, rfl⟩ := Option.map_eq_some_iff.1 ha
    obtain ⟨y, hy, rfl⟩ := Option.map_eq_some_iff.1 hb
    rw [(hf y).1, (hg x).1]
    exact both x y hx hy

theorem keepsAccount_id : KeepsAccount id := fun _ => ⟨rfl, rfl, rfl⟩

/-- The accounts stand over other records of the same loaves. -/
theorem AccountsHold.of_keys {s t : State} (h : AccountsHold s)
    (keys : (t.records.map Rec.key).Perm (s.records.map Rec.key)) (tot : t.tot = s.tot)
    (next : t.nextShiftSeq = s.nextShiftSeq) : AccountsHold t :=
  h.congr keys id id keepsAccount_id keepsAccount_id (by simp [tot]) (by simp [tot]) (by rw [tot]) next

/-! ### A retirement in the accounts (R155) -/

theorem bump32_of_lt {n : Nat} (h : n < Config.count32) : bump32 n = n + 1 := by
  unfold bump32 satAdd
  omega

/-- A retirement ends one loaf more, short of the counts' greatest value. -/
theorem Counts.ended_retire (c : Counts) (d : Disposition) (sliced thick : Bool) (h : c.ended < Config.count32) :
    (c.retire d sliced thick).ended = c.ended + 1 ∧ (c.retire d sliced thick).admitted = c.admitted := by
  have marks : ∀ x : Counts, ∀ y, (if sliced then { x with sliced := bump32 x.sliced } else x) = y →
      (if sliced && thick then { y with thick := bump32 y.thick } else y).ended = x.ended ∧
      (if sliced && thick then { y with thick := bump32 y.thick } else y).admitted = x.admitted := by
    rintro x y rfl
    cases sliced <;> cases thick <;> exact ⟨rfl, rfl⟩
  unfold Counts.retire
  dsimp only
  obtain ⟨ended, admitted⟩ := marks _ _ rfl
  rw [ended, admitted]
  unfold Counts.ended at *
  cases d <;> dsimp only <;> rw [bump32_of_lt (by omega)] <;> omega

theorem Counts.admitted_retire (c : Counts) (d : Disposition) (sliced thick : Bool) :
    (c.retire d sliced thick).admitted = c.admitted := by
  unfold Counts.retire
  dsimp only
  cases d <;> cases sliced <;> cases thick <;> rfl

/-- A retirement counts in the lane of its record. -/
theorem Shift.retire_perLane (sh : Shift) (r : Rec) (d : Disposition) : ∃ sliced thick, ∀ l : Lane,
    (sh.retire r d).perLane[l] = if l = r.lane then sh.perLane[l].retire d sliced thick else sh.perLane[l] := by
  refine ⟨decide (0 < r.cutsDone), match r.plan with
    | some p => p.thick
    | none => false, fun l => ?_⟩
  refine (getElem_putAt sh.perLane r.lane l _).trans ?_
  split
  · next e => subst e; rfl
  · rfl

/-- The balance of the shift that a retiring record is tagged with. -/
theorem Balances.retire {rs rs' : List Rec} {sh : Shift} {r x : Rec} (h : Balances rs sh) (same : x.SameLoaf r)
    (tag : r.tag = sh.seq) (split : rs.Perm (x :: rs')) (d : Disposition) : Balances rs' (sh.retire r d) := by
  obtain ⟨count, each⟩ := h
  obtain ⟨-, lane, tagged⟩ := same
  have xtag : x.tag = sh.seq := tagged ▸ tag
  obtain ⟨sliced, thick, perLane⟩ := sh.retire_perLane r d
  refine ⟨?_, fun l few => ?_⟩
  · have whole := (split.filter fun r => r.tag == sh.seq).length_eq
    rw [List.filter_cons_of_pos (by simp [xtag])] at whole
    show sh.inTable - 1 = _
    rw [count, whole]
    rfl
  · have whole := (split.filter fun r => r.tag == sh.seq && r.lane == l).length_eq
    rw [perLane l] at few ⊢
    by_cases e : l = r.lane
    · rw [if_pos e, Counts.admitted_retire] at few
      rw [if_pos e]
      have balance := each l few
      rw [List.filter_cons_of_pos (by simp [xtag, ← lane, e]), List.length_cons] at whole
      obtain ⟨ended, admitted⟩ := sh.perLane[l].ended_retire d sliced thick (by omega)
      rw [ended, admitted]
      show _ = (rs'.filter fun r => r.tag == sh.seq && r.lane == l).length + _
      omega
    · rw [if_neg e] at few ⊢
      have other : ¬x.lane = l := fun k => e (k.symm.trans lane.symm)
      rw [List.filter_cons_of_neg (by simp [other])] at whole
      rw [each l few, whole]
      rfl

/-- The balance of any other shift. -/
theorem Balances.retire_other {rs rs' : List Rec} {sh : Shift} {x : Rec} (h : Balances rs sh) (tag : x.tag ≠ sh.seq)
    (split : rs.Perm (x :: rs')) : Balances rs' sh := by
  obtain ⟨count, each⟩ := h
  refine ⟨?_, fun l few => ?_⟩
  · have whole := (split.filter fun r => r.tag == sh.seq).length_eq
    rw [List.filter_cons_of_neg (by simp [tag])] at whole
    exact count.trans whole
  · have whole := (split.filter fun r => r.tag == sh.seq && r.lane == l).length_eq
    rw [List.filter_cons_of_neg (by simp [tag])] at whole
    rw [each l few, whole]

/-- The accounts but for the CLOSING shift's waiting for a record. -/
def AccountsOpen (rs : List Rec) (t : Tot) (next : Nat) : Prop :=
  (rs.map Rec.loaf).Nodup ∧
    (∀ r ∈ rs, ∃ sh, (t.opened = some sh ∨ t.closing = some sh) ∧ sh.seq = r.tag) ∧
    (∀ sh, t.opened = some sh → Balances rs sh ∧ next = nextSeqAfter sh.seq) ∧
    (∀ sh, t.closing = some sh → Balances rs sh) ∧
    (∀ sh, t.closed = some sh → sh.inTable = 0 ∧
      ∀ l : Lane, sh.perLane[l].admitted < Config.count32 → sh.perLane[l].admitted = sh.perLane[l].ended) ∧
    (∀ a, t.closing = some a → t.opened = none → next = nextSeqAfter a.seq) ∧
    ∀ a b, t.closing = some a → t.opened = some b → b.seq = nextSeqAfter a.seq

theorem untagged_of_balance {rs : List Rec} {sh : Shift} (h : Balances rs sh) (empty : sh.inTable = 0) {r : Rec}
    (hr : r ∈ rs) : r.tag ≠ sh.seq := by
  intro e
  have none := h.1.symm.trans empty
  have := List.length_eq_zero_iff.1 none
  exact List.not_mem_nil (this ▸ List.mem_filter.2 ⟨hr, by simp [e]⟩)

/-- A CLOSING shift without records becomes CLOSED, and the accounts stand. -/
theorem AccountsOpen.settled {rs : List Rec} {t : Tot} {n : Nat} (h : AccountsOpen rs t n) {s : State}
    (records : s.records = rs) (tot : s.tot = t.settle) (next : s.nextShiftSeq = n) : AccountsHold s := by
  obtain ⟨differ, tagged, o, c, d, alone, both⟩ := h
  unfold AccountsHold
  rw [records, tot, next]
  unfold Tot.settle
  split
  · next sh closing =>
    split
    · next empty =>
      refine ⟨differ, fun r hr => ?_, o, nofun, fun x e => ?_, nofun, nofun⟩
      · obtain ⟨x, place, seq⟩ := tagged r hr
        rcases place with place | place
        · exact ⟨x, .inl place, seq⟩
        · cases closing.symm.trans place
          exact absurd seq.symm (untagged_of_balance (c sh closing) empty hr)
      · cases e
        refine ⟨empty, fun l few => ?_⟩
        have balance := (c sh closing).2 l few
        have none : (rs.filter fun r => r.tag == sh.seq && r.lane == l) = [] :=
          List.filter_eq_nil_iff.2 fun r hr => by simp [untagged_of_balance (c sh closing) empty hr]
        rw [none] at balance
        simpa using balance
    · next some =>
      refine ⟨differ, tagged, o, fun x e => ⟨c x e, ?_⟩, d, alone, both⟩
      cases closing.symm.trans e
      exact some
  · next closing =>
    refine ⟨differ, tagged, o, fun x e => ?_, d, alone, both⟩
    cases closing.symm.trans e

theorem Shift.retire_seq (sh : Shift) (r : Rec) (d : Disposition) : (sh.retire r d).seq = sh.seq := rfl

/-- A record leaves a list whose loaf numbers differ. -/
theorem perm_filter_loaf {rs : List Rec} (differ : (rs.map Rec.loaf).Nodup) {r x : Rec} (held : x ∈ rs)
    (same : x.loaf = r.loaf) : rs.Perm (x :: rs.filter fun y => y.loaf != r.loaf) := by
  obtain ⟨before, after, rfl⟩ := List.append_of_mem held
  have nodup : ((x :: (before ++ after)).map Rec.loaf).Nodup := (List.perm_middle.map _).nodup_iff.1 differ
  have others : ∀ y ∈ before ++ after, (y.loaf != r.loaf) = true := by
    intro y hy
    have : y.loaf ≠ x.loaf := fun e => (List.nodup_cons.1 nodup).1 (e ▸ List.mem_map_of_mem hy)
    simpa [same] using this
  have kept : ((before ++ x :: after).filter fun y => y.loaf != r.loaf) = before ++ after := by
    rw [List.filter_append, List.filter_cons_of_neg (by simp [same]), ← List.filter_append]
    exact List.filter_eq_self.2 others
  rw [kept]
  exact List.perm_middle

theorem holdsSeq_iff (place : Option Shift) (n : Nat) :
    holdsSeq place n = true ↔ ∃ sh, place = some sh ∧ sh.seq = n := by
  cases place <;> simp [holdsSeq]

/-- A record of the table leaves it, counted in the shift of its tag. -/
theorem accountsOpen_retire {s : State} (h : AccountsHold s) {r x : Rec} (same : x.SameLoaf r) {rs : List Rec}
    (split : s.records.Perm (x :: rs)) (d : Disposition) :
    AccountsOpen rs (onTagged r.tag (·.retire r d) s.tot) s.nextShiftSeq := by
  obtain ⟨differ, tagged, o, c, closed, alone, both⟩ := h
  have differ : (rs.map Rec.loaf).Nodup := (List.nodup_cons.1 ((split.map Rec.loaf).nodup_iff.1 differ)).2
  have tagged : ∀ y ∈ rs, ∃ sh, (s.tot.opened = some sh ∨ s.tot.closing = some sh) ∧ sh.seq = y.tag :=
    fun y hy => tagged y (split.mem_iff.2 (List.mem_cons_of_mem _ hy))
  have other : ∀ sh : Shift, sh.seq ≠ r.tag → Balances s.records sh → Balances rs sh :=
    fun sh ne b => b.retire_other (fun e => ne (e.symm.trans same.2.2.symm)) split
  unfold onTagged
  by_cases here : holdsSeq s.tot.opened r.tag = true
  · rw [if_pos here]
    obtain ⟨sh, opened, seq⟩ := (holdsSeq_iff _ _).1 here
    have apart : ∀ a, s.tot.closing = some a → a.seq ≠ r.tag := fun a ha e =>
      nextSeqAfter_ne a.seq ((both a sh ha opened).symm.trans (seq.trans e.symm))
    refine ⟨differ, fun y hy => ?_, fun z e => ?_, fun z e => other z (apart z e) (c z e).1, closed, fun a ha e => ?_,
      fun a b ha e => ?_⟩
    · obtain ⟨z, place | place, zseq⟩ := tagged y hy
      · exact ⟨z.retire r d, .inl (by simp [place]), zseq⟩
      · exact ⟨z, .inr place, zseq⟩
    · obtain ⟨w, hw, rfl⟩ := Option.map_eq_some_iff.1 e
      cases opened.symm.trans hw
      exact ⟨(o sh opened).1.retire same seq.symm split d, (o sh opened).2⟩
    · exact absurd e (by simp [opened])
    · obtain ⟨w, hw, rfl⟩ := Option.map_eq_some_iff.1 e
      exact both a w ha hw
  rw [if_neg here]
  have apart : ∀ b, s.tot.opened = some b → b.seq ≠ r.tag := fun b hb e => here ((holdsSeq_iff _ _).2 ⟨b, hb, e⟩)
  have opened : ∀ sh, s.tot.opened = some sh → Balances rs sh ∧ s.nextShiftSeq = nextSeqAfter sh.seq :=
    fun sh e => ⟨other sh (apart sh e) (o sh e).1, (o sh e).2⟩
  by_cases there : holdsSeq s.tot.closing r.tag = true
  · rw [if_pos there]
    refine ⟨differ, fun y hy => ?_, opened, fun z e => ?_, closed, fun a e k => ?_, fun a b ha hb => ?_⟩
    · obtain ⟨z, place | place, zseq⟩ := tagged y hy
      · exact ⟨z, .inl place, zseq⟩
      · exact ⟨z.retire r d, .inr (by simp [place]), zseq⟩
    · obtain ⟨w, hw, rfl⟩ := Option.map_eq_some_iff.1 e
      obtain ⟨v, hv, seq⟩ := (holdsSeq_iff _ _).1 there
      cases hv.symm.trans hw
      exact (c _ hv).1.retire same seq.symm split d
    · obtain ⟨w, hw, rfl⟩ := Option.map_eq_some_iff.1 e
      exact alone w hw k
    · obtain ⟨w, hw, rfl⟩ := Option.map_eq_some_iff.1 ha
      exact both w b hw hb
  · rw [if_neg there]
    refine ⟨differ, tagged, opened, fun z e => ?_, closed, alone, both⟩
    exact other z (fun seq => there ((holdsSeq_iff _ _).2 ⟨z, e, seq⟩)) (c z e).1

theorem nextShiftSeq_congr {s t : State} (h : t.nv.seqCell = s.nv.seqCell) : t.nextShiftSeq = s.nextShiftSeq := by
  unfold State.nextShiftSeq
  rw [h]

theorem accountsHold_retire {s : State} (h : AccountsHold s) {r x : Rec} (held : x ∈ s.records) (same : x.SameLoaf r)
    (d : Disposition) : AccountsHold (retireQuiet r d s) := by
  refine (accountsOpen_retire h same (perm_filter_loaf h.1 held same.1.symm) d).settled (retireQuiet_records s r d)
    (retireQuiet_as r d s).1.2.1 (nextShiftSeq_congr ?_)
  rw [kept_nv (retireQuiet_keeps r d s) rfl]

/-! ### Every act keeps the accounts -/

theorem accountsHold_act (known : sure) (s t : State) (h : Act sure s t) (hs : TableHolds s ∧ AccountsHold s) :
    AccountsHold t := by
  obtain ⟨table, accounts⟩ := hs
  cases h with
  | nv x seq => exact accounts.of_keys (.refl _) rfl (nextShiftSeq_congr seq)
  | shifts x y keeps => exact keeps accounts
  | event f account =>
    have other := keepsAccount_id
    unfold lineEvent State.onTot
    dsimp only
    split
    · next sh opened =>
      exact accounts.congr (.refl _) f id account other (by simp [opened]) (by simp) rfl rfl
    · next opened =>
      exact accounts.congr (.refl _) id f other account (by simp) rfl rfl rfl
  | trk x queues post _ =>
    refine accounts.of_keys (.of_eq ?_) rfl rfl
    simp [State.records, Trk.records, queues, post]
  | gates =>
    have kept := gates_keep s
    refine accounts.of_keys (.of_eq (by rw [evaluateGates_records])) (kept_tot kept rfl) (nextShiftSeq_congr ?_)
    rw [kept_nv kept rfl]
  | records p f same _ =>
    refine accounts.of_keys (.of_eq ?_) rfl rfl
    rw [records_mapRecords, map_key_mapIf same]
  | queue l f same _ =>
    refine accounts.of_keys (((records_onQueue_map s l f).map _).trans ?_) rfl rfl
    refine .trans (.of_eq ?_) ((records_perm s l).map _).symm
    rw [List.map_append, List.map_append, List.map_map]
    exact congrArg (· ++ _) (List.map_congr_left fun r _ => (same r).key)
  | grant r l candidate _ =>
    obtain ⟨queue, -⟩ := candidate_spec s candidate
    have lane : r.lane = l := table.2 l r (queue ▸ List.mem_cons_self)
    refine accounts.of_keys (((records_grant s candidate lane).map _).trans ?_) rfl rfl
    have split := records_perm s l
    rw [queue] at split
    exact (split.map Rec.key).symm
  | retract r held merged n =>
    refine accounts.of_keys (((records_retract s r _ r.lane).map _).trans ?_) rfl rfl
    have past : s.trk.post.Perm (r :: s.trk.post.filter fun y => y.loaf != r.loaf) := by
      refine perm_filter_loaf (accounts.1.sublist (List.Sublist.map _ ?_)) held rfl
      exact List.sublist_append_right _ _
    have whole : s.records.Perm (r :: (onPost (List.filter fun y => y.loaf != r.loaf) s).records) :=
      (past.append_left _).trans List.perm_middle
    exact (whole.map Rec.key).symm
  | retire r d held =>
    obtain ⟨x, held, same⟩ := held known
    exact accountsHold_retire accounts held same d
  | _ => exact accounts

end Sys2Proof.Machine
end

section
/-! PROOFS. The admission in the accounts; the accounts and the decisions are kept by every step (R26, R43, R45, R154,
R155). -/

namespace Sys2Proof.Machine

variable {sure : Prop}

/-! ### An admission in the accounts (R154) -/

theorem Shift.countAdmission_perLane (sh : Shift) (l : Lane) (slot : Slot) (k : Lane) :
    (sh.countAdmission l slot).perLane[k] =
      if k = l then { sh.perLane[k] with admitted := bump32 sh.perLane[k].admitted } else sh.perLane[k] := by
  refine (getElem_putAt sh.perLane l k _).trans ?_
  split
  · next e => subst e; rfl
  · rfl

/-- The balance of the OPEN shift with a loaf more. -/
theorem Balances.admission {rs rs' : List Rec} {sh : Shift} {x : Rec} (h : Balances rs sh) (tag : x.tag = sh.seq)
    (split : rs'.Perm (x :: rs)) (slot : Slot) : Balances rs' (sh.countAdmission x.lane slot) := by
  obtain ⟨count, each⟩ := h
  refine ⟨?_, fun l few => ?_⟩
  · have whole := (split.filter fun r => r.tag == sh.seq).length_eq
    rw [List.filter_cons_of_pos (by simp [tag])] at whole
    show sh.inTable + 1 = _
    rw [count]
    exact whole.symm
  · have whole := (split.filter fun r => r.tag == sh.seq && r.lane == l).length_eq
    rw [sh.countAdmission_perLane] at few ⊢
    by_cases e : l = x.lane
    · rw [if_pos e] at few ⊢
      rw [List.filter_cons_of_pos (by simp [tag, e]), List.length_cons] at whole
      have room : sh.perLane[l].admitted < Config.count32 := by
        have few : bump32 sh.perLane[l].admitted < Config.count32 := few
        unfold bump32 satAdd at few
        omega
      show bump32 sh.perLane[l].admitted = (rs'.filter fun r => r.tag == sh.seq && r.lane == l).length + sh.perLane[l].ended
      rw [bump32_of_lt room, whole, each l room]
      omega
    · rw [if_neg e] at few ⊢
      rw [List.filter_cons_of_neg (by simp [Ne.symm e])] at whole
      rw [each l few, ← whole]
      rfl

theorem Balances.admission_other {rs rs' : List Rec} {sh : Shift} {x : Rec} (h : Balances rs sh) (tag : x.tag ≠ sh.seq)
    (split : rs'.Perm (x :: rs)) : Balances rs' sh := by
  obtain ⟨count, each⟩ := h
  refine ⟨?_, fun l few => ?_⟩
  · have whole := (split.filter fun r => r.tag == sh.seq).length_eq
    rw [List.filter_cons_of_neg (by simp [tag])] at whole
    exact count.trans whole.symm
  · have whole := (split.filter fun r => r.tag == sh.seq && r.lane == l).length_eq
    rw [List.filter_cons_of_neg (by simp [tag])] at whole
    rw [each l few, whole]

theorem admitLoaf_tot (l : Lane) (tag : Nat) (s : State) : (admitLoaf l tag s).tot =
    { s.tot with opened := s.tot.opened.map fun sh => sh.countAdmission l (s.newRecord l tag).slot } := by
  unfold admitLoaf countTrial
  dsimp only
  split <;> rfl

theorem accountsHold_admitLoaf {s : State} (h : AccountsHold s) (free : NextLoafFree s) {sh : Shift}
    (opened : s.tot.opened = some sh) (l : Lane) : AccountsHold (admitLoaf l sh.seq s) := by
  obtain ⟨differ, tagged, o, c, closed, -, both⟩ := h
  have split := records_newRecord s l sh.seq
  have next : (admitLoaf l sh.seq s).nextShiftSeq = s.nextShiftSeq :=
    nextShiftSeq_congr (by rw [kept_nv (admitLoaf_keeps l sh.seq s) rfl])
  unfold AccountsHold
  rw [next, admitLoaf_tot, opened]
  refine ⟨?_, fun r hr => ?_, fun x e => ?_, fun a e => ?_, closed, fun a _ k => ?_, fun a b ha hb => ?_⟩
  · refine (split.map Rec.loaf).nodup_iff.2 (List.nodup_cons.2 ⟨fun m => ?_, differ⟩)
    obtain ⟨r, hr, e⟩ := List.mem_map.1 m
    exact free r hr e
  · rcases List.mem_cons.1 (split.mem_iff.1 hr) with rfl | hr
    · exact ⟨_, .inl rfl, rfl⟩
    · obtain ⟨x, place | place, seq⟩ := tagged r hr
      · cases opened.symm.trans place
        exact ⟨_, .inl rfl, seq⟩
      · exact ⟨x, .inr place, seq⟩
  · cases e
    obtain ⟨balance, seq⟩ := o sh opened
    exact ⟨balance.admission (x := s.newRecord l sh.seq) rfl split _, seq⟩
  · obtain ⟨balance, some⟩ := c a e
    have apart : sh.seq ≠ a.seq := fun k => nextSeqAfter_ne a.seq ((both a sh e opened).symm.trans k)
    exact ⟨balance.admission_other (x := s.newRecord l sh.seq) apart split, some⟩
  · cases k
  · cases hb
    exact both a sh ha opened

/-- The table's bounds and the shifts' accounts, which need one another. -/
def BooksHold (s : State) : Prop := TableHolds s ∧ AccountsHold s

theorem booksHold_act (known : sure) (s t : State) (act : Act sure s t) (hs : BooksHold s) : BooksHold t :=
  ⟨tableHolds_act s t act hs.1, accountsHold_act known s t act hs⟩

theorem booksHold_admitLoaf {s : State} (h : BooksHold s) (free : NextLoafFree s) {sh : Shift}
    (opened : s.tot.opened = some sh) (room : 0 < s.free) (l : Lane) : BooksHold (admitLoaf l sh.seq s) :=
  ⟨tableHolds_admitLoaf h.1 room l sh.seq, accountsHold_admitLoaf h.2 free opened l⟩

theorem accountsHold_of_powerOn {s : State} (trk : s.trk = Trk.powerOn) (tot : s.tot = Tot.powerOn) :
    AccountsHold s := by
  have records : s.records = [] := by simp [State.records, Trk.records, trk, Trk.powerOn]
  unfold AccountsHold
  simp [records, tot, Tot.powerOn]

theorem booksHold_of_powerOn {s : State} (trk : s.trk = Trk.powerOn) (tot : s.tot = Tot.powerOn) : BooksHold s :=
  ⟨tableHolds_of_powerOn trk, accountsHold_of_powerOn trk tot⟩

/-- Settles O7: a retirement ends its loaf once in the shift of its tag, an admission opens its account there, a shift
that moves takes its records with it, and every other act keeps the loaves of the table. -/
theorem accountsKept : Obligations.AccountsKept := by
  intro s t table free accounts h
  have books : BooksHold t := by
    refine step_keeps (P := BooksHold) (sure := True) (calm := False) h (fun _ => accounts.1) nofun
      (fun _ => ⟨table, accounts⟩) (booksHold_act trivial) (fun _ _ _ _ k => k) (fun rest l sh opened _ room => ?_)
      (fun _ _ => booksHold_of_powerOn rfl rfl) fun _ _ => booksHold_of_powerOn rfl rfl
    exact booksHold_admitLoaf (s := { s with pending := rest }) ⟨table, accounts⟩ free opened room l
  exact books.2

/-! ### The decisions (R43, R45) -/

theorem decisionsHold_act (s t : State) (h : Act sure s t) (differ : s.LoavesDiffer) (hs : DecisionsHold s) :
    DecisionsHold t := by
  have well : ∀ r ∈ s.records, r.DecidedWell := hs
  show ∀ r ∈ t.records, r.DecidedWell
  cases h with
  | trk x queues post _ =>
    intro r hr
    exact well r (by simpa [State.records, Trk.records, queues, post] using hr)
  | gates =>
    rw [evaluateGates_records]
    exact well
  | records p f same decided =>
    rw [records_mapRecords]
    intro r hr
    obtain ⟨x, hx, rfl⟩ := List.mem_map.1 hr
    split
    · next holds => exact decided differ x hx holds (well x hx)
    · exact well x hx
  | queue l f same decided =>
    intro r hr
    rcases List.mem_append.1 ((records_onQueue_map s l f).mem_iff.1 hr) with hr | hr
    · obtain ⟨x, hx, rfl⟩ := List.mem_map.1 hr
      exact decided x (well x (mem_records_of_queue s hx))
    · exact well r ((records_perm s l).mem_iff.2 (List.mem_append_right _ hr))
  | grant r l candidate _ =>
    obtain ⟨queue, state⟩ := candidate_spec s candidate
    have undecided := (well r (mem_records_of_queue s (queue ▸ List.mem_cons_self))).undecided (state ▸ nofun)
    intro x hx
    have hx : x ∈ (onQueue r.lane List.tail s).records ++ [s.merged r] := by
      rw [← records_onPost_append]
      exact hx
    rcases List.mem_append.1 hx with hx | hx
    · rcases List.mem_append.1 ((records_onQueue s r.lane _).mem_iff.1 hx) with hx | hx
      · exact well x (mem_records_of_queue s (List.mem_of_mem_tail hx))
      · exact well x ((records_perm s r.lane).mem_iff.2 (List.mem_append_right _ hx))
    · rw [List.mem_singleton.1 hx]
      exact Rec.decidedWell_of_none undecided nofun
  | retract r held merged n =>
    have undecided := (well r (mem_records_of_post s held)).undecided (merged ▸ nofun)
    intro x hx
    rcases List.mem_cons.1 ((records_retract s r _ r.lane).mem_iff.1 hx) with rfl | hx
    · exact Rec.decidedWell_of_none undecided nofun
    · refine well x ?_
      rcases (mem_records_iff _ x).1 hx with ⟨l, hx⟩ | hx
      · exact mem_records_of_queue s hx
      · exact mem_records_of_post s (List.mem_filter.1 hx).1
  | retire r d _ =>
    rw [retireQuiet_records]
    exact fun x hx => well x (List.mem_filter.1 hx).1
  | _ => exact well

/-- The decisions, over a table and accounts that hold. -/
def FilesHold (s : State) : Prop := BooksHold s ∧ DecisionsHold s

theorem filesHold_act (known : sure) (s t : State) (act : Act sure s t) (hs : FilesHold s) : FilesHold t :=
  ⟨booksHold_act known s t act hs.1, decisionsHold_act s t act hs.1.2.1 hs.2⟩

theorem decisionsHold_admitLoaf {s : State} (h : DecisionsHold s) (l : Lane) (tag : Nat) :
    DecisionsHold (admitLoaf l tag s) := by
  intro r hr
  rcases List.mem_cons.1 ((records_newRecord s l tag).mem_iff.1 hr) with rfl | hr
  · exact Rec.decidedWell_of_none rfl nofun
  · exact h r hr

theorem filesHold_of_powerOn {s : State} (trk : s.trk = Trk.powerOn) (tot : s.tot = Tot.powerOn) : FilesHold s := by
  refine ⟨booksHold_of_powerOn trk tot, fun r hr => ?_⟩
  simp [State.records, Trk.records, trk, Trk.powerOn] at hr

/-- Settles O8: a record is decided at its decision point alone, and a reason that a PASS record gains is late. -/
theorem decisionsKept : Obligations.DecisionsKept := by
  intro s t table free accounts decisions h
  have files : FilesHold t := by
    refine step_keeps (P := FilesHold) (sure := True) (calm := False) h (fun _ => accounts.1) nofun
      (fun _ => ⟨⟨table, accounts⟩, decisions⟩) (filesHold_act trivial) (fun _ _ _ _ k => k)
      (fun rest l sh opened _ room => ?_) (fun _ _ => filesHold_of_powerOn rfl rfl) fun _ _ => filesHold_of_powerOn rfl rfl
    exact ⟨booksHold_admitLoaf (s := { s with pending := rest }) ⟨table, accounts⟩ free opened room l,
      decisionsHold_admitLoaf (s := { s with pending := rest }) decisions l sh.seq⟩
  exact files.2

end Sys2Proof.Machine
end

section
/-! PROOFS. What every settling leaves: the derived values as the rest makes them, and no drain over an empty table.
A command either ends in a settling, or leaves alone all that the derived values are made of. -/

namespace Sys2Proof.Machine

/-! ### The parts of a settling -/

/-- The line's own checks: what R76, R85, R177 and R180 make of it. -/
def settleLine (before s : State) : State :=
  settleDrain (settleStart (checkNoLanes before (forLanes stopIdleBlade s)))

/-- What an event starts in the blocks: a reindex, a changeover, a purge. -/
def settleBlocks (h : Nat) (s : State) : State :=
  settlePurge h (settleChangeover (settleReindex (forLanes stopIdleBlade s)))

/-- The retrial timers, the derived values that a grant looks at, and the grant. -/
def settleGrants (h : Nat) (s : State) : State :=
  settleChangeover (settleGrant h (refresh (forLanes settleRetrial s)))

theorem settle_eq (before : State) (h : Nat) (s : State) :
    settle before h s = evaluateGates (refresh (settleGrants h (settleBlocks h (settleLine before s)))) := rfl

theorem settleBlocks_frame (h : Nat) (s : State) :
    (settleBlocks h s).without { hd := true, arb := true, tie := true, crm := true } =
      s.without { hd := true, arb := true, tie := true, crm := true } := by
  unfold settleBlocks
  rw [settlePurge_without _ _ rfl rfl, settleChangeover_without _ rfl, settleReindex_without _ rfl]
  exact without_forLanes s _ fun l t => stopIdleBlade_without t l rfl

theorem settleGrant_lc (h : Nat) (s : State) : (settleGrant h s).lc = s.lc :=
  kept_lc (settleGrant_without (b := { trk := true, arb := true }) s h rfl rfl) rfl rfl

theorem settleGrants_standing (h : Nat) (s : State) : (settleGrants h s).lc.standing = s.lc.standing := by
  unfold settleGrants
  rw [kept_lc (settleChangeover_without (b := { arb := true }) _ rfl) rfl rfl, settleGrant_lc, refresh_standing]
  exact congrArg Lc.standing (forLanes_lc (fun l t => settleRetrial_without t l rfl) s)

/-! ### A drain waits for a record (R180) -/

theorem tableCount_of_trk {s t : State} (h : t.trk = s.trk) : t.tableCount = s.tableCount :=
  congrArg (fun t : Trk => t.records.length) h

theorem tableCount_ne_zero_of_post {s : State} {r : Rec} (h : r ∈ s.trk.post) : s.tableCount ≠ 0 := by
  have : r ∈ s.records := (mem_records_iff s r).2 (.inr h)
  exact fun empty => List.not_mem_nil (List.length_eq_zero_iff.1 empty ▸ this)

theorem settleGrant_table {s : State} (h : Nat) (records : s.tableCount ≠ 0) : (settleGrant h s).tableCount ≠ 0 := by
  unfold settleGrant
  (repeat' split)
  · exact tableCount_ne_zero_of_post (List.mem_append_right _ (List.mem_singleton_self _))
  · exact records
  · exact records
  · exact records

theorem refresh_trk (s : State) : (refresh s).trk = s.trk := rfl

theorem settleGrants_table {s : State} (h : Nat) (records : s.tableCount ≠ 0) : (settleGrants h s).tableCount ≠ 0 := by
  have frame := without_forLanes (b := { hd := true }) s settleRetrial fun l t => settleRetrial_without t l rfl
  unfold settleGrants
  rw [tableCount_of_trk (kept_trk (settleChangeover_without (b := { arb := true }) _ rfl) rfl)]
  refine settleGrant_table h ?_
  rwa [tableCount_of_trk (refresh_trk _), tableCount_of_trk (kept_trk frame rfl)]

theorem settleDrain_drains {s : State} (h : (settleDrain s).lc.state = .draining) : (settleDrain s).tableCount ≠ 0 := by
  unfold settleDrain at h ⊢
  split
  · next due =>
    obtain ⟨-, ready, -⟩ := enterReady_taken s.lc.cause s
    rw [if_pos due, ready] at h
    exact nomatch h
  · next goesOn =>
    rw [if_neg goesOn] at h
    exact fun empty => goesOn ⟨h, empty⟩

theorem state_of_standing {a b : Lc} (h : a.standing = b.standing) : a.state = b.state := congrArg Prod.fst h

/-- After the line's own checks a settling moves neither the line state nor empties the table. -/
theorem settle_line (before : State) (h : Nat) (u : State) :
    (settle before h u).lc.state = (settleLine before u).lc.state := by
  have granted : ∀ v, (evaluateGates (refresh (settleGrants h v))).lc.state = v.lc.state := fun v => by
    rw [evaluateGates_lc]
    exact (state_of_standing (refresh_standing _)).trans (state_of_standing (settleGrants_standing h v))
  rw [settle_eq, granted, kept_lc (settleBlocks_frame h (settleLine before u)) rfl rfl]

theorem settle_table (before : State) (h : Nat) (u : State) (records : (settleLine before u).tableCount ≠ 0) :
    (settle before h u).tableCount ≠ 0 := by
  have granted : ∀ v : State, v.tableCount ≠ 0 → (evaluateGates (refresh (settleGrants h v))).tableCount ≠ 0 := by
    intro v hv
    rw [State.tableCount, evaluateGates_records, ← State.tableCount, tableCount_of_trk (refresh_trk _)]
    exact settleGrants_table h hv
  rw [settle_eq]
  refine granted _ ?_
  rwa [tableCount_of_trk (kept_trk (settleBlocks_frame h (settleLine before u)) rfl)]

/-- A settling leaves no line DRAINING over an empty table. -/
theorem settle_drains (before : State) (h : Nat) (u : State) (draining : (settle before h u).lc.state = .draining) :
    (settle before h u).tableCount ≠ 0 := by
  refine settle_table before h u ?_
  rw [settle_line] at draining
  rw [settleLine] at draining ⊢
  exact settleDrain_drains draining

/-! ### The derived values (R33, R34, R64, R65, R91, R183) -/

theorem settle_reserve (before : State) (h : Nat) (u : State) : ReserveFollows (settle before h u) := by
  rw [settle_eq]
  obtain ⟨-, reserve, -⟩ := evaluateGates_follows (refresh (settleGrants h (settleBlocks h (settleLine before u))))
  exact reserve

theorem refresh_withhold (s : State) : (refresh s).arb.withhold = (refresh s).withholdDue := rfl

/-- The ceiling is made of the admitting lanes, the settings, the slots and the assignments. -/
theorem lineCeiling_congr {s t : State} (admits : ∀ l, (t.lane l).admitting = (s.lane l).admitting)
    (settings : t.pst.settings = s.pst.settings) (slots : t.pst.slots = s.pst.slots)
    (assign : t.pst.assign = s.pst.assign) : t.lineCeiling = s.lineCeiling := by
  simp only [State.lineCeiling, State.laneProfile, State.profile, State.set, admits, settings, slots, assign]

theorem refresh_ceiling (s : State) : (refresh s).lc.ceiling = (refresh s).lineCeiling :=
  (lineCeiling_congr (t := refresh s) (s := s) (fun _ => rfl) rfl rfl rfl).symm

theorem evaluateGates_withhold {s : State} (h : s.arb.withhold = s.withholdDue) :
    (evaluateGates s).arb.withhold = (evaluateGates s).withholdDue := by
  have kept := gates_keep s
  unfold State.withholdDue at h ⊢
  rw [kept_arb kept rfl, kept_bag kept rfl, kept_tie kept rfl, kept_crm kept rfl, evaluateGates_lc, h]

theorem evaluateGates_ceiling {s : State} (h : s.lc.ceiling = s.lineCeiling) :
    (evaluateGates s).lc.ceiling = (evaluateGates s).lineCeiling := by
  have pst := kept_pst (gates_keep s) rfl rfl
  rw [evaluateGates_lc, h]
  exact (lineCeiling_congr (fun l => by rw [evaluateGates_lane]) (by rw [pst]) (by rw [pst]) (by rw [pst])).symm

/-- Every settling leaves the derived values as the rest makes them (log entry 41). -/
theorem settle_derived (before : State) (h : Nat) (u : State) : DerivedHold (settle before h u) := by
  refine derivedHold_computed (settle_gates before h u) (settle_reserve before h u) ?_ ?_ (settle_target before h u)
  · rw [settle_eq]
    exact evaluateGates_withhold (refresh_withhold _)
  · rw [settle_eq]
    exact evaluateGates_ceiling (refresh_ceiling _)

/-! ### Settled states, and changes that the derived values do not feel -/

/-- What a settling leaves. -/
def Settled (t : State) : Prop := DerivedHold t ∧ (t.lc.state = .draining → t.tableCount ≠ 0)

theorem settle_settled (before : State) (h : Nat) (u : State) : Settled (settle before h u) :=
  ⟨settle_derived before h u, settle_drains before h u⟩

/-- Two states have the same derived values, and these are made of the same things; the line is the same, and so is the
number of records. -/
structure Alike (s t : State) : Prop where
  gates : ∀ l, t.closedBy l = s.closedBy l
  due : t.withholdDue = s.withholdDue
  ceiling : t.lineCeiling = s.lineCeiling
  target : t.demandTarget = s.demandTarget
  table : t.tableCount = s.tableCount
  closed : t.trk.closedBy = s.trk.closedBy
  held : t.trk.reserveHeld = s.trk.reserveHeld
  withhold : t.arb.withhold = s.arb.withhold
  line : t.lc.state = s.lc.state
  inForce : t.lc.ceiling = s.lc.ceiling
  aimed : t.lc.target = s.lc.target

theorem Alike.refl (s : State) : Alike s s := ⟨fun _ => rfl, rfl, rfl, rfl, rfl, rfl, rfl, rfl, rfl, rfl, rfl⟩

theorem Alike.trans {s t u : State} (a : Alike s t) (b : Alike t u) : Alike s u where
  gates l := (b.gates l).trans (a.gates l)
  due := b.due.trans a.due
  ceiling := b.ceiling.trans a.ceiling
  target := b.target.trans a.target
  table := b.table.trans a.table
  closed := b.closed.trans a.closed
  held := b.held.trans a.held
  withhold := b.withhold.trans a.withhold
  line := b.line.trans a.line
  inForce := b.inForce.trans a.inForce
  aimed := b.aimed.trans a.aimed

theorem Alike.derived {s t : State} (a : Alike s t) (h : DerivedHold s) : DerivedHold t := by
  obtain ⟨gates, reserve, ⟨withhold, -⟩, ⟨ceiling, -⟩, target, -⟩ := h
  refine derivedHold_computed (fun l => ?_) ?_ ?_ ?_ ?_
  · obtain ⟨gate, -⟩ := gates l
    rw [a.closed, a.gates, gate]
  · unfold ReserveFollows at reserve ⊢
    rwa [a.held, a.closed]
  · rw [a.withhold, a.due, withhold]
  · rw [a.inForce, a.ceiling, ceiling]
  · rw [a.aimed, a.target, target]

theorem Alike.settled {s t : State} (a : Alike s t) (h : Settled s) : Settled t := by
  obtain ⟨derived, drains⟩ := h
  refine ⟨a.derived derived, fun draining => ?_⟩
  rw [a.table]
  exact drains (a.line ▸ draining)

/-- What a command leaves: the derived values and what they are made of as they were, or all of them settled. -/
def Follows (s t : State) : Prop := Alike s t ∨ Settled t

theorem Follows.refl (s : State) : Follows s s := .inl (.refl s)

theorem Follows.alike {s t u : State} (h : Follows s t) (a : Alike t u) : Follows s u :=
  h.imp (·.trans a) a.settled

theorem Follows.of_settle (s before : State) (h : Nat) (u : State) : Follows s (settle before h u) :=
  .inr (settle_settled before h u)

theorem Follows.trans {s t u : State} (h : Follows s t) (k : Follows t u) : Follows s u :=
  k.elim h.alike .inr

end Sys2Proof.Machine
end

section
/-! PROOFS. Every command but the coming and the loss of power leaves the derived values and what they are made of as
they were, or ends in a settling. -/

namespace Sys2Proof.Machine

/-! ### Changes that the derived values do not feel -/

/-- The values that the derived values are made of. -/
theorem Alike.of {s t : State} (admits : ∀ l, (t.lane l).admitting = (s.lane l).admitting := by intros; rfl)
    (blades : ∀ l, (t.head l).blade = (s.head l).blade := by intros; rfl)
    (lengths : ∀ l, (t.queue l).length = (s.queue l).length := by intros; rfl)
    (ceilings : ∀ l : Lane, laneCeiling t.set.rmax[l] (t.laneProfile l).t =
      laneCeiling s.set.rmax[l] (s.laneProfile l).t := by intros; rfl)
    (changeover : t.arb.changeover ≠ .none ↔ s.arb.changeover ≠ .none := by rfl)
    (table : t.tableCount = s.tableCount := by rfl)
    (track : t.sru.state = s.sru.state := by rfl) (line : t.lc.state = s.lc.state := by rfl)
    (opened : t.tot.opened.isSome = s.tot.opened.isSome := by rfl)
    (flight : t.arb.flight = s.arb.flight := by rfl) (queue : t.crm.queue = s.crm.queue := by rfl)
    (bag : t.bag.state = s.bag.state := by rfl) (tie : t.tie.state = s.tie.state := by rfl)
    (settings : t.set.laneWindow = s.set.laneWindow ∧ t.set.lineMax = s.set.lineMax ∧ t.set.crawl = s.set.crawl := by
      exact ⟨rfl, rfl, rfl⟩)
    (speeds : t.lc.setSpeed = s.lc.setSpeed ∧ t.lc.held = s.lc.held := by exact ⟨rfl, rfl⟩)
    (closed : t.trk.closedBy = s.trk.closedBy := by rfl) (held : t.trk.reserveHeld = s.trk.reserveHeld := by rfl)
    (withhold : t.arb.withhold = s.arb.withhold := by rfl) (inForce : t.lc.ceiling = s.lc.ceiling := by rfl)
    (aimed : t.lc.target = s.lc.target := by rfl) : Alike s t := by
  obtain ⟨window, top, crawl⟩ := settings
  obtain ⟨speed, frozen⟩ := speeds
  refine ⟨fun l => ?_, ?_, ?_, ?_, table, closed, held, withhold, line, inForce, aimed⟩
  · have inFlight : t.flightOf l = s.flightOf l := by unfold State.flightOf; rw [flight]
    have gap : t.crm.gapHeld l = s.crm.gapHeld l := by unfold Crm.gapHeld; rw [queue]
    have reserve : t.reserve = s.reserve := by simp only [State.reserve, admits]
    unfold State.closedBy State.gateConditions State.preMerge State.free
    rw [line, track, admits, opened, lengths, inFlight, window, reserve, table, gap, blades]
  · simp only [State.withholdDue, changeover, bag, tie, queue, line]
  · simp only [State.lineCeiling, admits, ceilings, top]
  · simp only [State.demandTarget, line, track, speed, frozen, inForce, crawl]

variable (s : State)

theorem onLp_alike (f : Lp → Lp) : Alike s (s.onLp f) := .of

theorem raise_alike (k : Kind) (x : List Byte) : Alike s (raise k x s) := onLp_alike s _

theorem replyReady_alike (r : Reply) : Alike s (replyReady r s) := onLp_alike s _

theorem onHead_alike (l : Lane) (f : Head → Head) (blade : (f (s.head l)).blade = (s.head l).blade) :
    Alike s (onHead l f s) := by
  refine .of (blades := fun k => ?_)
  rw [head_onHead]
  split
  · next same => rw [same, blade]
  · rfl

theorem onLc_alike (f : Lc → Lc) (state : (f s.lc).state = s.lc.state := by rfl)
    (speeds : (f s.lc).setSpeed = s.lc.setSpeed ∧ (f s.lc).held = s.lc.held := by exact ⟨rfl, rfl⟩)
    (ceiling : (f s.lc).ceiling = s.lc.ceiling := by rfl) (target : (f s.lc).target = s.lc.target := by rfl) :
    Alike s (s.onLc f) :=
  .of (line := state) (speeds := speeds) (inForce := ceiling) (aimed := target)

theorem onTie_alike (f : Tie → Tie) (state : (f s.tie).state = s.tie.state := by rfl) : Alike s (s.onTie f) :=
  .of (tie := state)

theorem onCrm_alike (f : Crm → Crm) (queue : (f s.crm).queue = s.crm.queue := by rfl) : Alike s (s.onCrm f) :=
  .of (queue := queue)

theorem onSru_alike (f : Sru → Sru) (state : (f s.sru).state = s.sru.state := by rfl) : Alike s (s.onSru f) :=
  .of (track := state)

theorem onPst_alike (f : Pst → Pst) (settings : (f s.pst).settings = s.pst.settings := by rfl)
    (slots : (f s.pst).slots = s.pst.slots := by rfl) (assign : (f s.pst).assign = s.pst.assign := by rfl) :
    Alike s (s.onPst f) := by
  refine .of (ceilings := fun l => ?_) (settings := ?_)
  · simp only [State.set, State.laneProfile, State.profile, onPst_pst, settings, slots, assign]
  · simp only [State.set, onPst_pst, settings, and_self]

theorem Alike.ite {s t u : State} {c : Prop} [Decidable c] (h : c → Alike s t) (k : ¬c → Alike s u) :
    Alike s (if c then t else u) := by
  split
  · next holds => exact h holds
  · next fails => exact k fails

theorem records_alike (p : Rec → Bool) (f : Rec → Rec) : Alike s (mapRecords p f s) :=
  .of (lengths := fun l => by simp [State.queue, mapRecords, mapIf])
    (table := by simp [State.tableCount, records_mapRecords, mapIf])

/-! ### Requests -/

variable {s}

/-- A command ends in a next state that has the derived values as they were, or settled. -/
def Ends (s : State) (o : Host.Outcome State Fault Refusal) : Prop := ∃ t, o = .next t ∧ Follows s t

theorem whenPowered_ends {f : State → State} (h : Follows s (f s)) : Ends s (whenPowered s f) := by
  refine ⟨_, rfl, ?_⟩
  split
  · exact h
  · exact .refl s

theorem Follows.ite {t u : State} {c : Prop} [Decidable c] (h : c → Follows s t) (k : ¬c → Follows s u) :
    Follows s (if c then t else u) := by
  split
  · next holds => exact h holds
  · next fails => exact k fails

theorem Follows.reply {u : State} {a : Answer} (kind tag : Byte) (up : Alike s u) (h : Follows u a.state) :
    Follows s (giveReply kind tag a) :=
  (Follows.trans (.inl up) h).alike (replyReady_alike _ _)

theorem takeUp_alike {r : Req} {u : State} (up : takeUp r s = some u) : Alike s u := by
  obtain ⟨-, ⟨x, rfl⟩, -⟩ := takeUp_turns (sure := True) (calm := True) s up
  exact onLp_alike s fun _ => x

/-- A request whose owner, from any state, makes a change of this kind. -/
theorem serve_ends {kind tag : Byte} {len : Nat} {owner : List Byte → State → Answer} {p : List Byte}
    (h : ∀ u, Follows u (owner p u).state) : Ends s (serve kind len owner tag p s) := by
  refine whenPowered_ends ?_
  split
  · exact .refl s
  · next u up =>
    refine Follows.reply kind tag (takeUp_alike up) ?_
    split
    · exact h u
    · exact .refl u

theorem Follows.of_eq {t : State} (h : t = s) : Follows s t := h ▸ .refl s

end Sys2Proof.Machine
end

section
/-! PROOFS. What each command leaves of the derived values, and the conditions on the line and on the derived values
that every step keeps. -/

namespace Sys2Proof.Machine

variable {s t : State}

/-! ### The events -/

/-- Stations that are reached are settled one by one; with none reached nothing changes (R8). -/
theorem takeReached_follows (fuel h : Nat) (s : State) : Follows s (takeReached fuel h s) := by
  induction fuel generalizing h s with
  | zero => exact .refl s
  | succ fuel ih =>
    unfold takeReached
    (repeat' split)
    · exact .refl s
    · exact (Follows.of_settle ..).trans (ih ..)
    · exact .refl s
    · exact .refl s

theorem advance_follows (d : Nat) (s : State) : Follows s (advance d s) := by
  unfold advance
  dsimp only
  refine .ite (fun _ => .refl s) fun _ => .ite (fun _ => .of_settle ..) fun _ => ?_
  exact Follows.trans (.inl (onSru_alike s _)) (takeReached_follows _ _ _)

theorem countPulse_alike (src : LineSource) (s : State) : Alike s (countPulse src s) :=
  onSru_alike s _ (by cases src <;> rfl)

theorem lineEncoderPulse_ends (src : LineSource) (s : State) : Ends s (execLineEncoderPulse src s) := by
  refine whenPowered_ends (.ite (fun _ => ?_) fun _ => .inl (countPulse_alike src s))
  exact Follows.trans (.inl (countPulse_alike src s)) (advance_follows _ _)

theorem pacerAdvance_ends (ms : Nat) (s : State) : Ends s (execPacerAdvance ms s) := by
  refine whenPowered_ends (.ite (fun _ => ?_) fun _ => .refl s)
  exact Follows.trans (.inl (onSru_alike s _)) (advance_follows _ _)

theorem bladeEncoderPulse_ends (l : Lane) (s : State) : Ends s (execBladeEncoderPulse l s) :=
  whenPowered_ends (.ite (fun _ => .inl (onHead_alike s l _ rfl)) fun _ => .refl s)

theorem infeedLeadingEdge_ends (l : Lane) (s : State) : Ends s (execInfeedLeadingEdge l s) :=
  whenPowered_ends (.ite (fun _ => .of_settle ..) fun _ => .refl s)

theorem infeedTrailingEdge_ends (l : Lane) (s : State) : Ends s (execInfeedTrailingEdge l s) := by
  refine whenPowered_ends (.ite (fun _ => ?_) fun _ => .refl s)
  split
  · exact .of_settle ..
  · exact .refl s

theorem codeReaderAnswer_ends (bytes : List Byte) (s : State) : Ends s (execCodeReaderAnswer bytes s) := by
  have stray : Follows s (strayAnswer s) := by
    unfold strayAnswer onCounters
    exact .inl (onTie_alike s _)
  refine whenPowered_ends ?_
  dsimp only
  (repeat' split)
  · exact stray
  · exact stray
  · exact .of_settle ..

theorem changeoverTimerExpiry_ends (s : State) : Ends s (execChangeoverTimerExpiry s) := by
  refine whenPowered_ends ?_
  split
  · exact .of_settle ..
  · exact .refl s

theorem raiseStoreFault_alike (failed : BitVec 17) (s : State) : Alike s (raiseStoreFault failed s) := by
  unfold raiseStoreFault
  exact .ite (fun _ => .refl s) fun _ => raise_alike s _ _

theorem storeComplete_ends (failed : BitVec 17) (s : State) : Ends s (execStoreComplete failed s) := by
  refine whenPowered_ends ?_
  split
  · exact .refl s
  · next snap changed _ =>
    dsimp only
    refine .inl (Alike.trans ?_ (raiseStoreFault_alike _ _))
    refine Alike.trans ?_ (raise_alike _ _ _)
    exact Alike.trans (t := s.onNv (storedImage snap failed)) .of (onPst_alike _ _)

/-! ### The link's own events -/

theorem onLink_alike (f : LinkCounters → LinkCounters) (s : State) : Alike s (onLink f s) := by
  unfold onLink
  exact onLp_alike s _

theorem setReceiver_alike (x : Receiver) (s : State) : Alike s (setReceiver x s) := by
  unfold setReceiver
  exact onLp_alike s _

theorem placeRequest_alike (r : Req) (s : State) : Alike s (placeRequest r s) := by
  unfold placeRequest
  split
  · exact onLp_alike s _
  · exact onLink_alike _ s
  · exact onLink_alike _ s
  · exact onLp_alike s _

theorem endFrame_alike (n : Nat) (bs : List Byte) (s : State) : Alike s (endFrame n bs s) := by
  have taken : ∀ r, Alike s (takeFrame r s) := fun r => by
    unfold takeFrame
    dsimp only
    refine Alike.trans ?_ (placeRequest_alike r _)
    exact .ite (fun _ => (onLink_alike _ s).trans (onLc_alike _ _)) fun _ => onLink_alike _ s
  unfold endFrame
  exact .ite (fun _ => taken _) fun _ => onLink_alike _ s

theorem receiveByte_alike (b : Byte) (s : State) : Alike s (receiveByte b s) := by
  unfold receiveByte
  split
  · exact .ite (fun _ => setReceiver_alike _ s) fun _ => .refl s
  · dsimp only
    refine .ite (fun _ => setReceiver_alike _ s) fun _ => .ite (fun _ => ?_) fun _ => .ite (fun _ => ?_) fun _ => ?_
    · exact (onLink_alike _ s).trans (setReceiver_alike _ _)
    · exact (setReceiver_alike _ s).trans (endFrame_alike _ _ _)
    · exact setReceiver_alike _ s

theorem receiveBytes_alike (bs : List Byte) (s : State) : Alike s (receiveBytes bs s) := by
  induction bs generalizing s with
  | nil => exact .refl s
  | cons b bs ih => exact (receiveByte_alike b s).trans (ih _)

theorem truncate_alike (s : State) : Alike s (truncate s) := by
  unfold truncate
  split
  · exact .refl s
  · exact (onLink_alike _ s).trans (setReceiver_alike _ _)

theorem txIdle_alike (s : State) : Alike s (txIdle s) := by
  unfold txIdle
  exact onLp_alike s _

theorem frameSent_ends (s : State) : Ends s (execFrameSent s) := by
  refine whenPowered_ends ?_
  split
  · exact .refl s
  · next r _ =>
    refine .inl (Alike.trans ?_ (txIdle_alike _))
    unfold takeRate
    split
    · exact (onLp_alike s _).trans (truncate_alike _)
    · exact .refl s
  · exact .inl ((onLink_alike _ s).trans (txIdle_alike _))

theorem unknownKindRequest_ends (kind tag : Byte) (p : List Byte) (s : State) : Ends s (execUnknownKindRequest kind tag p s) := by
  refine whenPowered_ends (.ite (fun _ => .refl s) fun _ => ?_)
  split
  · exact .refl s
  · next u up => exact .reply kind tag (takeUp_alike up) (.refl u)

theorem restart_ends (tag : Byte) (p : List Byte) (s : State) : Ends s (execRestart tag p s) := by
  refine whenPowered_ends ?_
  split
  · exact .refl s
  · next u up => exact .ite (fun _ => .of_settle ..) fun _ => .reply 0x24 tag (takeUp_alike up) (.refl u)

theorem estopReleased_ends (s : State) : Ends s (execEstopReleased s) :=
  whenPowered_ends (.inl (onLc_alike s fun lc => { lc with estop := false }))

theorem clockTick_ends (s : State) : Ends s (execClockTick s) :=
  whenPowered_ends (.inl (onPst_alike s fun p => { p with clock := min Config.clockMax (p.clock + 1) }))

theorem purgeTimerExpiry_ends (s : State) : Ends s (execPurgeTimerExpiry s) := by
  refine whenPowered_ends (.ite (fun _ => .inl ?_) fun _ => .refl s)
  exact onCrm_alike s _

theorem settleTimerExpiry_ends (s : State) : Ends s (execSettleTimerExpiry s) := by
  refine whenPowered_ends (.ite (fun _ => .inl ?_) fun _ => .refl s)
  exact onCrm_alike s _

theorem frameReceived_ends (bytes : List Byte) (s : State) : Ends s (execFrameReceived bytes s) :=
  whenPowered_ends (.inl (receiveBytes_alike bytes s))

theorem interbyteTimeout_ends (s : State) : Ends s (execInterbyteTimeout s) :=
  whenPowered_ends (.inl (truncate_alike s))

/-! ### The events that end in a settling -/

theorem windowEnd_ends (s : State) : Ends s (execWindowEnd s) := by
  refine whenPowered_ends ?_
  exact .of_settle ..

theorem pocketArrival_ends (l : Lane) (s : State) : Ends s (execPocketArrival l s) := by
  refine whenPowered_ends (.ite (fun _ => ?_) fun _ => .refl s)
  exact .of_settle ..

theorem mergeReleaseEdge_ends (s : State) : Ends s (execMergeReleaseEdge s) := by
  refine whenPowered_ends ?_
  exact .of_settle ..

theorem exitArrival_ends (s : State) : Ends s (execExitArrival s) := by
  refine whenPowered_ends ?_
  exact .of_settle ..

theorem chuteArrival_ends (s : State) : Ends s (execChuteArrival s) := by
  refine whenPowered_ends ?_
  exact .of_settle ..

theorem bagOpenSignal_ends (s : State) : Ends s (execBagOpenSignal s) := by
  refine whenPowered_ends ?_
  exact .of_settle ..

theorem estopAsserted_ends (s : State) : Ends s (execEstopAsserted s) := by
  refine whenPowered_ends ?_
  exact .of_settle ..

theorem weighAnswer_ends (tray : Target) (load : Nat) (s : State) : Ends s (execWeighAnswer tray load s) := by
  refine whenPowered_ends (.ite (fun _ => ?_) fun _ => .refl s)
  exact .of_settle ..

theorem demandRamp_ends (ms : Nat) (s : State) : Ends s (execDemandRamp ms s) := by
  refine whenPowered_ends ?_
  exact .of_settle ..

theorem holdoverTimerExpiry_ends (s : State) : Ends s (execHoldoverTimerExpiry s) := by
  refine whenPowered_ends (.ite (fun _ => ?_) fun _ => .refl s)
  exact .of_settle ..

theorem spinupTimerExpiry_ends (l : Lane) (s : State) : Ends s (execSpinupTimerExpiry l s) := by
  refine whenPowered_ends (.ite (fun _ => ?_) fun _ => .refl s)
  exact .of_settle ..

theorem retrialTimerExpiry_ends (l : Lane) (s : State) : Ends s (execRetrialTimerExpiry l s) := by
  refine whenPowered_ends (.ite (fun _ => ?_) fun _ => .refl s)
  exact .of_settle ..

theorem bagConfirmTimerExpiry_ends (s : State) : Ends s (execBagConfirmTimerExpiry s) := by
  refine whenPowered_ends (.ite (fun _ => ?_) fun _ => .refl s)
  exact .of_settle ..

theorem reindexTimerExpiry_ends (s : State) : Ends s (execReindexTimerExpiry s) := by
  refine whenPowered_ends (.ite (fun _ => ?_) fun _ => .refl s)
  exact .of_settle ..

theorem weighTimerExpiry_ends (s : State) : Ends s (execWeighTimerExpiry s) := by
  refine whenPowered_ends (.ite (fun _ => ?_) fun _ => .refl s)
  exact .of_settle ..

theorem startLimitExpiry_ends (s : State) : Ends s (execStartLimitExpiry s) := by
  refine whenPowered_ends (.ite (fun _ => ?_) fun _ => .refl s)
  exact .of_settle ..

theorem silenceTimerExpiry_ends (s : State) : Ends s (execSilenceTimerExpiry s) := by
  refine whenPowered_ends (.ite (fun _ => ?_) fun _ => .refl s)
  exact .of_settle ..

/-! ### The owners of the requests -/

theorem Follows.settled {before u : State} {h : Nat} {fields : List Byte} :
    Follows s (Answer.okay (settle before h u) fields).state := by
  dsimp only [Answer.okay]
  exact .of_settle ..

theorem answerLine_follows (before u : State) : Follows s (answerLine before u).state := by
  unfold answerLine
  exact .settled

theorem Alike.okay {u : State} {fields : List Byte} (h : Alike s u) : Follows s (Answer.okay u fields).state := .inl h

theorem ownSetClock_follows (p : List Byte) (s : State) : Follows s (ownSetClock p s).state := by
  unfold ownSetClock
  dsimp only
  split
  · exact .refl s
  · exact (onPst_alike s _).okay

/-- A slot not in use gives no lane its ceiling (R163). -/
theorem writeSlot_alike {i : Slot} (x : Option Profile) (s : State) (free : s.slotInUse i = false) :
    Alike s (writeSlot i x s) := by
  have unassigned : ∀ l : Lane, s.pst.assign[l] ≠ some i := by
    simp only [State.slotInUse, Bool.or_eq_false_iff, List.any_eq_false, decide_eq_true_iff] at free
    exact fun l => free.1 l (mem_lanes l)
  unfold writeSlot
  by_cases same : s.pst.slots[i] = x
  · have e : (s.onPst fun p => if p.slots[i] = x then p else
        { p with slots := putAt p.slots i x, slotUnsaved := putAt p.slotUnsaved i true, store := p.store.touch (i.val + 1) }) =
        s := by
      rw [State.onPst, if_pos same]
    rw [e]
    exact .refl s
  · have e : (s.onPst fun p => if p.slots[i] = x then p else
        { p with slots := putAt p.slots i x, slotUnsaved := putAt p.slotUnsaved i true, store := p.store.touch (i.val + 1) }) =
        s.onPst fun p =>
        { p with slots := putAt p.slots i x, slotUnsaved := putAt p.slotUnsaved i true, store := p.store.touch (i.val + 1) } := by
      rw [State.onPst, if_neg same]; rfl
    rw [e]
    refine .of (ceilings := fun l => ?_)
    have profile : ∀ k, s.pst.assign[l] = some k → (putAt s.pst.slots i x)[k] = s.pst.slots[k] := fun k assigned =>
      getElem_putAt_ne _ _ fun same => unassigned l (same ▸ assigned)
    unfold State.laneProfile State.profile
    simp only [State.set, onPst_pst]
    cases assigned : s.pst.assign[l] with
    | none => rfl
    | some k =>
      dsimp only
      rw [profile k assigned]

theorem ownPutProfile_follows (p : List Byte) (s : State) : Follows s (ownPutProfile p s).state := by
  have put : ∀ i x, Follows s (putSlot i x s).state := fun i x => by
    unfold putSlot
    split
    · exact .refl s
    · split
      · exact .refl s
      · next free => exact (writeSlot_alike _ s (Bool.eq_false_iff.2 free)).okay
  unfold ownPutProfile
  split
  · exact put _ _
  · exact .refl s

theorem ownSetLine_follows (p : List Byte) (s : State) : Follows s (ownSetLine p s).state := by
  unfold ownSetLine
  (repeat' split)
  · exact .refl s
  · exact .settled
  · exact .refl s
  · exact .refl s

theorem ownStore_follows (p : List Byte) (s : State) : Follows s (ownStore p s).state := by
  unfold ownStore
  split
  · exact (onPst_alike s _).okay
  · exact .refl s

theorem touchSettings_alike (s : State) : Alike s (touchSettings s) := onPst_alike s _

theorem takeChallenge_alike (old new : Nat) (s : State) : Alike s (takeChallenge old new s) :=
  .ite (fun _ => .refl s) fun _ => (onTie_alike s _).trans (onTie_alike _ _)

theorem ownSetChallenge_follows (p : List Byte) (s : State) : Follows s (ownSetChallenge p s).state := by
  unfold ownSetChallenge
  dsimp only
  split
  · refine .inl (.ite (fun _ => .refl s) fun _ => ?_)
    refine Alike.trans (Alike.trans ?_ (takeChallenge_alike _ _ _)) (touchSettings_alike _)
    exact .of
  · exact .refl s

theorem ownStart_follows (p : List Byte) (s : State) : Follows s (ownStart p s).state := by
  unfold ownStart
  split
  · exact .refl s
  · exact answerLine_follows ..

theorem ownStop_follows (p : List Byte) (s : State) : Follows s (ownStop p s).state := by
  unfold ownStop
  (repeat' split)
  · exact answerLine_follows ..
  · exact .refl s
  · exact answerLine_follows ..

theorem ownSetReference_follows (p : List Byte) (s : State) : Follows s (ownSetReference p s).state := by
  unfold ownSetReference
  split
  · exact .settled
  · exact .refl s

theorem ownSetLanes_follows (p : List Byte) (s : State) : Follows s (ownSetLanes p s).state := by
  unfold ownSetLanes
  dsimp only
  split
  · exact .refl s
  · exact .settled

theorem ownSetLaneProfile_follows (p : List Byte) (s : State) : Follows s (ownSetLaneProfile p s).state := by
  unfold ownSetLaneProfile
  (repeat' split)
  · exact .settled
  · exact .refl s
  · exact .refl s

theorem ownClearLane_follows (p : List Byte) (s : State) : Follows s (ownClearLane p s).state := by
  unfold ownClearLane
  (repeat' split)
  · exact .settled
  · exact .refl s
  · exact .refl s
  · exact .refl s

theorem ownPurge_follows (p : List Byte) (s : State) : Follows s (ownPurge p s).state := by
  unfold ownPurge
  (repeat' split)
  · exact .settled
  · exact .refl s
  · exact .refl s

theorem ownOpenShift_follows (p : List Byte) (s : State) : Follows s (ownOpenShift p s).state := by
  unfold ownOpenShift
  dsimp only
  (repeat' split)
  · exact .refl s
  · exact .refl s
  · exact .refl s
  · exact .settled

theorem ownCloseShift_follows (p : List Byte) (s : State) : Follows s (ownCloseShift p s).state := by
  unfold ownCloseShift
  dsimp only
  split
  · exact .settled
  · exact .refl s
  · exact .refl s

theorem ownClearTrack_follows (p : List Byte) (s : State) : Follows s (ownClearTrack p s).state := by
  unfold ownClearTrack
  split
  · exact .settled
  · exact .refl s

theorem ownRejectLoaf_follows (p : List Byte) (s : State) : Follows s (ownRejectLoaf p s).state := by
  unfold ownRejectLoaf
  split
  · exact .inl (records_alike s _ _)
  · exact .refl s

theorem ownSetNoticeMask_follows (p : List Byte) (s : State) : Follows s (ownSetNoticeMask p s).state :=
  (onLp_alike s (·.setMask (kindSet p))).okay

theorem ownClear_follows (p : List Byte) (s : State) : Follows s (ownClear p s).state := by
  unfold ownClear
  exact .settled

theorem ownHalt_follows (p : List Byte) (s : State) : Follows s (ownHalt p s).state := answerLine_follows ..

theorem ownSetSpeed_follows (p : List Byte) (s : State) : Follows s (ownSetSpeed p s).state := by
  unfold ownSetSpeed
  dsimp only
  exact .of_settle ..

theorem ownLoadBags_follows (p : List Byte) (s : State) : Follows s (ownLoadBags p s).state := by
  unfold ownLoadBags
  dsimp only
  exact .of_settle ..

theorem ownLoadClips_follows (p : List Byte) (s : State) : Follows s (ownLoadClips p s).state := by
  unfold ownLoadClips
  dsimp only
  exact .of_settle ..

theorem ownResetCodecheck_follows (p : List Byte) (s : State) : Follows s (ownResetCodecheck p s).state :=
  (onTie_alike s fun t => { t with counters := ⟨0, 0, 0, 0, 0⟩, capture := none }).okay

/-! ### Every command -/

/-- What every command but the coming and the loss of power leaves of the derived values. -/
theorem exec_ends {c : Instr} (on : ∀ e, c ≠ .powerOn e) (off : ∀ n d, c ≠ .powerLoss n d) (s : State) :
    Ends s (exec c s) := by
  have request := fun {kind len owner tag p} => serve_ends (s := s) (kind := kind) (len := len) (owner := owner)
    (tag := tag) (p := p)
  cases c with
  | powerOn e => exact absurd rfl (on e)
  | powerLoss n d => exact absurd rfl (off n d)
  | infeedLeadingEdge l => exact infeedLeadingEdge_ends l s
  | lineEncoderPulse src => exact lineEncoderPulse_ends src s
  | pacerAdvance ms => exact pacerAdvance_ends ms s
  | bladeEncoderPulse l => exact bladeEncoderPulse_ends l s
  | windowEnd => exact windowEnd_ends s
  | infeedTrailingEdge l => exact infeedTrailingEdge_ends l s
  | pocketArrival l => exact pocketArrival_ends l s
  | mergeReleaseEdge => exact mergeReleaseEdge_ends s
  | exitArrival => exact exitArrival_ends s
  | chuteArrival => exact chuteArrival_ends s
  | bagOpenSignal => exact bagOpenSignal_ends s
  | estopAsserted => exact estopAsserted_ends s
  | estopReleased => exact estopReleased_ends s
  | codeReaderAnswer bytes => exact codeReaderAnswer_ends bytes s
  | weighAnswer tray load => exact weighAnswer_ends tray load s
  | frameReceived bytes => exact frameReceived_ends bytes s
  | interbyteTimeout => exact interbyteTimeout_ends s
  | frameSent => exact frameSent_ends s
  | clockTick => exact clockTick_ends s
  | demandRamp ms => exact demandRamp_ends ms s
  | holdoverTimerExpiry => exact holdoverTimerExpiry_ends s
  | spinupTimerExpiry l => exact spinupTimerExpiry_ends l s
  | retrialTimerExpiry l => exact retrialTimerExpiry_ends l s
  | bagConfirmTimerExpiry => exact bagConfirmTimerExpiry_ends s
  | changeoverTimerExpiry => exact changeoverTimerExpiry_ends s
  | reindexTimerExpiry => exact reindexTimerExpiry_ends s
  | purgeTimerExpiry => exact purgeTimerExpiry_ends s
  | settleTimerExpiry => exact settleTimerExpiry_ends s
  | weighTimerExpiry => exact weighTimerExpiry_ends s
  | startLimitExpiry => exact startLimitExpiry_ends s
  | silenceTimerExpiry => exact silenceTimerExpiry_ends s
  | storeComplete failed => exact storeComplete_ends failed s
  | unknownKindRequest kind tag p => exact unknownKindRequest_ends kind tag p s
  | restart tag p => exact restart_ends tag p s
  | identify tag p => exact request fun u => .of_eq (ownIdentify_state u p)
  | readStatus tag p => exact request fun u => .of_eq (ownReadStatus_state u p)
  | setLink tag p => exact request fun u => .of_eq (ownSetLink_state u p)
  | readClock tag p => exact request fun u => .of_eq (ownReadClock_state u p)
  | getProfile tag p => exact request fun u => .of_eq (ownGetProfile_state u p)
  | getLine tag p => exact request fun u => .of_eq (ownGetLine_state u p)
  | readCodecheck tag p => exact request fun u => .of_eq (ownReadCodecheck_state u p)
  | readCrumb tag p => exact request fun u => .of_eq (ownReadCrumb_state u p)
  | readTotals tag p => exact request fun u => .of_eq (ownReadTotals_state u p)
  | readTrack tag p => exact request fun u => .of_eq (ownReadTrack_state u p)
  | setNoticeMask tag p => exact request fun u => ownSetNoticeMask_follows p u
  | clear tag p => exact request fun u => ownClear_follows p u
  | setClock tag p => exact request fun u => ownSetClock_follows p u
  | putProfile tag p => exact request fun u => ownPutProfile_follows p u
  | setLine tag p => exact request fun u => ownSetLine_follows p u
  | store tag p => exact request fun u => ownStore_follows p u
  | start tag p => exact request fun u => ownStart_follows p u
  | stop tag p => exact request fun u => ownStop_follows p u
  | halt tag p => exact request fun u => ownHalt_follows p u
  | setSpeed tag p => exact request fun u => ownSetSpeed_follows p u
  | setReference tag p => exact request fun u => ownSetReference_follows p u
  | setLanes tag p => exact request fun u => ownSetLanes_follows p u
  | setLaneProfile tag p => exact request fun u => ownSetLaneProfile_follows p u
  | clearLane tag p => exact request fun u => ownClearLane_follows p u
  | loadBags tag p => exact request fun u => ownLoadBags_follows p u
  | loadClips tag p => exact request fun u => ownLoadClips_follows p u
  | setChallenge tag p => exact request fun u => ownSetChallenge_follows p u
  | purge tag p => exact request fun u => ownPurge_follows p u
  | openShift tag p => exact request fun u => ownOpenShift_follows p u
  | closeShift tag p => exact request fun u => ownCloseShift_follows p u
  | rejectLoaf tag p => exact request fun u => ownRejectLoaf_follows p u
  | clearTrack tag p => exact request fun u => ownClearTrack_follows p u
  | resetCodecheck tag p => exact request fun u => ownResetCodecheck_follows p u

end Sys2Proof.Machine
end

section
/-! PROOFS. The conditions on the derived values and on the line that every step keeps. -/

namespace Sys2Proof.Machine

variable {s t : State}

/-! ### What a step leaves of the derived values -/

theorem tickTimers_alike (s : State) : Alike s (tickTimers s) := by
  refine .of (admits := fun l => ?_) (blades := fun l => ?_) (changeover := ?_)
  · simp only [State.lane, tickTimers, Fin.getElem_fin, Vector.getElem_map]
    rfl
  · simp [State.head, tickTimers]
  · cases h : s.arb.changeover <;> simp [tickTimers, Changeover.tick, h]

theorem pending_alike (s : State) (rest : List Instr) : Alike s { s with pending := rest } := .of

/-- A step leaves the derived values as they were or settled, but for a loss of power, after which all blocks stand at
their power-on values. -/
theorem step_follows (h : step s = .next t) : Follows s t ∨ ∃ nv rest, t = State.off nv rest := by
  unfold step at h
  split at h
  · obtain rfl := Host.Outcome.next.inj h
    unfold idle
    exact .inl (.ite (fun _ => .inl (tickTimers_alike s)) fun _ => .refl s)
  · next c rest _ =>
    by_cases on : ∃ e, c = .powerOn e
    · obtain ⟨e, rfl⟩ := on
      have h : execPowerOn e { s with pending := rest } = .next t := h
      obtain rfl := Host.Outcome.next.inj h
      exact .inl (.of_settle ..)
    · by_cases off : ∃ n d, c = .powerLoss n d
      · obtain ⟨n, d, rfl⟩ := off
        have h : execPowerLoss n d { s with pending := rest } = .next t := h
        obtain rfl := Host.Outcome.next.inj h
        dsimp only
        split
        · exact .inr ⟨_, _, rfl⟩
        · exact .inl (.inl (pending_alike s rest))
      · obtain ⟨u, e, follows⟩ := exec_ends (not_exists.1 on) (fun n d e => off ⟨n, d, e⟩) { s with pending := rest }
        obtain rfl := Host.Outcome.next.inj (e.symm.trans h)
        exact .inl (Follows.trans (.inl (pending_alike s rest)) follows)

/-! ### The derived values (R33, R34, R64, R65, R91, R183) -/

theorem off_derived (nv : Nonvolatile) (rest : List Instr) : DerivedHold (State.off nv rest) := by
  have same : Alike (State.off Nonvolatile.blank []) (State.off nv rest) := .of
  refine same.derived (derivedHold_computed ?_ ?_ ?_ ?_ ?_)
  · decide
  · unfold ReserveFollows; decide
  · decide
  · decide
  · decide

/-- While the reserve-held state stands, so does the flag of TABLE_RESERVE. -/
def ReserveFlagged (s : State) : Prop := s.trk.reserveHeld = true → s.flag .tableReserve = true

theorem evaluateGates_flag {k : Kind} (h : s.flag k = true) : (evaluateGates s).flag k = true := by
  unfold evaluateGates
  dsimp only
  split
  · rw [raise_flag]
    exact Bool.or_eq_true_iff.2 (.inl h)
  · exact h

theorem reserveFlagged_act {sure : Prop} (s t : State) (h : Act sure s t) (flagged : ReserveFlagged s) :
    ReserveFlagged t := by
  cases h
  case raise k x =>
    intro held
    rw [raise_flag]
    exact Bool.or_eq_true_iff.2 (.inl (flagged held))
  case trk x _ _ held => exact fun still => flagged (held still)
  case gates =>
    intro held
    obtain ⟨-, -, raised⟩ := evaluateGates_follows s
    cases stood : s.trk.reserveHeld
    · exact raised stood held
    · exact evaluateGates_flag (flagged stood)
  case retire r d _ =>
    intro held
    obtain ⟨⟨trk, -⟩, -⟩ := retireQuiet_as r d s
    rw [trk] at held
    rw [State.flag, kept_lp (retireQuiet_keeps r d s) rfl rfl]
    exact flagged held
  all_goals exact flagged

/-- Settles O10: a step leaves the derived values and what they are made of as they were, or ends in a settling, which
makes them anew; and only an evaluation of the gates sets the reserve-held state, with its flag. -/
theorem derivedKept : Obligations.DerivedKept := by
  intro s t derived h
  refine ⟨?_, fun clear held => ?_⟩
  · rcases step_follows h with (alike | ⟨settled, -⟩) | ⟨nv, rest, rfl⟩
    · exact alike.derived derived
    · exact settled
    · exact off_derived nv rest
  · refine step_keeps (sure := False) (calm := False) (P := ReserveFlagged) h nofun nofun (fun _ held => ?_)
      reserveFlagged_act (fun s x _ reserve flagged held => reserve held (flagged held)) (fun rest l sh _ _ _ held => ?_)
      (fun e rest held => nomatch held) (fun nv rest held => nomatch held) held
    · exact nomatch clear.symm.trans held
    · have stood : (admitLoaf l sh.seq { s with pending := rest }).trk.reserveHeld = s.trk.reserveHeld := by
        unfold admitLoaf countTrial
        dsimp only
        split <;> rfl
      exact nomatch clear.symm.trans (stood.symm.trans held)

/-! ### The line (R33, R175, R177, R180) -/

/-- The table is empty in READY and in a STARTING from READY. -/
def State.EmptyWhereWanted (s : State) : Prop := s.lc.WantsEmpty → s.tableCount = 0

theorem records_eq_nil {s : State} (h : s.tableCount = 0) : s.records = [] := List.length_eq_zero_iff.1 h

theorem emptyWhereWanted_act {sure : Prop} (s t : State) (h : Act sure s t) (empty : s.EmptyWhereWanted) :
    t.EmptyWhereWanted := by
  cases h with
  | lc x keeps => exact fun wants => (keeps wants).elim empty id
  | trk x queues post _ =>
    intro wants
    rw [← empty wants]
    simp [State.tableCount, State.records, Trk.records, queues, post]
  | gates =>
    intro wants
    rw [evaluateGates_lc] at wants
    rw [State.tableCount, evaluateGates_records]
    exact empty wants
  | records p f _ _ =>
    intro wants
    rw [State.tableCount, records_mapRecords, mapIf, List.length_map]
    exact empty wants
  | queue l f _ _ =>
    intro wants
    have none : s.records.length = 0 := empty wants
    rw [(records_perm s l).length_eq] at none
    rw [State.tableCount, (records_onQueue_map s l f).length_eq]
    simpa using none
  | grant r l candidate line => exact fun wants => absurd wants line
  | retract r held merged n =>
    intro wants
    have held : r ∈ s.records := (mem_records_iff s r).2 (.inr held)
    rw [records_eq_nil (empty wants)] at held
    exact nomatch held
  | retire r d held =>
    intro wants
    rw [kept_lc (retireQuiet_keeps r d s) rfl rfl] at wants
    rw [State.tableCount, retireQuiet_records, records_eq_nil (empty wants)]
    rfl
  | _ => exact empty

theorem emptyWhereWanted_of_line {s : State} (h : LineHolds s) : s.EmptyWhereWanted := by
  obtain ⟨-, ready, starting, -⟩ := h
  rintro (now | ⟨now, origin⟩)
  · exact ready now
  · exact starting now origin

theorem tableCount_of_powerOn {s : State} (h : s.trk = Trk.powerOn) : s.tableCount = 0 := by
  simp [State.tableCount, State.records, Trk.records, h, Trk.powerOn]

/-- A gate that is open with the derived values in force is that of a RUNNING line (R33). -/
theorem running_of_gateOpen {s : State} (h : DerivedHold s) {l : Lane} (gate : s.gateOpen l = true) :
    s.lc.state = .running := by
  obtain ⟨gates, -⟩ := h
  obtain ⟨-, first, -⟩ := gates l
  have clear : s.trk.closedBy[l] = 0 := by simpa [State.gateOpen] using gate
  by_contra other
  have fails := first.2 other
  rw [clear] at fails
  exact nomatch fails

/-- The gates' and the drain's conditions on the line. -/
theorem Follows.line {s t : State} (h : Follows s t) (line : LineHolds s) :
    (∀ l : Lane, t.gateOpen l = true → t.lc.state = .running) ∧ (t.lc.state = .draining → t.tableCount ≠ 0) := by
  obtain ⟨gates, -, -, drains⟩ := line
  rcases h with alike | ⟨derived, drained⟩
  · refine ⟨fun l gate => ?_, fun now => ?_⟩
    · rw [alike.line]
      rw [State.gateOpen, alike.closed] at gate
      exact gates l gate
    · rw [alike.table]
      exact drains (alike.line ▸ now)
  · exact ⟨fun l => running_of_gateOpen derived, drained⟩

/-- Settles O9: a step that moves the line or the table ends in a settling, and no act fills the table of a line that
wants it empty. -/
theorem lineKept : Obligations.LineKept := by
  intro s t line h
  have empty : t.EmptyWhereWanted := by
    refine step_keeps (P := State.EmptyWhereWanted) (sure := False) (calm := False) h nofun nofun
      (fun _ => emptyWhereWanted_of_line line) emptyWhereWanted_act (fun _ _ _ _ k => k)
      (fun rest l sh _ gate _ wants => ?_) (fun e rest _ => tableCount_of_powerOn rfl)
      fun nv rest _ => tableCount_of_powerOn rfl
    obtain ⟨gates, -⟩ := line
    rw [kept_lc (admitLoaf_keeps l sh.seq _) rfl rfl] at wants
    rcases wants with now | ⟨now, -⟩ <;> exact nomatch (gates l gate).symm.trans now
  obtain ⟨gates, drains⟩ : (∀ l : Lane, t.gateOpen l = true → t.lc.state = .running) ∧
      (t.lc.state = .draining → t.tableCount ≠ 0) := by
    rcases step_follows h with follows | ⟨nv, rest, rfl⟩
    · exact follows.line line
    · exact ⟨fun l => running_of_gateOpen (off_derived nv rest), nofun⟩
  exact ⟨gates, fun now => empty (.inl now), fun now origin => empty (.inr ⟨now, origin⟩), drains⟩

end Sys2Proof.Machine
end

section
/-! PROOFS. The machine as a whole: a step runs the front command, every command completes, a power-on leaves the reset
values, and the state after reset meets every condition. -/

namespace Sys2Proof.Machine

/-! ### Steps and commands (R170; log entries 2 and 5) -/

/-- Settles O1: by the definition of a step, over the queue of waiting commands. -/
theorem stepRunsTheFrontCommand : Obligations.StepRunsTheFrontCommand := by
  refine ⟨fun c rest s waiting => ?_, fun s empty on => ?_, fun s empty off => ?_⟩
  · simp [step, waiting]
  · simp [step, empty, idle, on]
  · simp [step, empty, idle, off]

/-- Every command but POWER_ON acts only on a part that has power. -/
theorem exec_whenPowered {c : Instr} (on : ∀ e, c ≠ .powerOn e) :
    ∃ f : State → State, ∀ s, exec c s = .next (if s.powered then f s else s) := by
  cases c with
  | powerOn e => exact absurd rfl (on e)
  | _ => exact ⟨_, fun _ => rfl⟩

/-- An act leaves the queue of waiting commands and the power alone. -/
theorem pending_act {sure : Prop} {s t : State} (h : Act sure s t) : t.pending = s.pending ∧ t.powered = s.powered := by
  cases h with
  | gates => exact ⟨kept_pending (gates_keep s), kept_powered (gates_keep s)⟩
  | retire r d _ => exact ⟨kept_pending (retireQuiet_keeps r d s), kept_powered (retireQuiet_keeps r d s)⟩
  | _ => exact ⟨rfl, rfl⟩

theorem acts_pending {sure : Prop} {s t : State} (h : Acts sure s t) : t.pending = s.pending ∧ t.powered = s.powered :=
  h.keeps (P := fun t => t.pending = s.pending ∧ t.powered = s.powered)
    (fun _ _ act k => ⟨(pending_act act).1.trans k.1, (pending_act act).2.trans k.2⟩) ⟨rfl, rfl⟩

theorem exec_pending {c : Instr} {s t : State} (h : exec c s = .next t) (on : ∀ e, c ≠ .powerOn e)
    (off : ∀ n d, c ≠ .powerLoss n d) : t.pending = s.pending ∧ t.powered = s.powered := by
  obtain ⟨u, begins, turns⟩ := exec_turns (sure := False) (calm := False) s nofun nofun h on off
  refine turns.keeps (P := fun t => t.pending = s.pending ∧ t.powered = s.powered)
    (fun _ _ act k => ⟨(pending_act act).1.trans k.1, (pending_act act).2.trans k.2⟩) (fun _ _ _ _ k => k) ?_
  rcases begins with rfl | ⟨l, sh, -, -, -, rfl⟩
  · exact ⟨rfl, rfl⟩
  · have kept := admitLoaf_keeps l sh.seq s
    exact ⟨kept_pending kept, kept_powered kept⟩

theorem exec_powerOn_pending {e : Bool} {s t : State} (h : exec (.powerOn e) s = .next t) : t.pending = s.pending :=
  (acts_pending (powerOn_acts (sure := False) h)).1

theorem exec_completes (c : Instr) (s : State) : ∃ t, exec c s = .next t ∧ t.pending = s.pending ∧
    ((∀ e, c ≠ .powerOn e) → (∀ n d, c ≠ .powerLoss n d) → t.powered = s.powered) ∧
    (s.powered = false → (∀ e, c ≠ .powerOn e) → t = s) := by
  by_cases isOn : ∃ e, c = .powerOn e
  · obtain ⟨e, rfl⟩ := isOn
    exact ⟨_, rfl, exec_powerOn_pending rfl, fun on => absurd rfl (on e), fun _ on => absurd rfl (on e)⟩
  · have on := not_exists.1 isOn
    obtain ⟨f, shape⟩ := exec_whenPowered on
    refine ⟨_, shape s, ?_, fun _ off => (exec_pending (shape s) on off).2, fun off _ => by simp [off]⟩
    by_cases isOff : ∃ n d, c = .powerLoss n d
    · obtain ⟨n, d, rfl⟩ := isOff
      rw [Host.Outcome.next.inj ((shape s).symm.trans (show exec (.powerLoss n d) s = .next _ from rfl))]
      split <;> rfl
    · exact (exec_pending (shape s) on fun n d e => isOff ⟨n, d, e⟩).1

theorem step_completes (s : State) : ∃ t, step s = .next t := by
  unfold step
  split
  · exact ⟨_, rfl⟩
  · next c rest _ =>
    obtain ⟨t, completes, -⟩ := exec_completes c { s with pending := rest }
    exact ⟨t, completes⟩

/-- Settles O2: every command but POWER_ON is guarded by the power, and its turns leave the queue of commands and the
power alone; a run is safe by induction on its steps. -/
theorem everyCommandCompletes : Obligations.EveryCommandCompletes := by
  refine ⟨exec_completes, fun n => ?_⟩
  induction n with
  | zero => exact fun s => ⟨s, rfl⟩
  | succ n ih =>
    intro s
    obtain ⟨t, next⟩ := step_completes s
    obtain ⟨u, run⟩ := ih t
    refine ⟨u, ?_⟩
    simpa [Host.Core.run, show Sys2Proof.core.step s = .next t from next] using run

/-! ### A settling of a part at rest -/

theorem modAt_self {α : Type} {n : Nat} {v : Vector α n} {i : Fin n} {f : α → α} (h : f v[i] = v[i]) : modAt v i f = v := by
  refine Vector.ext fun k hk => ?_
  rw [modAt]
  refine (getElem_putAt v i ⟨k, hk⟩ _).trans ?_
  split
  · next same => subst same; exact h
  · rfl

/-- A write to a lane that leaves its values is none. -/
theorem onLane_self {l : Lane} {f : LaneCtl → LaneCtl} {s : State} (h : f (s.lane l) = s.lane l) : onLane l f s = s := by
  have lanes : modAt s.hd.lanes l f = s.hd.lanes := modAt_self h
  show { s with hd := { s.hd with lanes := modAt s.hd.lanes l f } } = s
  rw [lanes]

theorem settleRetrial_self {l : Lane} {s : State} (never : s.mayRetry l = false) (stopped : (s.lane l).retrial = none) :
    settleRetrial l s = s := by
  refine onLane_self ?_
  rw [if_neg (by simp [never]), ← stopped]

/-- Every block stands at its power-on value under the settings in force. -/
structure State.AtPowerOn (s : State) : Prop where
  sru : ∃ a b c, s.sru = Sru.powerOn a b c
  lc : ∃ e, s.lc = Lc.powerOn s.set.lineMax e
  trk : s.trk = Trk.powerOn
  hd : ∃ n, s.hd = Hd.powerOn n
  arb : s.arb = Arb.powerOn
  bag : s.bag = Bag.powerOn
  tie : s.tie = Tie.powerOn
  crm : s.crm = Crm.powerOn
  tot : s.tot = Tot.powerOn
  window : 1 ≤ s.set.laneWindow

namespace State.AtPowerOn

variable {s : State} (h : s.AtPowerOn)
include h

theorem head (l : Lane) : s.head l = Head.powerOn := by
  obtain ⟨n, hd⟩ := h.hd
  simp [State.head, hd, Hd.powerOn]

theorem lane (l : Lane) : ∃ target, s.lane l = LaneCtl.powerOn target := by
  obtain ⟨n, hd⟩ := h.hd
  exact ⟨decide (l.val < n), by simp [State.lane, hd, Hd.powerOn]⟩

theorem line : s.lc.state = .ready := by
  obtain ⟨e, lc⟩ := h.lc
  rw [lc]; rfl

theorem admits (l : Lane) : (s.lane l).admitting = false := by
  obtain ⟨target, lane⟩ := h.lane l
  rw [lane]; rfl

theorem queue (l : Lane) : s.queue l = [] := by simp [State.queue, h.trk, Trk.powerOn]

theorem records : s.records = [] := by simp [State.records, Trk.records, h.trk, Trk.powerOn]

theorem ceiling : s.lineCeiling = s.set.lineMax := by simp [State.lineCeiling, h.admits]

theorem lc_eq : s.lc = { s.lc with ceiling := s.lineCeiling, target := 0, rampCarry := 0 } := by
  obtain ⟨e, lc⟩ := h.lc
  rw [h.ceiling, lc]
  rfl

theorem withhold : s.withholdDue = s.arb.withhold := by
  simp [State.withholdDue, h.arb, h.bag, h.tie, h.crm, h.line, Arb.powerOn, Bag.powerOn, Tie.powerOn, Crm.powerOn]

theorem closedBy (l : Lane) : s.closedBy l = 0x8F := by
  obtain ⟨a, b, c, sru⟩ := h.sru
  have reserve : s.reserve = 0 := by simp [State.reserve, h.admits]
  have free : s.free = 96 := by simp [State.free, State.tableCount, h.records, Config.tableSize]
  have window : 0 < s.set.laneWindow := h.window
  have gap : s.crm.gapHeld l = false := by simp [Crm.gapHeld, h.crm, Crm.powerOn, entryOf]
  have preMerge : s.preMerge l < s.set.laneWindow := by
    simpa [State.preMerge, h.queue, State.flightOf, h.arb, Arb.powerOn] using window
  simp [State.closedBy, State.gateConditions, h.line, h.admits, h.head, reserve, free, gap, preMerge, h.tot,
    Tot.powerOn, Head.powerOn, sru, Sru.powerOn, failing]

theorem blades : forLanes stopIdleBlade s = s :=
  forLanes_induction (P := fun t => t = s) (fun l t e => by
    obtain ⟨target, lane⟩ := h.lane l
    rw [e]
    simp [stopIdleBlade, lane, LaneCtl.powerOn, h.head, Head.powerOn]) rfl

theorem retrials : forLanes settleRetrial s = s :=
  forLanes_induction (P := fun t => t = s) (fun l t e => by
    obtain ⟨target, lane⟩ := h.lane l
    have never : s.mayRetry l = false := by simp [State.mayRetry, h.line]
    rw [e]
    exact settleRetrial_self never (by rw [lane]; rfl)) rfl

theorem target : refreshTarget s = s := by
  have zero : ∀ c, ({ s with lc := { s.lc with ceiling := c } } : State).demandTarget = 0 := fun c => by
    simp [State.demandTarget, h.line]
  obtain ⟨e, lc⟩ := h.lc
  have same := h.lc_eq
  unfold refreshTarget State.onLc
  simp only [zero]
  show { s with lc := _ } = s
  have carry : s.lc.rampCarry = 0 := by rw [lc]; rfl
  rw [carry, ite_self, ← same]

theorem pacer : refreshPacer s = s := by
  obtain ⟨a, b, c, sru⟩ := h.sru
  show { s with sru := _ } = s
  rw [sru]
  exact congrArg (fun x => ({ s with sru := x } : State)) sru.symm

theorem demands : refreshBlades s = s := by
  have demand : ∀ l : Fin 4, ({ s.hd.heads[l] with demand := s.bladeDemand l } : Head) = s.hd.heads[l] := fun l => by
    have head : s.hd.heads[l] = Head.powerOn := h.head l
    have none : s.bladeDemand l = 0 := by simp [State.bladeDemand, h.head, Head.powerOn]
    rw [none, head]
    rfl
  have heads : (Vector.ofFn fun l : Fin 4 => { s.hd.heads[l] with demand := s.bladeDemand l }) = s.hd.heads :=
    Vector.ext fun k hk => by
      rw [Vector.getElem_ofFn]
      exact demand ⟨k, hk⟩
  show { s with hd := { s.hd with heads := Vector.ofFn fun l : Fin 4 => _ } } = s
  rw [heads]

theorem refreshed : refresh s = s := by
  unfold refresh
  rw [h.target, h.pacer, h.demands]
  show { s with arb := { s.arb with withhold := s.withholdDue } } = s
  rw [h.withhold]

theorem evaluated : evaluateGates s = s := by
  have gates : (Vector.ofFn fun l : Fin 4 => s.closedBy l) = s.trk.closedBy := by
    simp only [h.closedBy, h.trk, Trk.powerOn]
    rfl
  have held : s.trk.reserveHeld = false := by rw [h.trk]; rfl
  have trk : ({ s.trk with closedBy := Vector.ofFn fun l : Fin 4 => s.closedBy l, reserveHeld := false } : Trk) = s.trk := by
    rw [gates, ← held]
  have alone : (lanes.any fun l => (s.onTrk fun t =>
      { t with closedBy := Vector.ofFn fun l : Fin 4 => s.closedBy l }).reserveAlone l) = false := by
    simp [State.reserveAlone, h.closedBy, lanes]
  unfold evaluateGates
  dsimp only
  rw [alone]
  exact congrArg (fun x => ({ s with trk := x } : State)) trk

/-- A settling leaves a part at rest as it is. -/
theorem settled (before : State) (n : Nat) : settle before n s = s := by
  have line : settleLine before s = s := by
    simp [settleLine, h.blades, checkNoLanes, settleStart, settleDrain, h.line]
  have blocks : settleBlocks n s = s := by
    simp [settleBlocks, h.blades, settleReindex, h.tie, Tie.powerOn, settleChangeover, h.arb, Arb.powerOn, settlePurge,
      h.crm, Crm.powerOn]
  have grants : settleGrants n s = s := by
    simp [settleGrants, h.retrials, h.refreshed, settleGrant, h.arb, Arb.powerOn, Withhold.isEmpty, settleChangeover]
  rw [settle_eq, line, blocks, grants, h.refreshed, h.evaluated]

end State.AtPowerOn

/-! ### The coming of power (R171, R174, R199) -/

/-- The raisings of a power-on, in their order (R199). -/
def firstRaisings (failed : BitVec 17) (s : State) : State :=
  let s2 := raiseStoreFault failed s
  let s3 := if 0 < s2.set.bagsLow then
    raise .bagsLow (leBytes 2 s2.bag.supply ++ leBytes 2 s2.set.bagsLow) s2 else s2
  if 0 < s3.set.clipsLow then
    raise .clipsLow (leBytes 2 s3.tie.supply ++ leBytes 2 s3.set.clipsLow) s3 else s3

theorem execPowerOn_eq (e : Bool) (s : State) : execPowerOn e s =
    .next (settle (firstRaisings (loadImage s.nv).2 (poweredOn s.nv e s.pending))
      (firstRaisings (loadImage s.nv).2 (poweredOn s.nv e s.pending)).pos
      (firstRaisings (loadImage s.nv).2 (poweredOn s.nv e s.pending))) := rfl

/-- The raisings change LP alone. -/
theorem firstRaisings_lp (failed : BitVec 17) (s : State) : ∃ x, firstRaisings failed s = { s with lp := x } := by
  unfold firstRaisings raiseStoreFault
  dsimp only
  (repeat' split) <;> exact ⟨_, rfl⟩

theorem laneWindow_of_valid {x : LineSettings} (h : settingsValid x = true) : 1 ≤ x.laneWindow := by
  unfold settingsValid at h
  simp only [Bool.and_eq_true] at h
  obtain ⟨⟨⟨ranges, -⟩, -⟩, -⟩ := h
  obtain ⟨-, each⟩ := (inRanges_iff _ _).1 ranges
  exact (each 10 ⟨2, 1, 12⟩ rfl).1

theorem poweredOn_atPowerOn (nv : Nonvolatile) (e : Bool) (rest : List Instr) (x : Lp) :
    ({ poweredOn nv e rest with lp := x } : State).AtPowerOn := by
  obtain ⟨valid, -⟩ := loadImage_orderly nv
  exact ⟨⟨_, _, _, rfl⟩, ⟨_, rfl⟩, rfl, ⟨_, rfl⟩, rfl, rfl, rfl, rfl, rfl, laneWindow_of_valid valid⟩

/-- A power-on leaves the loaded part with its raisings; the settling finds nothing to do. -/
theorem exec_powerOn (e : Bool) (s : State) :
    exec (.powerOn e) s = .next (firstRaisings (loadImage s.nv).2 (poweredOn s.nv e s.pending)) := by
  obtain ⟨x, lp⟩ := firstRaisings_lp (loadImage s.nv).2 (poweredOn s.nv e s.pending)
  have settled := (poweredOn_atPowerOn s.nv e s.pending x).settled
  rw [← lp] at settled
  exact (execPowerOn_eq e s).trans (congrArg Host.Outcome.next (settled _ _))

/-- What the raisings of a power-on leave of LP. -/
theorem firstRaisings_link {s : State} (o : s.lp.Orderly) (hand : s.lp.hand = none) (failed : BitVec 17) :
    let u := firstRaisings failed s
    u.lp.receiver = s.lp.receiver ∧ u.lp.hand = none ∧ u.lp.waiting = none ∧ u.lp.reply = none ∧
      u.lp.rate = s.lp.rate ∧ u.lp.mask = s.lp.mask ∧ u.lp.counters = s.lp.counters := by
  have frame : (firstRaisings failed s).without { lp := true } = s.without { lp := true } := by
    unfold firstRaisings raiseStoreFault
    dsimp only
    (repeat' split) <;> simp
  have acts : Acts False s (firstRaisings failed s) := by
    have low : ∀ (c : Prop) [Decidable c] (u : State) (k : Kind) (x : List Byte),
        Acts False u (if c then raise k x u else u) := by
      intro c _ u k x
      split
      · exact raise_acts u _ _
      · exact .refl
    exact ((raiseStoreFault_acts _ _).trans (low _ _ _ _)).trans (low _ _ _ _)
  have kept : (firstRaisings failed s).lp.hand = none := by
    refine (acts.keeps (P := fun t => t.lp.hand = none ∧ t.lp.reply = none) (fun t u act k => ?_)
      ⟨hand, (o.2.2.2.1 hand).2⟩).1
    obtain ⟨hand, reply⟩ := k
    rcases act.lp with e | ⟨k, time, bs, e⟩
    · rw [e]; exact ⟨hand, reply⟩
    · rw [e]
      obtain ⟨same, none⟩ := Lp.raise_hand reply k time bs
      exact ⟨same.trans hand, none⟩
  have orderly : (firstRaisings failed s).lp.Orderly := acts.keeps (P := fun t => t.lp.Orderly) lpOrderly_act o
  obtain ⟨-, -, -, empty, -⟩ := orderly
  exact ⟨kept_receiver frame rfl, kept, (empty kept).1, (empty kept).2, kept_rate frame rfl, kept_mask frame rfl,
    kept_counters frame rfl⟩

theorem firstRaisings_flag (failed : BitVec 17) (s : State) (k : Kind) : (firstRaisings failed s).flag k = true ↔
    s.flag k = true ∨ (k = .storeFault ∧ failed ≠ 0) ∨ (k = .bagsLow ∧ 0 < s.set.bagsLow) ∨
      (k = .clipsLow ∧ 0 < s.set.clipsLow) := by
  have low : ∀ (c : Prop) [Decidable c] (u : State) (j : Kind) (x : List Byte),
      (if c then raise j x u else u).flag k = (u.flag k || decide (k = j ∧ c)) := by
    intro c _ u j x
    split
    · next holds => simp [holds]
    · next fails => simp [fails]
  have fault : (raiseStoreFault failed s).flag k = (s.flag k || decide (k = .storeFault ∧ failed ≠ 0)) := by
    unfold raiseStoreFault
    split
    · next zero => simp [zero]
    · next some => simp [show ¬failed = 0#17 from some]
  have set : ∀ (c : Prop) [Decidable c] (u : State) (j : Kind) (x : List Byte),
      (if c then raise j x u else u).set = u.set := by
    intro c _ u j x
    split <;> rfl
  have faultSet : (raiseStoreFault failed s).set = s.set := by
    unfold raiseStoreFault
    split <;> rfl
  unfold firstRaisings
  simp only [low, set, fault, faultSet, Bool.or_eq_true, decide_eq_true_iff, or_assoc]

theorem loadSettings_good {x : LineSettings} {a : PerLane (Option Slot)} (valid : settingsValid x = true) :
    loadSettings (.good (x, a)) = (x, a, false) := if_pos valid

theorem loadSettings_bad {st : Section (LineSettings × PerLane (Option Slot))}
    (bad : ∀ x a, st = .good (x, a) → settingsValid x = false) :
    loadSettings st = (LineSettings.default, Vector.replicate 4 none, true) := by
  cases st with
  | bad => rfl
  | good xa =>
    obtain ⟨x, a⟩ := xa
    exact if_neg (by simp [bad x a rfl])

theorem loadSlot_good {p : Option Profile} (valid : ∀ q, p = some q → profileValid q = true) :
    loadSlot (.good p) = (p, false) := by
  cases p with
  | none => rfl
  | some q => exact if_pos (valid q rfl)

theorem loadSlot_bad {x : Section (Option Profile)} (bad : ∀ p, x = .good p → ∃ q, p = some q ∧ profileValid q = false) :
    loadSlot x = (none, true) := by
  cases x with
  | bad => rfl
  | good p =>
    obtain ⟨q, rfl, invalid⟩ := bad p rfl
    exact if_neg (by simp [invalid])

/-- The slots and the assignments that a load leaves (R171). -/
theorem loadImage_slot (nv : Nonvolatile) (i : Slot) : (loadImage nv).1.slots[i] = (loadSlot nv.slots[i]).1 ∧
    (loadImage nv).1.slotUnsaved[i] = (loadSlot nv.slots[i]).2 := by
  simp [loadImage]

theorem loadImage_assign (nv : Nonvolatile) (l : Lane) : (loadImage nv).1.assign[l] =
    ((loadSettings nv.settings).2.1[l]).bind fun i => if ((loadImage nv).1.slots[i]).isSome then some i else none := by
  simp [loadImage, keepAssigned]

theorem loadImage_settings_good {nv : Nonvolatile} {x : LineSettings} {a : PerLane (Option Slot)}
    (stored : nv.settings = .good (x, a)) (valid : settingsValid x = true) :
    let p := (loadImage nv).1
    p.settings = x ∧ p.defaulted = false ∧
      (∀ l : Lane, p.assign[l] = (a[l]).bind fun i => if (p.slots[i]).isSome then some i else none) ∧
      (p.unsaved = true ↔ p.assign ≠ a) := by
  have loaded := loadSettings_good (a := a) valid
  rw [← stored] at loaded
  refine ⟨by simp [loadImage, loaded], by simp [loadImage, loaded], fun l => ?_, by simp [loadImage, loaded]⟩
  rw [loadImage_assign, loaded]

theorem loadImage_settings_bad {nv : Nonvolatile} (bad : ∀ x a, nv.settings = .good (x, a) → settingsValid x = false) :
    let p := (loadImage nv).1
    p.settings = LineSettings.default ∧ p.defaulted = true ∧ p.unsaved = true ∧ ∀ l : Lane, p.assign[l] = none := by
  have loaded := loadSettings_bad bad
  refine ⟨by simp [loadImage, loaded], by simp [loadImage, loaded], by simp [loadImage, loaded], fun l => ?_⟩
  rw [loadImage_assign, loaded]
  simp

/-- Settles O3: the settling of a part at rest leaves it as it is, so POWER_ON leaves the loaded part with its raisings;
the load goes section by section. -/
theorem powerOnLeavesResetValues : Obligations.PowerOnLeavesResetValues := by
  refine ⟨fun estop s => ⟨_, exec_powerOn estop s, ?_⟩, fun estop s t h => ?_⟩
  · obtain ⟨receiver, hand, waiting, reply, rate, mask, counters⟩ :=
      firstRaisings_link (s := poweredOn s.nv estop s.pending) lpOrderly_powerOn rfl (loadImage s.nv).2
    have flags := firstRaisings_flag (loadImage s.nv).2 (poweredOn s.nv estop s.pending)
    obtain ⟨x, lp⟩ := firstRaisings_lp (loadImage s.nv).2 (poweredOn s.nv estop s.pending)
    have set : (firstRaisings (loadImage s.nv).2 (poweredOn s.nv estop s.pending)).set = (loadImage s.nv).1.settings := by
      rw [lp]; rfl
    refine ⟨?_, ?_, ?_, ?_, ?_, ?_, ?_, ?_, ?_, ?_, ?_, ?_, receiver, hand, waiting, reply, rate, mask, counters,
      fun k => ?_⟩
    · rw [lp]; rfl
    · rw [lp]; rfl
    · rw [lp]; rfl
    · rw [set, lp]; rfl
    · rw [set, lp]; rfl
    · rw [lp]; rfl
    · rw [set, lp]; rfl
    · rw [lp]; rfl
    · rw [lp]; rfl
    · rw [lp]; rfl
    · rw [lp]; rfl
    · rw [lp]; rfl
    · rw [flags, set]
      have clear : (poweredOn s.nv estop s.pending).flag k = false := by simp [poweredOn, State.flag, kindIn, Lp.powerOn]
      simp only [clear, Bool.false_eq_true, false_or]
      exact Iff.rfl
  · obtain rfl := Host.Outcome.next.inj ((exec_powerOn estop s).symm.trans h)
    obtain ⟨x, lp⟩ := firstRaisings_lp (loadImage s.nv).2 (poweredOn s.nv estop s.pending)
    have pst : (firstRaisings (loadImage s.nv).2 (poweredOn s.nv estop s.pending)).pst = (loadImage s.nv).1 := by
      rw [lp]; rfl
    rw [State.set, pst]
    refine ⟨fun x a => loadImage_settings_good, loadImage_settings_bad, fun i p stored valid => ?_, fun i bad => ?_,
      rfl, rfl, rfl, fun i => by simp [loadImage]⟩
    · obtain ⟨slot, mark⟩ := loadImage_slot s.nv i
      rw [slot, mark, stored, loadSlot_good valid]
      exact ⟨rfl, rfl⟩
    · obtain ⟨slot, mark⟩ := loadImage_slot s.nv i
      rw [slot, mark, loadSlot_bad bad]
      exact ⟨rfl, rfl⟩

/-! ### The state after reset (log entry 4) -/

/-- Settles O4: the first power-on finds every section bad; at its values the table is empty, no shift is open and every
block is at rest. -/
theorem resetMeetsTheConditions : Obligations.ResetMeetsTheConditions := by
  have first : exec (.powerOn false) (State.off Nonvolatile.blank []) = .next State.reset := by
    rw [exec_powerOn]
    exact congrArg Host.Outcome.next (by decide +kernel)
  have derived : DerivedHold State.reset := by
    rw [Host.Outcome.next.inj (first.symm.trans (execPowerOn_eq false (State.off Nonvolatile.blank [])))]
    exact settle_derived _ _ _
  refine ⟨first, ?_, tableHolds_of_powerOn rfl, ?_, ?_, ?_, derived, ?_, ?_, unloaded_orderly⟩
  · exact rangesHold_fresh _ (Nat.zero_le _) ⟨_, _, _, rfl⟩ ⟨_, rfl⟩ ⟨rfl, rfl, rfl, rfl⟩ rfl
  · exact accountsHold_of_powerOn rfl rfl
  · unfold DecisionsHold; decide
  · unfold LineHolds; decide
  · unfold LinkHolds; decide
  · exact ⟨by decide, by decide, nofun, nofun⟩

end Sys2Proof.Machine
end

section
/-! PROOFS. The calendar, and the requests and events with a one-line effect: counts, ramps, the clock, the set speed,
the challenge settings, a lane's profile. -/

namespace Sys2Proof.Machine

/-! ### The calendar (R116, R172) -/

/-- The month that a day number of a year falls in, and the day within it. -/
theorem inMonths_spec (month : Nat) (ms : List Nat) (d : Nat) (h : d < ms.sum) :
    ∃ j e, inMonths month ms d = (month + j, e + 1) ∧ j < ms.length ∧ e < ms.getD j 0 ∧ (ms.take j).sum + e = d := by
  induction ms generalizing month d with
  | nil => exact absurd h (Nat.not_lt_zero d)
  | cons n rest ih =>
    unfold inMonths
    split
    · next small => exact ⟨0, d, rfl, Nat.succ_pos _, small, by simp⟩
    · next large =>
      obtain ⟨j, e, found, inside, day, total⟩ := ih (month + 1) (d - n) (by rw [List.sum_cons] at h; omega)
      refine ⟨j + 1, e, by rw [found, Nat.add_right_comm, Nat.add_assoc], Nat.succ_lt_succ inside, by simpa using day, ?_⟩
      rw [List.take_succ_cons, List.sum_cons]
      omega

theorem monthDays_eq (y : Nat) :
    monthDays y = [31, if y % 4 = 0 then 29 else 28, 31, 30, 31, 30, 31, 31, 30, 31, 30, 31] := by
  simp [monthDays, leap]

theorem monthDays_sum (y : Nat) : (monthDays y).sum = yearDays y := by
  unfold monthDays yearDays
  cases leap y <;> rfl

/-- The day number of a date from those of its year's first day and of the months before it. -/
theorem dayNumber_eq (y m d : Nat) :
    dayNumber y m d = dayNumber y 1 1 + ((monthDays y).take (m - 1)).sum + (d - 1) := by
  simp [dayNumber, monthDays_eq]

theorem dayNumber_next_year {y : Nat} (h : 2000 ≤ y) : dayNumber (y + 1) 1 1 = dayNumber y 1 1 + yearDays y := by
  simp only [dayNumber, yearDays, leap, List.take_zero, List.sum_nil, Nat.sub_self, beq_iff_eq]
  split <;> omega

theorem isDate_inMonths {y d : Nat} (h : 2000 ≤ y) (small : d < yearDays y) :
    IsDate y (inMonths 1 (monthDays y) d).1 (inMonths 1 (monthDays y) d).2 (dayNumber y 1 1 + d) := by
  obtain ⟨j, e, found, inside, day, total⟩ := inMonths_spec 1 (monthDays y) d (monthDays_sum y ▸ small)
  have twelve : (monthDays y).length = 12 := rfl
  rw [found]
  unfold IsDate
  rw [dayNumber_eq, ← monthDays_eq, Nat.add_sub_cancel_left, Nat.add_sub_cancel]
  refine ⟨h, Nat.le_add_right _ _, by omega, Nat.succ_pos _, day, by omega⟩

/-- The years that are passed end in the year that the day number falls in. -/
theorem dateFrom_isDate (fuel y d : Nat) (h : 2000 ≤ y) (near : d < 365 * (fuel + 1)) :
    IsDate (dateFrom fuel y d).year (dateFrom fuel y d).month (dateFrom fuel y d).day (dayNumber y 1 1 + d) := by
  have least : 365 ≤ yearDays y := by unfold yearDays; split <;> omega
  induction fuel generalizing y d with
  | zero =>
    have small : d < yearDays y := by omega
    exact isDate_inMonths h small
  | succ fuel ih =>
    unfold dateFrom
    split
    · next small => exact isDate_inMonths h small
    · next large =>
      have next := ih (y + 1) (d - yearDays y) (by omega) (by omega) (by unfold yearDays; split <;> omega)
      rw [dayNumber_next_year h] at next
      rwa [show dayNumber y 1 1 + yearDays y + (d - yearDays y) = dayNumber y 1 1 + d by omega] at next

theorem dateOf_isDate {d : Nat} (near : d < 73365) : IsDate (dateOf d).year (dateOf d).month (dateOf d).day d := by
  have := dateFrom_isDate 200 2000 d le_rfl near
  rwa [show dayNumber 2000 1 1 + d = d from Nat.zero_add d] at this

/-- The fields of READ_CLOCK name the dates of the clock and of production. -/
theorem clockFieldsAre {s : State} (range : s.pst.clock ≤ Config.clockMax) :
    ClockFieldsAre s (clockFields s.pst.clock s.set.dayBoundary s.pst.clockValid) := by
  have top : s.pst.clock ≤ 3155759999 := range
  refine ⟨_, _, _, _, _, _, dateOf_isDate (d := s.pst.clock / 86400) (by omega),
    dateOf_isDate (d := (s.pst.clock - s.set.dayBoundary * 60) / 86400) (by omega), ?_⟩
  have minutes : s.pst.clock % 86400 / 60 % 60 = s.pst.clock % 3600 / 60 := by omega
  have seconds : s.pst.clock % 86400 % 60 = s.pst.clock % 60 := by omega
  simp only [clockFields, daySeconds, productionDay, minutes, seconds, List.append_assoc, List.cons_append,
    List.nil_append]

/-! ### A request in hand -/

/-- A request in hand whose payload has the length of the catalogue is answered by its owning rule. -/
theorem exec_handling {c : Instr} {k tag : Byte} {len : Nat} {owner : List Byte → State → Answer} {p : List Byte}
    {s : State} (h : Handling ⟨k, tag, p⟩ s) (served : exec c s = serve k len owner tag p s) (length : p.length = len) :
    exec c s = .next (giveReply k tag (owner p s)) := by
  rw [served, serve_handling len owner h, if_pos length]

/-- Settles O18: each request by its owning rule; the dates by the calendar's years and months. -/
theorem clockRequests : Obligations.ClockRequests := by
  intro s tag p
  refine ⟨fun h length => ?_, fun h => exec_handling (c := .readClock tag []) h rfl rfl, fun h range => ?_⟩
  · have answered := exec_handling (c := .setClock tag p) h rfl length
    refine ⟨fun above => ?_, fun inside => ?_⟩
    · rw [Refused, answered, ownSetClock, if_pos above, giveReply_refuse]
    · rw [answered, ownSetClock, if_neg (Nat.not_lt.2 inside), giveReply_okay]
      rfl
  · exact ⟨_, clockFieldsAre range, exec_handling (c := .readClock tag []) h rfl rfl⟩

/-! ### Counts and ramps (R2, R69, R172, R183) -/

theorem whenPowered_event {s : State} (on : s.powered = true) (f : State → State) : whenPowered s f = .next (f s) :=
  whenPowered_on f on

theorem clockTick_effect {s : State} (on : s.powered = true) : exec .clockTick s =
    .next { s with pst := { s.pst with clock := min Config.clockMax (s.pst.clock + 1) } } :=
  whenPowered_event on fun s => s.onPst fun p => { p with clock := min Config.clockMax (p.clock + 1) }

theorem demandRamp_effect {s : State} (on : s.powered = true) (ms : Nat) :
    let n := s.set.rampRate * ms + s.lc.rampCarry
    let d := rampToward s.lc.demand s.lc.target (n / 1000)
    Effect (.demandRamp ms) s
      (s.onLc fun lc => { lc with demand := d, rampCarry := if d = lc.target then 0 else n % 1000 }) := by
  have ramp : exec (.demandRamp ms) s = execDemandRamp ms s := rfl
  unfold Effect
  rw [ramp, execDemandRamp, whenPowered_event on]

/-- Settles O16: each event by its meaning on a part that has power. -/
theorem countsAndRamps : Obligations.CountsAndRamps := by
  intro s on
  refine ⟨fun l configured => ?_, fun l unconfigured => ?_, ?_, fun ms => ?_⟩
  · exact (whenPowered_event on _).trans (by rw [if_pos configured]; rfl)
  · exact (whenPowered_event on _).trans (by rw [if_neg (by simp [unconfigured])])
  · exact (clockTick_effect on)
  · exact demandRamp_effect on ms

/-! ### The challenge settings (R127, R128) -/

theorem challengeOk_iff (n : Nat) : challengeOk n = true ↔ n = 0 ∨ (50 ≤ n ∧ n ≤ 5000) := by simp [challengeOk]

/-- Settles O35: by the range of the interval and whether it is the one in force. -/
theorem challengeSettings : Obligations.ChallengeSettings := by
  intro s tag
  refine ⟨fun p h length => ?_, fun h => exec_handling (c := .resetCodecheck tag []) h rfl rfl⟩
  have answered := exec_handling (c := .setChallenge tag p) h rfl length
  dsimp only
  simp only [← challengeOk_iff]
  refine ⟨fun bad => ?_, fun ok same => ?_, fun ok new => ?_⟩
  · rw [Refused, answered, ownSetChallenge, if_neg bad, giveReply_refuse]
  · rw [answered, ownSetChallenge, if_pos ok, if_pos same.symm, giveReply_okay]
  · rw [answered, ownSetChallenge, if_pos ok, if_neg (Ne.symm new), giveReply_okay, takeChallenge,
      if_neg (Ne.symm new)]
    rfl

/-! ### The set speed (R182, R183) -/

/-- What every settling leaves alone. -/
theorem settle_frame (before : State) (h : Nat) (u : State) : SameBut
    { lp := true, sru := true, lc := true, trk := true, hd := true, arb := true, tie := true, crm := true } u
    (settle before h u) :=
  settle_without u before h rfl rfl rfl rfl rfl rfl rfl rfl

theorem settle_setSpeed (before : State) (h : Nat) (u : State) : (settle before h u).lc.setSpeed = u.lc.setSpeed :=
  kept_setSpeed (settle_frame before h u) rfl

/-- The set speed that SET_SPEED puts in force, clamped at the ceiling (R182). -/
def speedSet (n : Nat) (s : State) : State := s.onLc fun lc => { lc with setSpeed := min n lc.ceiling }

theorem setSpeed_replies {tag : Byte} {p : List Byte} {s : State} (h : Handling ⟨0x25, tag, p⟩ s) (length : p.length = 2) :
    Replies (.setSpeed tag p) ⟨0x25, tag, p⟩ (if s.lc.ceiling < leNat p then .clamped else .ok)
      (fun _ => leBytes 2 (min (leNat p) s.lc.ceiling) ++ leBytes 2 s.lc.ceiling) s (speedSet (leNat p) s) := by
  rw [Replies, exec_handling (c := .setSpeed tag p) h rfl length, ownSetSpeed, giveReply]
  dsimp only [speedSet, onLc_lc]

/-- Settles O41: the set speed is clamped, and the settling computes the target. -/
theorem setSpeed : Obligations.SetSpeed := by
  intro s tag p h length
  have answered := setSpeed_replies h length
  rw [speedSet] at answered
  dsimp only
  refine ⟨answered, _, answered, ?_, ?_⟩
  · rw [replyReady_lc, settle_setSpeed]
    rfl
  · exact replyReady_target _ (settle_target ..)

/-! ### A lane's profile (R64, R132, R167) -/

theorem asSlot_val (i : Slot) : asSlot i.val = some i := dif_pos i.isLt

theorem asLane_of_ge {n : Nat} (h : 4 ≤ n) : asLane n = none := dif_neg (Nat.not_lt.2 h)

theorem asSlot_of_ge {n : Nat} (h : 16 ≤ n) : asSlot n = none := dif_neg (Nat.not_lt.2 h)

theorem ownSetLaneProfile_named {a b : Byte} {l : Lane} {i : Slot} (ha : a.toNat = l.val) (hb : b.toNat = i.val)
    (s : State) : ownSetLaneProfile [a, b] s =
      if s.isConfigured l && (s.pst.slots[i]).isSome then
        Answer.okay (settle s (assignSlot l i s).pos (assignSlot l i s))
          ([byteOf l.val, byteOf i.val] ++ laneCeilingField l i s)
      else Answer.refuse s .badField := by
  have lane : asLane (byteAt [a, b] 0) = some l := by rw [show byteAt [a, b] 0 = l.val from ha, asLane_val]
  have slot : asSlot (byteAt [a, b] 1) = some i := by rw [show byteAt [a, b] 1 = i.val from hb, asSlot_val]
  unfold ownSetLaneProfile
  rw [lane, slot]

theorem val_of_asSlot {n : Nat} {i : Slot} (h : asSlot n = some i) : i.val = n := by
  unfold asSlot at h
  split at h
  · exact congrArg Fin.val (Option.some.inj h).symm
  · exact nomatch h

theorem ownSetLaneProfile_outside {a b : Byte} {s : State} (h : s.set.configured ≤ a.toNat ∨ 16 ≤ b.toNat) :
    ownSetLaneProfile [a, b] s = Answer.refuse s .badField := by
  unfold ownSetLaneProfile
  split
  · next l i lane slot =>
    have lane : l.val = a.toNat := val_of_asLane lane
    have slot : i.val = b.toNat := val_of_asSlot slot
    have outside : s.isConfigured l = false := by
      rcases h with h | h
      · simpa [State.isConfigured, lane] using h
      · exact absurd i.isLt (by omega)
    simp [outside]
  · rfl

theorem assignSlot_eq (l : Lane) (i : Slot) (s : State) : assignSlot l i s =
    if s.pst.assign[l] = some i then s else { s with
      pst := { s.pst with
        assign := putAt s.pst.assign l (some i)
        unsaved := true
        store := s.pst.store.touch 0 }
      crm := { s.crm with
        heads := putAt s.crm.heads l { s.crm.heads[l] with correction := 64 } } } := rfl

theorem laneCeilingField_of_held {l : Lane} {i : Slot} {s : State} {p : Profile} (held : s.pst.slots[i] = some p) :
    laneCeilingField l i s = leBytes 2 (s.set.rmax[l] * p.t * 15 / 16) := by
  simp only [laneCeilingField, laneCeiling, State.profile, held, Option.getD_some]

/-- Settles O48: by the lane and the slot that the payload names. -/
theorem setLaneProfile : Obligations.SetLaneProfile := by
  intro s tag a b h
  have answered := exec_handling (c := .setLaneProfile tag [a, b]) h rfl rfl
  dsimp only
  refine ⟨fun outside => ?_, fun l i ha hb => ⟨fun empty => ?_, fun p configured held => ?_⟩⟩
  · rw [Refused, answered, ownSetLaneProfile_outside outside, giveReply_refuse]
  · rw [Refused, answered, ownSetLaneProfile_named ha hb, if_neg (by simp [empty]), giveReply_refuse]
  · have lane : byteOf l.val = a := by rw [← ha, byteOf_toNat]
    have slot : byteOf i.val = b := by rw [← hb, byteOf_toNat]
    rw [Replies, answered, ownSetLaneProfile_named ha hb, if_pos (by simp [configured, held]), giveReply_okay,
      laneCeilingField_of_held held, lane, slot, assignSlot_eq]

end Sys2Proof.Machine
end

section
/-! PROOFS. What every settling leaves alone in the blocks that it touches. -/

namespace Sys2Proof.Machine

/-- The values of the touched blocks that a settling leaves alone. -/
structure Steady where
  monitors : LineMonitor × LineMonitor
  reference : RefSettings × Bool
  demand : Nat
  lanes : Lane → Bool × Option (LaneFault × Nat) × Nat
  blades : Lane → Monitor
  table : Nat × Decision
  merge : Option Spacing × Nat
  crumbs : PerLane HeadCrumb × Nat × List PurgeEntry × PerLane (Option LastPurge) × Option LastPurge
  supply : Nat
  reads : List OpenRead × List BurstEntry × CodeCounters × Option Capture
  tyer : Bool × Nat × Bool

def State.steady (s : State) : Steady where
  monitors := (s.sru.w, s.sru.m)
  reference := (s.sru.settings, s.sru.slipActive)
  demand := s.lc.demand
  lanes l := ((s.lane l).target, (s.lane l).lastFault, (s.lane l).trialFails)
  blades l := (s.head l).mon
  table := (s.trk.nextLoaf, s.trk.rejectGate)
  merge := (s.arb.spacing, s.arb.bagClass)
  crumbs := (s.crm.heads, s.crm.belt, s.crm.queue, s.crm.last, s.crm.lastBelt)
  supply := s.tie.supply
  reads := (s.tie.openReads, s.tie.burst, s.tie.counters, s.tie.capture)
  tyer := (s.tie.blind, s.tie.challengeCount, s.tie.owed)

/-- A change that leaves the steady values and every flag that is set. -/
structure Lasts (s t : State) : Prop where
  steady : t.steady = s.steady
  flags : ∀ k, s.flag k = true → t.flag k = true

variable {s t u : State}

theorem Lasts.refl (s : State) : Lasts s s := ⟨rfl, fun _ => id⟩

theorem Lasts.trans (h : Lasts s t) (k : Lasts t u) : Lasts s u :=
  ⟨k.steady.trans h.steady, fun j set => k.flags j (h.flags j set)⟩

theorem Lasts.ite {c : Prop} [Decidable c] (h : c → Lasts s t) (k : ¬c → Lasts s u) : Lasts s (if c then t else u) := by
  split
  · next holds => exact h holds
  · next fails => exact k fails

theorem lasts_of_steady (h : t.steady = s.steady) (lp : t.lp = s.lp) : Lasts s t :=
  ⟨h, fun k set => by rwa [State.flag, lp]⟩

theorem lasts_forLanes {f : Lane → State → State} (h : ∀ l t, Lasts t (f l t)) (s : State) : Lasts s (forLanes f s) :=
  forLanes_induction (P := Lasts s) (fun l t k => k.trans (h l t)) (.refl s)

variable (s)

theorem lasts_raise (k : Kind) (x : List Byte) : Lasts s (raise k x s) :=
  ⟨rfl, fun j set => by rw [raise_flag]; exact Bool.or_eq_true_iff.2 (.inl set)⟩

theorem steady_onLane (l : Lane) (f : LaneCtl → LaneCtl) (keeps : ∀ c : LaneCtl, (f c).target = c.target ∧
    (f c).lastFault = c.lastFault ∧ (f c).trialFails = c.trialFails) : (onLane l f s).steady = s.steady := by
  have lanes : (onLane l f s).steady.lanes = s.steady.lanes := by
    funext k
    simp only [State.steady, lane_onLane]
    split
    · obtain ⟨target, fault, fails⟩ := keeps (s.lane k)
      rw [target, fault, fails]
    · rfl
  exact congrArg (fun x => { s.steady with lanes := x }) lanes

theorem steady_onHead (l : Lane) (f : Head → Head) (keeps : ∀ h : Head, (f h).mon = h.mon) :
    (onHead l f s).steady = s.steady := by
  have blades : (onHead l f s).steady.blades = s.steady.blades := by
    funext k
    simp only [State.steady, head_onHead]
    split
    · exact keeps _
    · rfl
  exact congrArg (fun x => { s.steady with blades := x }) blades

theorem lasts_onLane (l : Lane) (f : LaneCtl → LaneCtl) (keeps : ∀ c : LaneCtl, (f c).target = c.target ∧
    (f c).lastFault = c.lastFault ∧ (f c).trialFails = c.trialFails) : Lasts s (onLane l f s) :=
  lasts_of_steady (steady_onLane s l f keeps) rfl

theorem lasts_setBlade (b : BladeState) (l : Lane) : Lasts s (setBlade b l s) :=
  lasts_of_steady (steady_onHead s l _ fun _ => rfl) rfl

theorem lasts_stopBladeIf (p : BladeState → Bool) (l : Lane) : Lasts s (stopBladeIf p l s) :=
  .ite (fun _ => lasts_setBlade s _ l) fun _ => .refl s

theorem lasts_stopIdleBlade (l : Lane) : Lasts s (stopIdleBlade l s) := by
  unfold stopIdleBlade
  split
  · exact .refl s
  · exact .refl s
  · exact .ite (fun _ => lasts_setBlade s _ l) fun _ => .refl s

theorem lasts_setLaneState (st : LaneState) (l : Lane) : Lasts s (setLaneState st l s) := by
  refine .ite (fun _ => .refl s) fun _ => ?_
  refine Lasts.trans ?_ (lasts_raise _ _ _)
  exact lasts_onLane s l _ fun _ => ⟨rfl, rfl, rfl⟩

theorem lasts_endTrial (l : Lane) : Lasts s (endTrial l s) := lasts_onLane s l _ fun _ => ⟨rfl, rfl, rfl⟩

theorem lasts_laneOutOfMotion (l : Lane) : Lasts s (laneOutOfMotion l s) := by
  have ended := lasts_endTrial s l
  unfold laneOutOfMotion
  dsimp only
  split
  · exact ended.trans (lasts_setLaneState _ _ l)
  · exact ended.trans (lasts_setLaneState _ _ l)
  · exact ended.trans (lasts_setLaneState _ _ l)
  · exact ended

theorem lasts_headsAtReady : Lasts s (headsAtReady s) :=
  lasts_forLanes (fun l t => (lasts_stopBladeIf t _ l).trans (lasts_laneOutOfMotion _ l)) s

theorem lasts_setReferenceState (st : RefState) (src : Source) : Lasts s (setReferenceState st src s) := by
  unfold setReferenceState
  dsimp only
  refine Lasts.trans ?_ (lasts_raise _ _ _)
  exact lasts_of_steady rfl rfl

theorem lasts_enterIdle : Lasts s (enterIdle s) := by
  refine .ite (fun _ => .refl s) fun _ => ?_
  refine Lasts.trans ?_ (lasts_setReferenceState _ _ _)
  exact lasts_of_steady rfl rfl

theorem lasts_setLine (st : LineState) : Lasts s (setLine st s) :=
  Lasts.trans (t := s.onLc fun lc => { lc with state := st }) (lasts_of_steady rfl rfl) (lasts_raise _ _ _)

theorem lasts_enterReady (cause : StopCause) : Lasts s (enterReady cause s) := by
  unfold enterReady
  refine Lasts.trans ?_ (lasts_headsAtReady _)
  refine Lasts.trans ?_ (lasts_enterIdle _)
  refine Lasts.trans ?_ (lasts_setLine _ _)
  exact lasts_of_steady rfl rfl

theorem lasts_enterDraining (cause : StopCause) : Lasts s (enterDraining cause s) := by
  unfold enterDraining
  refine Lasts.trans ?_ (lasts_setLine _ _)
  exact lasts_of_steady rfl rfl

theorem lasts_enterRunning : Lasts s (enterRunning s) := by
  unfold enterRunning
  refine Lasts.trans ?_ (lasts_setLine _ _)
  exact lasts_of_steady rfl rfl

theorem lasts_requestDrain (cause : StopCause) : Lasts s (requestDrain cause s) := by
  unfold requestDrain
  split
  · exact lasts_enterDraining s cause
  · exact .ite (fun _ => lasts_enterReady s cause) fun _ => lasts_enterDraining s cause
  · exact .refl s

theorem lasts_settleLine (before : State) : Lasts s (settleLine before s) := by
  unfold settleLine
  refine Lasts.trans (t := forLanes stopIdleBlade s) (lasts_forLanes (fun l t => lasts_stopIdleBlade t l) s) ?_
  refine Lasts.trans (t := checkNoLanes before (forLanes stopIdleBlade s)) ?_ ?_
  · exact .ite (fun _ => lasts_requestDrain _ _) fun _ => .refl _
  · refine Lasts.trans (t := settleStart (checkNoLanes before (forLanes stopIdleBlade s))) ?_ ?_
    · exact .ite (fun _ => lasts_enterRunning _) fun _ => .refl _
    · exact .ite (fun _ => lasts_enterReady _ _) fun _ => .refl _

theorem lasts_startCycle (t : Target) : Lasts s (startCycle t s) := by
  cases t with
  | head l => exact (lasts_setBlade s _ l).trans (lasts_of_steady rfl rfl)
  | belt => exact lasts_of_steady rfl rfl

theorem lasts_settlePurge (h : Nat) : Lasts s (settlePurge h s) := by
  unfold settlePurge
  split
  · exact .ite (fun _ => lasts_startCycle s _) fun _ => .refl s
  · exact .refl s

theorem lasts_settleChangeover : Lasts s (settleChangeover s) := by
  unfold settleChangeover
  split
  · exact .ite (fun _ => .refl s) fun _ => lasts_of_steady rfl rfl
  · exact .refl s

theorem lasts_settleReindex : Lasts s (settleReindex s) := by
  unfold settleReindex
  exact .ite (fun _ => lasts_of_steady rfl rfl) fun _ => .refl s

theorem lasts_settleBlocks (h : Nat) : Lasts s (settleBlocks h s) := by
  unfold settleBlocks
  refine Lasts.trans ?_ (lasts_settlePurge _ h)
  refine Lasts.trans ?_ (lasts_settleChangeover _)
  refine Lasts.trans (lasts_forLanes (fun l t => lasts_stopIdleBlade t l) s) ?_
  exact lasts_settleReindex _

theorem lasts_refreshTarget : Lasts s (refreshTarget s) := lasts_of_steady rfl rfl

theorem lasts_refreshPacer : Lasts s (refreshPacer s) := lasts_of_steady rfl rfl

theorem lasts_refreshBlades : Lasts s (refreshBlades s) := by
  have blades : (refreshBlades s).steady.blades = s.steady.blades :=
    funext fun l => by simp [State.steady, State.head, refreshBlades]
  exact lasts_of_steady (congrArg (fun x => { s.steady with blades := x }) blades) rfl

theorem lasts_refreshWithhold : Lasts s (refreshWithhold s) := lasts_of_steady rfl rfl

theorem lasts_refresh : Lasts s (refresh s) :=
  (((lasts_refreshTarget s).trans (lasts_refreshPacer _)).trans (lasts_refreshBlades _)).trans (lasts_refreshWithhold _)

theorem lasts_settleGrant (h : Nat) : Lasts s (settleGrant h s) := by
  unfold settleGrant
  refine .ite (fun _ => ?_) fun _ => .refl s
  split
  · exact .ite (fun _ => lasts_of_steady rfl rfl) fun _ => lasts_of_steady rfl rfl
  · exact .refl s

theorem lasts_settleRetrial (l : Lane) : Lasts s (settleRetrial l s) := by
  unfold settleRetrial
  exact lasts_onLane s l _ fun _ => ⟨rfl, rfl, rfl⟩

theorem lasts_settleGrants (h : Nat) : Lasts s (settleGrants h s) := by
  unfold settleGrants
  refine Lasts.trans ?_ (lasts_settleChangeover _)
  refine Lasts.trans ?_ (lasts_settleGrant _ h)
  refine Lasts.trans ?_ (lasts_refresh _)
  exact lasts_forLanes (fun l t => lasts_settleRetrial t l) s

theorem lasts_evaluateGates : Lasts s (evaluateGates s) := by
  unfold evaluateGates
  dsimp only
  split
  · refine Lasts.trans ?_ (lasts_raise _ _ _)
    exact lasts_of_steady rfl rfl
  · exact lasts_of_steady rfl rfl

theorem lasts_settle (before : State) (h : Nat) : Lasts s (settle before h s) := by
  rw [settle_eq]
  refine Lasts.trans ?_ (lasts_evaluateGates _)
  refine Lasts.trans ?_ (lasts_refresh _)
  refine Lasts.trans ?_ (lasts_settleGrants _ h)
  exact (lasts_settleLine s before).trans (lasts_settleBlocks _ h)

/-! ### The servo outputs (R70, R71) -/

/-- The blade demand is made of the blade, the idle rate, the lane's next cut and the estimate. -/
theorem bladeDemand_congr {s t : State} {l : Lane} (blade : (t.head l).blade = (s.head l).blade)
    (settings : t.pst = s.pst) (queue : t.queue l = s.queue l) (sru : t.sru = s.sru) :
    t.bladeDemand l = s.bladeDemand l := by
  simp only [State.bladeDemand, State.nextPitch, State.nextCut, State.set, blade, settings, queue, sru]

theorem refreshBlades_demand (l : Lane) : ((refreshBlades s).head l).demand = (refreshBlades s).bladeDemand l := by
  have blade : ((refreshBlades s).head l).blade = (s.head l).blade := by simp [State.head, refreshBlades]
  rw [bladeDemand_congr (t := refreshBlades s) (s := s) blade rfl rfl rfl]
  simp [State.head, refreshBlades]

theorem refresh_demand (l : Lane) : ((refresh s).head l).demand = (refresh s).bladeDemand l := by
  have kept : ∀ t : State, (refreshWithhold t).bladeDemand l = t.bladeDemand l := fun t =>
    bladeDemand_congr rfl rfl rfl rfl
  unfold refresh
  rw [kept]
  exact refreshBlades_demand _ l

theorem evaluateGates_demand {l : Lane} (h : (s.head l).demand = s.bladeDemand l) :
    ((evaluateGates s).head l).demand = (evaluateGates s).bladeDemand l := by
  have hd : (evaluateGates s).hd = s.hd := kept_hd (gates_keep s) rfl
  have pst := kept_pst (gates_keep s) rfl rfl
  have sru := kept_sru (gates_keep s) rfl rfl
  rw [bladeDemand_congr (congrArg (fun x : Hd => x.heads[l].blade) hd) pst (evaluateGates_queue s l) sru]
  exact (congrArg (fun x : Hd => x.heads[l].demand) hd).trans h

theorem settle_demand (before : State) (h : Nat) (l : Lane) :
    ((settle before h s).head l).demand = (settle before h s).bladeDemand l := by
  rw [settle_eq]
  exact evaluateGates_demand _ (refresh_demand _ l)

theorem settle_servo (before : State) (h : Nat) (l : Lane) :
    (settle before h s).servo l =
      ⟨(settle before h s).bladeDemand l, decide (((settle before h s).head l).blade = .parked)⟩ := by
  unfold State.servo
  rw [settle_demand]

/-- A settling that sets the reserve-held state leaves its flag set. -/
theorem settle_reserveHeld (before : State) (h : Nat) (clear : s.trk.reserveHeld = false)
    (held : (settle before h s).trk.reserveHeld = true) : (settle before h s).flag .tableReserve = true :=
  (settle_acts (sure := False) s before h).keeps reserveFlagged_act (fun set => nomatch clear.symm.trans set) held

variable {s}

/-- Settles O14: the frame of a settling, what it leaves in the blocks it touches, and the derived values it makes. -/
theorem settlingKeeps : Obligations.SettlingKeeps := by
  intro before h u
  obtain ⟨steady, flags⟩ := lasts_settle u before h
  obtain ⟨sru, reference, demand, lanes, blades, table, merge, crumbs, supply, reads, tyer⟩ :=
    (Steady.mk.injEq ..).mp steady
  simp only [Prod.mk.injEq] at sru reference table merge crumbs reads tyer
  obtain ⟨w, m⟩ := sru
  obtain ⟨settings, slip⟩ := reference
  obtain ⟨loaf, gate⟩ := table
  obtain ⟨spacing, bagClass⟩ := merge
  obtain ⟨heads, belt, queue, last, lastBelt⟩ := crumbs
  obtain ⟨openReads, burst, counters, capture⟩ := reads
  obtain ⟨blind, challenge, owed⟩ := tyer
  refine ⟨settle_frame before h u, settle_derived before h u, flags, settle_reserveHeld u before h, w, m, settings, slip,
    demand, fun l => ?_, loaf, gate, spacing, bagClass, heads, belt, queue, last, lastBelt, supply, openReads, burst,
    counters, capture, blind, challenge, owed, fun l => ?_⟩
  · have lane := congrFun lanes l
    simp only [Prod.mk.injEq] at lane
    obtain ⟨target, fault, fails⟩ := lane
    exact ⟨target, fault, fails, congrFun blades l⟩
  · rw [settle_servo]
    unfold State.bladeDemand State.nextPitch State.nextCut
    cases (settle before h u).head l |>.blade with
    | running => cases ((settle before h u).queue l).find? Rec.toBeCut with
      | none => rfl
      | some r => cases plan : r.plan <;> simp [plan]
    | _ => rfl

end Sys2Proof.Machine
end

section
/-! PROOFS. The supplies: bags and clips loaded. -/

namespace Sys2Proof.Machine

variable {s t u : State}

/-! ### A supply below its threshold (R106, R113) -/

theorem raiseBagsLow_keeps (before : Nat) (s : State) : SameBut { lp := true } s (raiseBagsLow before s) :=
  raiseBagsLow_without s before rfl

theorem raiseBagsLow_flag {before : Nat} (above : s.set.bagsLow ≤ before) (below : s.bag.supply < s.set.bagsLow) :
    (raiseBagsLow before s).flag .bagsLow = true := by
  rw [raiseBagsLow, if_pos ⟨above, below⟩, raise_flag]
  simp

theorem raiseClipsLow_keeps (before : Nat) (s : State) : SameBut { lp := true } s (raiseClipsLow before s) :=
  raiseClipsLow_without s before rfl

theorem raiseClipsLow_flag {before : Nat} (above : s.set.clipsLow ≤ before) (below : s.tie.supply < s.set.clipsLow) :
    (raiseClipsLow before s).flag .clipsLow = true := by
  rw [raiseClipsLow, if_pos ⟨above, below⟩, raise_flag]
  simp

theorem settle_flag (before : State) (h : Nat) {k : Kind} (set : u.flag k = true) : (settle before h u).flag k = true :=
  (lasts_settle u before h).flags k set

theorem settle_bag (before : State) (h : Nat) (u : State) : (settle before h u).bag = u.bag :=
  kept_bag (settle_frame before h u) rfl

theorem replyReady_withhold (r : Reply) (h : WithholdFollows s) : WithholdFollows (replyReady r s) := h

@[simp] theorem replyReady_bag (r : Reply) (s : State) : (replyReady r s).bag = s.bag := rfl

theorem supply_of_steady (h : t.steady = s.steady) : t.tie.supply = s.tie.supply := congrArg Steady.supply h

/-- After a settling and a reply the withhold set follows its holders. -/
theorem replied_withhold (r : Reply) (before : State) (h : Nat) (u : State) :
    WithholdFollows (replyReady r (settle before h u)) := by
  obtain ⟨-, -, ⟨-, follows⟩, -⟩ := settle_derived before h u
  exact replyReady_withhold r follows

/-! ### LOAD_BAGS (R107) -/

theorem baggerLoaded_eq (st : BaggerState) (n : Nat) : baggerLoaded st n = match st with
    | .empty => if 0 < n then .ready else .empty
    | .ready => if n = 0 then .empty else .ready
    | .cycle => .cycle
    | .down => .down := by
  cases st <;> rfl

/-- The bagger's values under a load of bags. -/
def bagsLoaded (n : Nat) (s : State) : State :=
  s.onBag fun b => { b with supply := n, state := baggerLoaded b.state n }

theorem bagsLoaded_bag (n : Nat) (s : State) :
    (bagsLoaded n s).bag = { s.bag with supply := n, state := baggerLoaded s.bag.state n } := rfl

theorem raised_bag (before : Nat) (s : State) : (raiseBagsLow before s).bag = s.bag :=
  kept_bag (raiseBagsLow_keeps before s) rfl

theorem loadBags_replies {tag : Byte} {p : List Byte} (h : Handling ⟨0x40, tag, p⟩ s) (length : p.length = 2) :
    Replies (.loadBags tag p) ⟨0x40, tag, p⟩ (loadStatus Config.bagMax (leNat p))
      (fun _ => leBytes 2 (min Config.bagMax (leNat p)) ++
        [byteOf (baggerLoaded s.bag.state (min Config.bagMax (leNat p))).code]) s
      (raiseBagsLow s.bag.supply (bagsLoaded (min Config.bagMax (leNat p)) s)) := by
  rw [Replies, exec_handling (c := .loadBags tag p) h rfl length, ownLoadBags, giveReply]
  dsimp only [bagsLoaded, onBag_bag]

/-- The parts that an answered request leaves alone beyond its own. -/
theorem replied_frame (r : Reply) (before : State) (h : Nat) {b : Parts} (own : SameBut b s u)
    (lp : b.lp = true) (sru : b.sru = true) (lc : b.lc = true) (trk : b.trk = true) (hd : b.hd = true)
    (arb : b.arb = true) (tie : b.tie = true) (crm : b.crm = true) :
    SameBut b s (replyReady r (settle before h u)) := by
  refine (replyReady_without _ r lp).trans ?_
  exact (settle_without u before h lp sru lc trk hd arb tie crm).trans own

theorem replied_bag (r : Reply) (before : State) (h : Nat) (u : State) :
    (replyReady r (settle before h u)).bag = u.bag := by
  rw [replyReady_bag, settle_bag]

/-- Settles O30: the load, the notice where the supply comes below the threshold, and the settling that lets BAGGER follow. -/
theorem loadBags : Obligations.LoadBags := by
  intro s tag p h length n st
  have answered := loadBags_replies h length
  have state : baggerLoaded s.bag.state (min Config.bagMax (leNat p)) = st := baggerLoaded_eq ..
  clear_value st
  subst state
  refine ⟨_, answered, ?_, ?_, replyReady_stands ⟨0x40, tag, p⟩ _ _ none _, fun above below => ?_, ?_⟩
  · refine replied_frame _ s _ ?_ rfl rfl rfl rfl rfl rfl rfl rfl
    exact (raiseBagsLow_without _ _ rfl).trans (without_onBag _ _ rfl)
  · rw [replied_bag, raised_bag]
    rfl
  · rw [replyReady_flag]
    exact settle_flag _ _ (raiseBagsLow_flag above below)
  · obtain ⟨-, bagger, -⟩ := replied_withhold _ s _ (raiseBagsLow s.bag.supply (bagsLoaded (min Config.bagMax (leNat p)) s))
    rw [replied_bag, raised_bag] at bagger
    exact bagger

/-! ### LOAD_CLIPS (R114) -/

theorem tyerLoaded_eq (st : TyerState) (owed : Bool) (n : Nat) : tyerLoaded st owed n =
    (match st with
      | .empty => if n = 0 then .empty else if owed then .reindexPending else .ready
      | .ready => if n = 0 then .empty else .ready
      | .reindexPending => if n = 0 then .empty else .reindexPending
      | .reindex => .reindex,
    match st with
      | .empty => owed && decide (n = 0)
      | .reindexPending => owed || decide (n = 0)
      | _ => owed) := by
  cases st <;> cases owed <;> rcases n with _ | n <;> rfl

theorem loadClips_tie (n : Nat) (s : State) : (loadClips n s).tie = { s.tie with
    supply := n
    state := (tyerLoaded s.tie.state s.tie.owed n).1
    owed := (tyerLoaded s.tie.state s.tie.owed n).2 } := rfl

theorem raised_tie (before : Nat) (s : State) : (raiseClipsLow before s).tie = s.tie :=
  kept_tie (raiseClipsLow_keeps before s) rfl

theorem settle_supply (before : State) (h : Nat) (u : State) : (settle before h u).tie.supply = u.tie.supply :=
  supply_of_steady (lasts_settle u before h).steady

theorem loadClips_replies {tag : Byte} {p : List Byte} (h : Handling ⟨0x41, tag, p⟩ s) (length : p.length = 2) :
    Replies (.loadClips tag p) ⟨0x41, tag, p⟩ (loadStatus Config.clipMax (leNat p))
      (fun t => leBytes 2 (min Config.clipMax (leNat p)) ++ [byteOf t.tie.state.code]) s
      (raiseClipsLow s.tie.supply (loadClips (min Config.clipMax (leNat p)) s)) := by
  rw [Replies, exec_handling (c := .loadClips tag p) h rfl length, ownLoadClips, giveReply]
  dsimp only
  rw [settle_supply, raised_tie, loadClips_tie]

theorem replied_tyer (r : Reply) (before : State) (h : Nat) (u : State) :
    (replyReady r (settle before h u)).arb.withhold.tyer = true ↔
      (replyReady r (settle before h u)).tie.state ≠ .ready := by
  obtain ⟨-, -, tyer, -⟩ := replied_withhold r before h u
  exact tyer

end Sys2Proof.Machine

namespace Sys2Proof.Requests

open Sys2Proof.Machine

/-- Settles O31: the tyer's row of R114, the notice, and a settling that can start the reindex at once (log entry 34). -/
theorem loadClips : Obligations.LoadClips := by
  intro s tag p h length
  have answered := loadClips_replies h length
  refine ⟨_, answered, ?_, ?_, fun above below => raiseClipsLow_flag above below, _, answered, replied_tyer ..⟩
  · exact (raiseClipsLow_without _ _ rfl).trans (without_onTie _ _ rfl)
  · rw [raised_tie, loadClips_tie, tyerLoaded_eq]
    rfl

end Sys2Proof.Requests
end

section
/-! PROOFS. CLEAR (R108, R122, R197). -/

namespace Sys2Proof.Machine

/-- CLEAR's own act: what R108 and R122 attach to it, and the flags of the kinds not refused. -/
def kindsCleared (named : BitVec 24) (s : State) : State :=
  (clearActs named s).onLp fun lp => { lp with flags := lp.flags &&& ~~~(named &&& ~~~s.refusedKinds named) }

theorem clear_replies {s : State} {tag : Byte} {p : List Byte} (h : Handling ⟨0x05, tag, p⟩ s) (length : p.length = 3) :
    Replies (.clear tag p) ⟨0x05, tag, p⟩ .ok (fun _ => leBytes 3 (s.refusedKinds (kindSet p)).toNat) s
      (kindsCleared (kindSet p) s) := by
  rw [Replies, exec_handling (c := .clear tag p) h rfl length, ownClear, giveReply_okay]
  dsimp only [kindsCleared]

theorem clearRefused_iff (s : State) (k : Kind) : s.clearRefused k = true ↔
    (k = .slip ∧ s.sru.slipActive = true) ∨ (k = .tableReserve ∧ s.trk.reserveHeld = true) ∨
      (k = .baggerDown ∧ s.bag.state = .down ∧ s.bag.supply = 0) ∨
      (k = .bagsLow ∧ s.bag.supply < s.set.bagsLow) ∨ (k = .clipsLow ∧ s.tie.supply < s.set.clipsLow) ∨
      (k = .tyerReindex ∧ (s.tie.state = .reindexPending ∨ s.tie.state = .reindex ∨ s.tie.owed = true)) ∨
      (k = .verifierBlind ∧ s.lc.state ≠ .ready) := by
  cases k <;> simp [State.clearRefused, Tie.reindexCause, or_assoc]

theorem baggerCleared_bag (s : State) : (baggerCleared s).bag =
    if s.bag.state = .down ∧ 0 < s.bag.supply then { s.bag with state := .ready, misses := 0 } else s.bag := by
  unfold baggerCleared
  split <;> rfl

theorem clearActs_bag (named : BitVec 24) (s : State) : (clearActs named s).bag =
    if kindIn named .baggerDown = true ∧ s.bag.state = .down ∧ 0 < s.bag.supply then
      { s.bag with state := .ready, misses := 0 } else s.bag := by
  have bag : (clearActs named s).bag = (if kindIn named .baggerDown then baggerCleared s else s).bag := by
    unfold clearActs
    dsimp only
    split <;> rfl
  rw [bag]
  cases kindIn named .baggerDown
  · simp
  · simpa using baggerCleared_bag s

theorem clearActs_tie (named : BitVec 24) (s : State) : (clearActs named s).tie =
    if kindIn named .verifierBlind = true ∧ s.lc.state = .ready then { s.tie with blind := false } else s.tie := by
  have tie : (if kindIn named .baggerDown then baggerCleared s else s).tie = s.tie := by
    split
    · exact kept_tie (b := { bag := true }) (baggerCleared_without s rfl) rfl
    · rfl
  unfold clearActs
  dsimp only
  split
  · rw [onTie_tie, tie]
  · exact tie

/-- Settles O54: the kinds refused are those whose cause stands, and only the two acts and the flags change. -/
theorem clear : Obligations.Clear := by
  intro s tag a b c h named refused
  have acts : SameBut { bag := true, tie := true } s (clearActs (kindSet [a, b, c]) s) := clearActs_keeps s _
  have lp := kept_lp acts rfl rfl
  have refuses : ∀ k, kindIn (s.refusedKinds (kindSet [a, b, c])) k = true ↔ refused k := fun k => by
    rw [kindIn_refusedKinds, Bool.and_eq_true, clearRefused_iff]
  refine ⟨kindsCleared (kindSet [a, b, c]) s, _, clear_replies h rfl, refuses, ?_, fun k => ?_, ?_, ?_, ?_⟩
  · exact (without_onLp _ _ rfl fun _ => ⟨rfl, rfl, rfl, rfl⟩).trans (clearActs_without s _ rfl rfl)
  · have flag : (kindsCleared (kindSet [a, b, c]) s).flag k =
        kindIn (s.lp.flags &&& ~~~(kindSet [a, b, c] &&& ~~~s.refusedKinds (kindSet [a, b, c]))) k := by
      rw [← lp]
      rfl
    rw [flag, kindIn_cleared, Bool.and_eq_true, Bool.or_eq_true, Bool.not_eq_true', refuses]
    rfl
  · rw [← lp]
    rfl
  · exact clearActs_bag _ s
  · exact clearActs_tie _ s

end Sys2Proof.Machine
end

section
/-! PROOFS. The store: a snapshot written, its end, a loss of power, and what comes back (R170, R171). -/

namespace Sys2Proof.Machine

variable {s : State}

/-! ### STORE and its end (R170) -/

/-- A store begun: the snapshot taken. -/
def storing (s : State) : State :=
  s.onPst fun p => { p with store := .writing ⟨p.settings, p.assign, p.slots⟩ 0 }

theorem exec_store_idle {tag : Byte} (h : Handling ⟨0x16, tag, []⟩ s) (idle : s.pst.store = .idle) :
    exec (.store tag []) s = .next (replyReady ⟨replyFrame 0x16 tag .ok [], none⟩ (storing s)) := by
  rw [exec_handling (c := .store tag []) h rfl rfl, ownStore, idle, giveReply_okay]
  rfl

theorem exec_store_busy {tag : Byte} (h : Handling ⟨0x16, tag, []⟩ s) (busy : s.pst.store ≠ .idle) :
    Refused (.store tag []) ⟨0x16, tag, []⟩ .busy s := by
  rw [Refused, exec_handling (c := .store tag []) h rfl rfl, ownStore]
  cases writing : s.pst.store with
  | idle => exact absurd writing busy
  | writing snap changed => exact congrArg Host.Outcome.next (giveReply_refuse ..)

/-- A store's end: the image written, and the marks of the safe sections cleared. -/
def storeWritten (snap : Snapshot) (changed failed : BitVec 17) (s : State) : State :=
  (s.onNv (storedImage snap failed)).onPst fun p =>
    { p with
      store := .idle
      unsaved := markAfter 0 failed changed p.unsaved
      slotUnsaved := Vector.ofFn fun i : Fin 16 => markAfter (i.val + 1) failed changed p.slotUnsaved[i] }

/-- A store's end with its notices. -/
def storeEnded (snap : Snapshot) (changed failed : BitVec 17) (s : State) : State :=
  raiseStoreFault failed (raise .storeDone (byteOf (sectionsWritten failed) :: sectionBytes failed)
    (storeWritten snap changed failed s))

theorem exec_storeComplete {snap : Snapshot} {changed : BitVec 17} (on : s.powered = true)
    (writing : s.pst.store = .writing snap changed) (f : BitVec 17) :
    exec (.storeComplete f) s = .next (storeEnded snap changed f s) := by
  have served : exec (.storeComplete f) s = execStoreComplete f s := rfl
  rw [served, execStoreComplete, whenPowered_event on, writing]
  rfl

theorem exec_storeComplete_idle (on : s.powered = true) (idle : s.pst.store = .idle) (f : BitVec 17) :
    exec (.storeComplete f) s = .next s := by
  have served : exec (.storeComplete f) s = execStoreComplete f s := rfl
  rw [served, execStoreComplete, whenPowered_event on, idle]

theorem storeWritten_spec (snap : Snapshot) (changed f : BitVec 17) (s : State) :
    let t := storeWritten snap changed f s
    (t.nv.lossCell = s.nv.lossCell ∧ t.nv.seqCell = s.nv.seqCell) ∧
      (t.pst.store, t.pst.settings, t.pst.slots, t.pst.assign, t.pst.clock) =
        (.idle, s.pst.settings, s.pst.slots, s.pst.assign, s.pst.clock) ∧
      t.pst.unsaved = (s.pst.unsaved && (f.getLsbD 0 || changed.getLsbD 0)) ∧
      ∀ i : Slot, t.pst.slotUnsaved[i] =
        (s.pst.slotUnsaved[i] && (f.getLsbD (i.val + 1) || changed.getLsbD (i.val + 1))) := by
  refine ⟨⟨rfl, rfl⟩, rfl, ?_, fun i => ?_⟩ <;> simp [storeWritten, markAfter]

theorem storeEnded_keeps (snap : Snapshot) (changed failed : BitVec 17) (s : State) :
    SameBut { lp := true } (storeWritten snap changed failed s) (storeEnded snap changed failed s) := by
  unfold storeEnded
  exact (raiseStoreFault_without _ failed rfl).trans (raise_without _ _ _ rfl)

theorem raiseStoreFault_flag (failed : BitVec 17) (k : Kind) (s : State) : (raiseStoreFault failed s).flag k =
    (s.flag k || decide (k = .storeFault ∧ failed ≠ 0)) := by
  unfold raiseStoreFault
  split
  · next zero => simp [zero]
  · next some => simp [show ¬failed = 0#17 from some]

theorem storeEnded_flag (snap : Snapshot) (changed failed : BitVec 17) (k : Kind) (s : State) :
    (storeEnded snap changed failed s).flag k =
      (s.flag k || decide (k = .storeDone) || decide (k = .storeFault ∧ failed ≠ 0)) := by
  unfold storeEnded
  rw [raiseStoreFault_flag, raise_flag]
  rfl

/-! ### A loss of power (R170) -/

theorem exec_powerLoss (on : s.powered = true) (n : Nat) (d : Bool) :
    exec (.powerLoss n d) s = .next (State.off (imageAtLoss n d s.pst.store s.nv) s.pending) :=
  congrArg Host.Outcome.next (if_pos on)

theorem imageAtLoss_cells (n : Nat) (d : Bool) (st : StoreState) (nv : Nonvolatile) :
    (imageAtLoss n d st nv).lossCell = nv.lossCell ∧ (imageAtLoss n d st nv).seqCell = nv.seqCell := by
  cases st <;> exact ⟨rfl, rfl⟩

theorem lostSection_first {α : Type} (n : Nat) (d : Bool) (content : α) (old : Section α) :
    lostSection 0 n d content old = if 0 < n then .good content else if n = 0 ∧ d = true then .bad else old := by
  simp [lostSection, eq_comm]

/-- Settles O57: STORE and its end by the store's state, a loss of power section by section. -/
theorem storeWritesSections : Obligations.StoreWritesSections := by
  intro s tag on
  refine ⟨exec_store_idle, exec_store_busy, exec_storeComplete_idle on, fun snap changed f writing => ?_, fun n d => ?_⟩
  · have kept := storeEnded_keeps snap changed f s
    have nv := kept_nv kept rfl
    have pst := kept_pst kept rfl rfl
    refine ⟨_, exec_storeComplete on writing f, ?_, ?_, fun failed => ?_, fun none => ?_, ?_, fun i => ?_, ?_⟩
    · unfold storeEnded storeWritten
      refine (raiseStoreFault_without _ f rfl).trans ((raise_without _ _ _ rfl).trans ?_)
      simp
    · simp [storeEnded_flag]
    · simp [storeEnded_flag, show ¬f = 0#17 from failed]
    · simp [storeEnded_flag, none]
    · rw [nv]; rfl
    · rw [nv]
      simp [storeWritten, storedImage, storedSection]
    · rw [nv, pst]
      obtain ⟨cells, rest, unsaved, slots⟩ := storeWritten_spec snap changed f s
      exact ⟨cells.1, cells.2, congrArg Prod.fst rest, congrArg (·.2.1) rest, congrArg (·.2.2.1) rest,
        congrArg (·.2.2.2.1) rest, congrArg (·.2.2.2.2) rest, unsaved, slots⟩
  · obtain ⟨loss, seq⟩ := imageAtLoss_cells n d s.pst.store s.nv
    refine ⟨_, exec_powerLoss on n d, rfl, rfl, loss, seq, fun idle => ?_, fun snap changed writing => ⟨?_, fun i => ?_⟩⟩
    · exact congrArg (imageAtLoss n d · s.nv) idle
    · have image : (imageAtLoss n d s.pst.store s.nv).settings =
          lostSection 0 n d (snap.settings, snap.assign) s.nv.settings := by rw [writing]; rfl
      exact image.trans (lostSection_first ..)
    · have image : (imageAtLoss n d s.pst.store s.nv).slots[i] = lostSection (i.val + 1) n d snap.slots[i] s.nv.slots[i] := by
        rw [writing]
        simp [imageAtLoss]
      exact image

/-! ### What comes back (R171) -/

/-- An image whose every section is good and valid, the assignments on slots that hold a profile. -/
structure Stored (x : LineSettings) (a : PerLane (Option Slot)) (slots : PerSlot (Option Profile)) (nv : Nonvolatile) : Prop where
  settings : nv.settings = .good (x, a)
  slot : ∀ i : Slot, nv.slots[i] = .good slots[i]
  valid : settingsValid x = true
  profiles : ∀ i : Slot, ∀ p, slots[i] = some p → profileValid p = true
  assigned : ∀ l : Lane, ∀ i, a[l] = some i → (slots[i]).isSome = true

theorem Stored.slots {x : LineSettings} {a : PerLane (Option Slot)} {slots : PerSlot (Option Profile)} {nv : Nonvolatile}
    (h : Stored x a slots nv) (i : Slot) : loadSlot nv.slots[i] = (slots[i], false) := by
  rw [h.slot, loadSlot_good (h.profiles i)]

theorem Stored.load {x : LineSettings} {a : PerLane (Option Slot)} {slots : PerSlot (Option Profile)} {nv : Nonvolatile}
    (h : Stored x a slots nv) :
    let p := (loadImage nv).1
    p.settings = x ∧ p.assign = a ∧ p.slots = slots ∧ p.unsaved = false ∧ p.defaulted = false ∧
      (∀ i : Slot, p.slotUnsaved[i] = false) ∧ (loadImage nv).2 = 0 := by
  intro p
  obtain ⟨settings, defaulted, assign, unsaved⟩ := loadImage_settings_good h.settings h.valid
  have loaded : p.slots = slots := by
    refine Vector.ext fun i hi => ?_
    have slot := (loadImage_slot nv ⟨i, hi⟩).1
    rwa [h.slots] at slot
  have mark : ∀ i : Slot, p.slotUnsaved[i] = false := fun i => by
    rw [(loadImage_slot nv i).2, h.slots]
  have same : p.assign = a := by
    refine Vector.ext fun l hl => ?_
    refine (assign ⟨l, hl⟩).trans ?_
    rw [show (loadImage nv).1.slots = slots from loaded]
    cases at_ : a[l] with
    | none => simp
    | some i =>
      have held : (slots[i.val]).isSome = true := h.assigned ⟨l, hl⟩ i at_
      simp [held]
  have none : (loadImage nv).2 = 0 := by
    have settingsGood : (loadSettings nv.settings).2.2 = false := by rw [h.settings, loadSettings_good h.valid]
    have slotsGood : ∀ i : Slot, (loadSlot nv.slots[i.val]).2 = false := fun i => congrArg Prod.snd (h.slots i)
    simp [loadImage, settingsGood, slotsGood]
  refine ⟨settings, same, loaded, ?_, defaulted, mark, none⟩
  exact Bool.eq_false_iff.2 fun set => unsaved.1 set same

theorem storeWritten_stored {x : LineSettings} {a : PerLane (Option Slot)} {slots : PerSlot (Option Profile)}
    (valid : settingsValid x = true) (profiles : ∀ i : Slot, ∀ p, slots[i] = some p → profileValid p = true)
    (assigned : ∀ l : Lane, ∀ i, a[l] = some i → (slots[i]).isSome = true) (changed : BitVec 17) (s : State) :
    Stored x a slots (storeWritten ⟨x, a, slots⟩ changed 0 s).nv :=
  ⟨by simp [storeWritten, storedImage, storedSection], fun i => by simp [storeWritten, storedImage, storedSection],
    valid, profiles, assigned⟩

/-- A power-on over a stored image. -/
theorem exec_powerOn_stored {x : LineSettings} {a : PerLane (Option Slot)} {slots : PerSlot (Option Profile)}
    (h : Stored x a slots s.nv) (estop : Bool) : ∃ t, exec (.powerOn estop) s = .next t ∧
      t.set = x ∧ t.pst.assign = a ∧ t.pst.slots = slots ∧ t.pst.unsaved = false ∧ t.pst.defaulted = false ∧
      (∀ i : Slot, t.pst.slotUnsaved[i] = false) ∧ t.flag .storeFault = false ∧ t.nv = s.nv := by
  obtain ⟨settings, assign, held, unsaved, defaulted, marks, none⟩ := h.load
  have flag := firstRaisings_flag (loadImage s.nv).2 (poweredOn s.nv estop s.pending) .storeFault
  obtain ⟨lp, up⟩ := firstRaisings_lp (loadImage s.nv).2 (poweredOn s.nv estop s.pending)
  have clear : (poweredOn s.nv estop s.pending).flag .storeFault = false := by
    simp [poweredOn, State.flag, kindIn, Lp.powerOn]
  have on := exec_powerOn estop s
  rw [clear, none] at flag
  rw [none] at on up
  generalize firstRaisings 0 (poweredOn s.nv estop s.pending) = v at flag up on
  refine ⟨v, on, ?_, ?_, ?_, ?_, ?_, ?_, ?_, ?_⟩
  · rw [up]; exact settings
  · rw [up]; exact assign
  · rw [up]; exact held
  · rw [up]; exact unsaved
  · rw [up]; exact defaulted
  · rw [up]; exact marks
  · refine Bool.eq_false_iff.2 fun set => ?_
    simp at flag
    exact Bool.false_ne_true (flag.symm.trans set)
  · rw [up]; rfl

/-- Settles O58: the store's end leaves a whole image, which the loss of power leaves and the power-on loads. -/
theorem storeSurvivesPowerLoss : Obligations.StoreSurvivesPowerLoss := by
  intro s tag n d estop h holds idle
  obtain ⟨valid, profiles, assigned⟩ := holds
  generalize stored : storing s = v
  have writing : v.pst.store = .writing ⟨s.pst.settings, s.pst.assign, s.pst.slots⟩ 0 := by rw [← stored]; rfl
  have cells : v.nv = s.nv := by rw [← stored]; rfl
  generalize answered : replyReady ⟨replyFrame 0x16 tag .ok [], none⟩ v = t
  have on : t.powered = true := by rw [← answered, ← stored]; exact h.1
  have pst : t.pst = v.pst := by rw [← answered]; rfl
  have nv : t.nv = s.nv := by rw [← answered]; exact cells
  have done := exec_storeComplete on (pst ▸ writing) 0
  have kept := storeEnded_keeps ⟨s.pst.settings, s.pst.assign, s.pst.slots⟩ 0 0 t
  obtain ⟨⟨loss, seq⟩, rest, -, -⟩ := storeWritten_spec ⟨s.pst.settings, s.pst.assign, s.pst.slots⟩ 0 0 t
  have whole := storeWritten_stored (x := s.pst.settings) valid profiles assigned 0 t
  generalize storeEnded ⟨s.pst.settings, s.pst.assign, s.pst.slots⟩ 0 0 t = e at done kept
  have written := kept_nv kept rfl
  have again : e.pst.store = .idle := by
    rw [kept_pst kept rfl rfl]
    exact congrArg Prod.fst rest
  have stillOn : e.powered = true := (kept_powered kept).trans on
  have image : (State.off (imageAtLoss n d e.pst.store e.nv) e.pending).nv = e.nv :=
    congrArg (imageAtLoss n d · e.nv) again
  rw [← written] at whole loss seq
  have off : Stored s.pst.settings s.pst.assign s.pst.slots
      (State.off (imageAtLoss n d e.pst.store e.nv) e.pending).nv := by
    rw [image]
    exact whole
  obtain ⟨u, up, set, assign, slots, unsaved, defaulted, marks, fault, memory⟩ := exec_powerOn_stored off estop
  refine ⟨t, e, _, u, ?_, done, exec_powerLoss stillOn n d, up, set, assign, slots, unsaved, defaulted, marks, fault, ?_, ?_⟩
  · rw [exec_store_idle h idle, stored, answered]
  · rw [State.lossCount, State.lossCount, memory, image, loss, nv]
  · rw [State.nextShiftSeq, State.nextShiftSeq, memory, image, seq, nv]

end Sys2Proof.Machine
end

section
/-! PROOFS. Profiles put into a slot and read back (R162 to R165, R203). -/

namespace Sys2Proof.Machine

variable {s : State}

/-! ### The bytes of a profile -/

theorem takeWhile_padTo {n : Nat} {name : List Byte} (short : name.length ≤ n)
    (printable : ∀ c ∈ name, 0x20 ≤ c.toNat) : (padTo n name).takeWhile (· != 0) = name := by
  have nonzero : ∀ c ∈ name, (c != 0) = true := fun c hc => by
    have := printable c hc
    simp only [bne_iff_ne, ne_eq]
    rintro rfl
    exact absurd this (by decide)
  rw [padTo, List.take_of_length_le short, List.takeWhile_append_of_pos nonzero, List.takeWhile_replicate]
  simp

/-- A valid profile is read back from its bytes. -/
theorem parseProfile_profileBytes {p : Profile} (valid : profileValid p = true) : parseProfile (profileBytes (some p)) = p := by
  unfold profileValid at valid
  simp only [Bool.and_eq_true, decide_eq_true_eq, List.all_eq_true] at valid
  obtain ⟨⟨⟨code, short⟩, printable⟩, t, t', e, lmin, lmin', lmax, lmax', nmin, nmin', nmax, nmax', crumb, shelf, shelf', bag, bag', -⟩ :=
    valid
  have two : ∀ v : Nat, v < 65536 → leNat (leBytes 2 v) = v := fun v hv => leNat_leBytes 2 v hv
  have one : ∀ v : Nat, v < 256 → leNat [byteOf v] = v := fun v hv => leNat_leBytes 1 v hv
  have name := takeWhile_padTo short fun c hc => (printable c hc).1
  obtain ⟨pc, pn, pt, pe, pl, pm, pa, pb, pr, ps, pg⟩ := p
  dsimp only at *
  simp only [parseProfile, profileBytes, List.drop_append, List.append_assoc, Profile.mk.injEq]
  simp [List.drop_of_length_le]
  exact ⟨two pc (by omega), name, two pt (by omega), two pe (by omega), two pl (by omega), two pm (by omega),
    one pa (by omega), one pb (by omega), one pr (by omega), one ps (by omega), one pg (by omega)⟩

theorem leNat_take_drop_lt (bs : List Byte) (i n : Nat) : leNat ((bs.drop i).take n) < 256 ^ n :=
  (leNat_lt _).trans_le (Nat.pow_le_pow_right (by decide) (by simp))

/-- What 28 bytes carry is a valid profile exactly when its values lie in the ranges of R162 that a field can leave. -/
theorem profileValid_parse (bs : List Byte) : let p := parseProfile bs
    profileValid p = true ↔ p.name.all (fun c => decide (0x20 ≤ c.toNat ∧ c.toNat ≤ 0x7E)) = true ∧
      60 ≤ p.t ∧ p.t ≤ 300 ∧ p.e ≤ 300 ∧ 500 ≤ p.lmin ∧ p.lmin ≤ p.lmax ∧ p.lmax ≤ 6000 ∧
      3 ≤ p.nmin ∧ p.nmin ≤ p.nmax ∧ p.nmax ≤ 60 ∧ 1 ≤ p.shelf ∧ p.shelf ≤ 60 ∧
      1 ≤ p.bagClass ∧ p.bagClass ≤ 4 ∧ 2 * p.e + p.t < p.lmin := by
  intro p
  have code : p.code < 65536 := leNat_take_drop_lt bs 0 2
  have crumb : p.crumb < 256 := leNat_take_drop_lt bs 24 1
  have name : p.name.length ≤ 12 :=
    (List.takeWhile_sublist _).length_le.trans (List.length_take_le ..)
  unfold profileValid
  simp only [Bool.and_eq_true, decide_eq_true_eq]
  constructor
  · rintro ⟨⟨-, printable⟩, rest⟩
    exact ⟨printable, by omega⟩
  · rintro ⟨printable, rest⟩
    exact ⟨⟨by omega, printable⟩, by omega⟩

/-! ### PUT_PROFILE and GET_PROFILE (R164, R165) -/

theorem asFlag_toNat (b : Byte) : asFlag b.toNat = if b = 0 then some false else if b = 1 then some true else none := by
  have zero : b.toNat = 0 ↔ b = 0 := BitVec.toNat_inj (y := 0)
  have one : b.toNat = 1 ↔ b = 1 := BitVec.toNat_inj (y := 1)
  simp only [asFlag, zero, one]

theorem slotInUse_iff (s : State) (i : Slot) :
    s.slotInUse i = true ↔ (∃ l : Lane, s.pst.assign[l] = some i) ∨ 0 < s.pst.refs[i] := by
  simp only [State.slotInUse, Bool.or_eq_true, List.any_eq_true, decide_eq_true_eq]
  exact or_congr_left ⟨fun ⟨l, _, h⟩ => ⟨l, h⟩, fun ⟨l, h⟩ => ⟨l, mem_lanes l, h⟩⟩

theorem ownPutProfile_slot {body : List Byte} {i : Slot} (slot : byteAt body 0 = i.val) {v : Bool}
    (flag : asFlag (byteAt body 28) = some v) (s : State) :
    ownPutProfile body s = putSlot i (if v then some (parseProfile (body.drop 1)) else none) s := by
  rw [ownPutProfile, slot, asSlot_val, flag]

theorem writeSlot_eq (i : Slot) (x : Option Profile) (s : State) : writeSlot i x s =
    if s.pst.slots[i] = x then s else { s with pst := { s.pst with
      slots := putAt s.pst.slots i x
      slotUnsaved := putAt s.pst.slotUnsaved i true
      store := s.pst.store.touch (i.val + 1) } } := by
  by_cases same : s.pst.slots[i] = x
  · rw [if_pos same, writeSlot, State.onPst, if_pos same]
  · rw [if_neg same, writeSlot, State.onPst, if_neg same]

theorem writeSlot_mark (i : Slot) (x : Option Profile) (s : State) :
    (writeSlot i x s).pst.slotUnsaved[i] = (s.pst.slotUnsaved[i] || decide (s.pst.slots[i] ≠ x)) := by
  rw [writeSlot_eq]
  split
  · next same => simp [same]
  · next other =>
    have changed : ¬s.pst.slots[i.val] = x := other
    simp [changed]

theorem exec_putProfile {tag : Byte} {body : List Byte} (h : Handling ⟨0x12, tag, body⟩ s) (length : body.length = 29) :
    exec (.putProfile tag body) s = .next (giveReply 0x12 tag (ownPutProfile body s)) :=
  exec_handling (c := .putProfile tag body) h rfl length

/-- The outcomes of a PUT_PROFILE whose payload names a slot and a content. -/
theorem putProfile_named {tag : Byte} {body : List Byte} {i : Slot} {v : Bool} {x : Option Profile}
    (h : Handling ⟨0x12, tag, body⟩ s) (length : body.length = 29) (slot : byteAt body 0 = i.val)
    (flag : asFlag (byteAt body 28) = some v) (carries : (if v then some (parseProfile (body.drop 1)) else none) = x) :
    ((∃ p, x = some p ∧ ¬profileValid p = true) → Refused (.putProfile tag body) ⟨0x12, tag, body⟩ .badField s) ∧
    ((∀ p, x = some p → profileValid p = true) →
      (((∃ l : Lane, s.pst.assign[l] = some i) ∨ 0 < s.pst.refs[i]) →
        Refused (.putProfile tag body) ⟨0x12, tag, body⟩ .wrongState s) ∧
      (¬((∃ l : Lane, s.pst.assign[l] = some i) ∨ 0 < s.pst.refs[i]) → exec (.putProfile tag body) s = .next
        (replyReady ⟨replyFrame 0x12 tag .ok [byteOf i.val, flagByte x.isSome,
            flagByte (s.pst.slotUnsaved[i] || decide (s.pst.slots[i] ≠ x))], none⟩
          (if s.pst.slots[i] = x then s else { s with pst := { s.pst with
            slots := putAt s.pst.slots i x
            slotUnsaved := putAt s.pst.slotUnsaved i true
            store := s.pst.store.touch (i.val + 1) } }))) ) := by
  have answered := exec_putProfile h length
  rw [ownPutProfile_slot slot flag, carries] at answered
  refine ⟨?_, fun valid => ?_⟩
  · rintro ⟨p, rfl, invalid⟩
    rw [Refused, answered, putSlot, if_pos (by simp [invalid]), giveReply_refuse]
  · have good : ¬(x.any (fun p => !profileValid p) = true) := by
      cases x with
      | none => simp
      | some p => simp [valid p rfl]
    rw [putSlot, if_neg good] at answered
    refine ⟨fun used => ?_, fun free => ?_⟩
    · rw [Refused, answered, if_pos ((slotInUse_iff s i).2 used), giveReply_refuse]
    · rw [answered, if_neg (mt (slotInUse_iff s i).1 free)]
      dsimp only
      rw [giveReply_okay, writeSlot_mark, writeSlot_eq]

theorem putProfile_badFlag {tag : Byte} {body : List Byte} (h : Handling ⟨0x12, tag, body⟩ s) (length : body.length = 29)
    (flag : asFlag (byteAt body 28) = none) : Refused (.putProfile tag body) ⟨0x12, tag, body⟩ .badField s := by
  have refuses : ownPutProfile body s = Answer.refuse s .badField := by
    rw [ownPutProfile, flag]
    cases asSlot (byteAt body 0) <;> rfl
  rw [Refused, exec_putProfile h length, refuses, giveReply_refuse]

theorem putProfile_badSlot {tag : Byte} {body : List Byte} (h : Handling ⟨0x12, tag, body⟩ s) (length : body.length = 29)
    (slot : 16 ≤ byteAt body 0) : Refused (.putProfile tag body) ⟨0x12, tag, body⟩ .badField s := by
  rw [Refused, exec_putProfile h length, ownPutProfile, asSlot_of_ge slot, giveReply_refuse]

theorem getProfile_named {tag : Byte} {body : List Byte} {i : Slot} (h : Handling ⟨0x13, tag, body⟩ s)
    (length : body.length = 1) (slot : byteAt body 0 = i.val) : exec (.getProfile tag body) s = .next
      (replyReady ⟨replyFrame 0x13 tag .ok (byteOf i.val :: profileBytes s.pst.slots[i] ++
        [byteOf (laneSet fun l => decide (s.pst.assign[l] = some i)), byteOf s.pst.refs[i],
          flagByte s.pst.slotUnsaved[i]]), none⟩ s) := by
  rw [exec_handling (c := .getProfile tag body) h rfl length, ownGetProfile, slot, asSlot_val]
  dsimp only
  rw [giveReply_okay]

theorem getProfile_badSlot {tag : Byte} {body : List Byte} (h : Handling ⟨0x13, tag, body⟩ s) (length : body.length = 1)
    (slot : 16 ≤ byteAt body 0) : Refused (.getProfile tag body) ⟨0x13, tag, body⟩ .badField s := by
  rw [Refused, exec_handling (c := .getProfile tag body) h rfl length, ownGetProfile, asSlot_of_ge slot]
  dsimp only
  rw [giveReply_refuse]

theorem byteAt_slot (i : Slot) (rest : List Byte) : byteAt (byteOf i.val :: rest) 0 = i.val := by
  have := i.isLt
  simp [byteAt, byteOf]
  omega

theorem byteAt_last {b : List Byte} (length : b.length = 27) (a flag : Byte) : byteAt (a :: b ++ [flag]) 28 = flag.toNat := by
  simp [byteAt, length]

/-- The bytes of a slot with its flag byte, and what they carry. -/
theorem profileBytes_carry {x : Option Profile} (valid : ∀ p, x = some p → profileValid p = true) (a : Byte) :
    (a :: profileBytes x).length = 29 ∧ asFlag (byteAt (a :: profileBytes x) 28) = some x.isSome ∧
      (if x.isSome then some (parseProfile (List.drop 1 (a :: profileBytes x))) else none) = x := by
  cases x with
  | none => exact ⟨rfl, rfl, rfl⟩
  | some p =>
    refine ⟨by simp [profileBytes], ?_, ?_⟩
    · simp [profileBytes, byteAt, asFlag]
    · simp [parseProfile_profileBytes (valid p rfl)]

/-- Settles O55: a payload names a slot and a content, and the bytes of a valid profile carry it. -/
theorem profilesReadBack : Obligations.ProfilesReadBack := by
  refine ⟨fun s i tag b flag length => ?_, fun s i x valid => ⟨?_, ?_, ?_, ?_, ?_⟩⟩
  · intro body r p inRange inUse put h
    have long : body.length = 29 := by simp [body, length]
    have slot : byteAt body 0 = i.val := byteAt_slot i _
    have last : asFlag (byteAt body 28) = if flag = 0 then some false else if flag = 1 then some true else none := by
      rw [byteAt_last length, asFlag_toNat]
    have carries : profileValid p = true ↔ inRange := profileValid_parse (b ++ [flag])
    have full : flag = 1 → asFlag (byteAt body 28) = some true := fun f => by rw [last, f]; rfl
    have empty : flag = 0 → asFlag (byteAt body 28) = some false := fun f => by rw [last, f]; rfl
    have filled := fun f : flag = 1 => putProfile_named (x := some p) h long slot (full f) rfl
    have emptied := fun f : flag = 0 => putProfile_named (x := none) h long slot (empty f) rfl
    refine ⟨fun f bad => ?_, fun above => ?_, fun f used => ?_, fun f good free => ?_, fun f free => ?_⟩
    · exact (filled f).1 ⟨p, rfl, mt carries.1 bad⟩
    · refine putProfile_badFlag h long ?_
      rw [last, if_neg (by rintro rfl; exact absurd above (by decide)), if_neg (by rintro rfl; exact absurd above (by decide))]
    · rcases f with f | ⟨f, good⟩
      · exact ((emptied f).2 nofun).1 used
      · exact ((filled f).2 fun q e => Option.some.inj e ▸ carries.2 good).1 used
    · exact ((filled f).2 fun q e => Option.some.inj e ▸ carries.2 good).2 free
    · exact ((emptied f).2 nofun).2 free
  · intro tag h used
    obtain ⟨long, flag, carried⟩ := profileBytes_carry valid (byteOf i.val)
    exact ((putProfile_named h long (byteAt_slot i _) flag carried).2 valid).1 used
  · intro tag h free
    obtain ⟨long, flag, carried⟩ := profileBytes_carry valid (byteOf i.val)
    exact ((putProfile_named h long (byteAt_slot i _) flag carried).2 valid).2 free
  · rintro tag h rfl
    exact getProfile_named h rfl (byteAt_slot i _)
  · exact fun tag n p above => ⟨fun length h => putProfile_badSlot h (by simp [length]) above,
      fun h => getProfile_badSlot h rfl above⟩
  · rintro p q rfl
    have read := parseProfile_profileBytes (valid p rfl)
    exact ⟨read, fun same good => by rw [← read, same, parseProfile_profileBytes good]⟩

end Sys2Proof.Machine
end

section
/-! PROOFS. A plan fits its loaf and its blade (R57 to R61). -/

namespace Sys2Proof.Machine

theorem cutsFit_of_span {p : Profile} {len k : Nat} (positive : 1 ≤ k) (long : 2 * p.e ≤ len) (wide : k ≤ len - 2 * p.e) :
    CutsFit p len k := by
  unfold CutsFit cutOffset span
  refine ⟨by simp, ?_, fun i _ => ?_⟩
  · rw [Nat.mul_div_cancel_left _ positive]
    omega
  · have next : (i + 1) * (len - 2 * p.e) = i * (len - 2 * p.e) + (len - 2 * p.e) := Nat.succ_mul ..
    have step : i * (len - 2 * p.e) / k + 1 ≤ (i * (len - 2 * p.e) + (len - 2 * p.e)) / k := by
      rw [← Nat.add_div_right _ positive]
      exact Nat.div_le_div_right (by omega)
    rw [next]
    omega

theorem clamp_bounds {p : Profile} (order : p.nmin ≤ p.nmax) (len : Nat) :
    p.nmin - 2 ≤ interiorCount p len ∧ interiorCount p len ≤ p.nmax - 2 := by
  unfold interiorCount
  omega

/-- The kept count of the rate check: the clamped one, or the greatest the blade can make. -/
theorem rateCheck_spec {p : Profile} {len rmax v k : Nat} {thick : Bool} (h : rateCheck p len rmax v = some (k, thick)) :
    (k = interiorCount p len ∨ (p.nmin - 2 ≤ k ∧ k < interiorCount p len)) ∧ k * v ≤ rmax * span p len := by
  unfold rateCheck at h
  dsimp only at h
  split at h
  · next fits =>
    obtain ⟨rfl, -⟩ := (Prod.mk.injEq ..).mp (Option.some.inj h)
    refine ⟨.inl rfl, ?_⟩
    rcases fits with rfl | fits
    · simp
    · exact fits
  · next tooFast =>
    split at h
    · next enough =>
      obtain ⟨rfl, -⟩ := (Prod.mk.injEq ..).mp (Option.some.inj h)
      have moving : 0 < v := by omega
      refine ⟨.inr ⟨enough, ?_⟩, Nat.div_mul_le_self ..⟩
      rw [Nat.div_lt_iff_lt_mul moving]
      omega
    · exact nomatch h

/-- Settles O21: the clamp keeps the count under the slices of the profile, which are fewer than the track units of the
span. -/
theorem plansFit : Obligations.PlansFit := by
  intro p len rmax v k thick valid low high checked
  unfold profileValid at valid
  simp only [Bool.and_eq_true, decide_eq_true_eq] at valid
  obtain ⟨-, thin, -, -, -, -, -, -, few, -, order, many, -, -, -, -, -, fits⟩ := valid
  obtain ⟨count, rate⟩ := rateCheck_spec checked
  obtain ⟨least, most⟩ := clamp_bounds order len
  have bounds : p.nmin - 2 ≤ k ∧ k ≤ p.nmax - 2 := by omega
  exact ⟨bounds.1, bounds.2, by omega, rate, cutsFit_of_span (by omega) (by omega) (by omega)⟩

end Sys2Proof.Machine
end

section
/-! PROOFS. A lane fault with and without narrowing (R79, R80, R83, R179). -/

namespace Sys2Proof.Machine

variable {s t u : State}

/-! ### A drain request (R179) -/

theorem requestDrain_drains {cause : StopCause} (h : s.lc.state = .running ∨ (s.lc.state = .starting ∧ s.tableCount ≠ 0)) :
    requestDrain cause s = enterDraining cause s := by
  unfold requestDrain
  rcases h with running | ⟨starting, records⟩
  · rw [running]
  · rw [starting]
    exact if_neg records

theorem requestDrain_readies {cause : StopCause} (starting : s.lc.state = .starting) (empty : s.tableCount = 0) :
    requestDrain cause s = enterReady cause s := by
  unfold requestDrain
  rw [starting]
  exact if_pos empty

theorem requestDrain_idle {cause : StopCause} (h : s.lc.state ≠ .starting ∧ s.lc.state ≠ .running) :
    requestDrain cause s = s := by
  unfold requestDrain
  cases state : s.lc.state with
  | starting => exact absurd state h.1
  | running => exact absurd state h.2
  | _ => rfl

theorem enterDraining_lane (cause : StopCause) (l : Lane) (s : State) : (enterDraining cause s).lane l = s.lane l := rfl

/-! ### A lane fault, before it asks for a drain -/

/-- A lane fault takes its lane out of service (R79). -/
def GoesOut (spinning : Bool) (l : Lane) (s : State) : Prop :=
  (s.lane l).state = .running ∨ (s.lane l).state = .trial ∨
    ((s.lane l).state = .idle ∧ spinning = true ∧ (s.lane l).target = true ∧
      (s.lc.state = .starting ∨ s.lc.state = .running))

theorem spinsUp_iff (x : LineState) : x.spinsUp = true ↔ x = .starting ∨ x = .running := by
  cases x <;> simp [LineState.spinsUp]

/-- What a lane fault leaves before narrowing applies. -/
structure Faulted (f : LaneFault) (sp : Bool) (l : Lane) (s m : State) : Prop where
  taken : FaultTaken f sp l s m
  heads : m.hd.heads = s.hd.heads
  others : OtherLanesKept l s m
  frame : SameBut { lp := true, hd := true } s m
  flags : ∀ k, s.flag k = true → m.flag k = true

/-- A change of one lane's values alone. -/
structure LaneAlone (l : Lane) (s v : State) : Prop where
  heads : v.hd.heads = s.hd.heads
  others : ∀ k, k ≠ l → v.lane k = s.lane k
  frame : ∀ b : Parts, b.hd = true → v.without b = s.without b
  lp : v.lp = s.lp

theorem laneAlone_onLane (l : Lane) (g : LaneCtl → LaneCtl) (s : State) : LaneAlone l s (onLane l g s) :=
  ⟨rfl, fun _ other => lane_onLane_ne g s other, fun _ hd => onLane_without s l g hd, rfl⟩

theorem LaneAlone.trans {l : Lane} (h : LaneAlone l s t) (k : LaneAlone l t u) : LaneAlone l s u :=
  ⟨k.heads.trans h.heads, fun j other => (k.others j other).trans (h.others j other), fun b hd => (k.frame b hd).trans (h.frame b hd),
    k.lp.trans h.lp⟩

/-- LANE_CHANGE raised for the new values of a lane. -/
theorem LaneAlone.faulted {f : LaneFault} {sp : Bool} {l : Lane} (h : LaneAlone l s t)
    (taken : FaultTaken f sp l s (raiseLane l t)) : Faulted f sp l s (raiseLane l t) where
  taken := taken
  heads := h.heads
  others := fun k other => ⟨congrArg (fun v : PerLane Head => v[k]) h.heads, h.others k other⟩
  frame := (raiseLane_without t l rfl).trans (h.frame _ rfl)
  flags := fun k set => by
    rw [raiseLane_flag, State.flag, h.lp]
    exact Bool.or_eq_true_iff.2 (.inl set)

/-- A lane fault notes itself in its lane; where the lane goes out of service, narrowing then applies. -/
theorem laneFault_eq (f : LaneFault) (sp : Bool) (l : Lane) (s : State) : ∃ m, Faulted f sp l s m ∧
    (GoesOut sp l s → laneFault f sp l s = askNarrowing m) ∧ (¬GoesOut sp l s → laneFault f sp l s = m) := by
  have noted := laneAlone_onLane l (fun c => { c with lastFault := some (f, s.pos) }) s
  unfold laneFault faultTo
  dsimp only
  cases state : (s.lane l).state with
  | running =>
    refine ⟨_, (noted.trans (laneAlone_onLane l _ _)).faulted ?_, fun _ => rfl, fun stays => absurd (.inl state) stays⟩
    simp [FaultTaken, state]
  | trial =>
    refine ⟨_, ((noted.trans (laneAlone_onLane l _ _)).trans (laneAlone_onLane l _ _)).faulted ?_, fun _ => rfl,
      fun stays => absurd (.inr (.inl state)) stays⟩
    simp [FaultTaken, state, satAdd, afterTrial]
  | down =>
    refine ⟨_, (noted.trans (laneAlone_onLane l _ _)).faulted ?_, fun out => ?_, fun _ => rfl⟩
    · simp [FaultTaken, state]
    · simp [GoesOut, state] at out
  | parked =>
    refine ⟨_, noted.faulted ?_, fun out => ?_, fun _ => rfl⟩
    · simp [FaultTaken, state]
    · simp [GoesOut, state] at out
  | idle =>
    have due : (sp = true ∧ (s.lane l).target = true ∧ s.lc.state.spinsUp = true) ↔ GoesOut sp l s := by
      simp [GoesOut, state, spinsUp_iff]
    dsimp only
    split
    · next out =>
      refine ⟨_, (noted.trans (laneAlone_onLane l _ _)).faulted ?_, fun _ => rfl, fun stays => absurd (due.1 out) stays⟩
      obtain ⟨spinning, target, line⟩ := out
      simp [FaultTaken, state, spinning, target, (spinsUp_iff _).1 line]
    · next stays =>
      refine ⟨_, noted.faulted ?_, fun out => absurd (due.2 out) stays, fun _ => rfl⟩
      simp only [spinsUp_iff] at stays
      simp [FaultTaken, state, stays]

/-! ### A lane fault while narrowing is off (R80) -/

theorem laneFault_flag (f : LaneFault) (sp : Bool) (l : Lane) {k : Kind} (set : s.flag k = true) :
    (laneFault f sp l s).flag k = true := by
  obtain ⟨m, faulted, out, stays⟩ := laneFault_eq f sp l s
  have kept := faulted.flags k set
  by_cases goes : GoesOut sp l s
  · rw [out goes, askNarrowing]
    split
    · exact kept
    · exact (lasts_requestDrain m .laneFault).flags k kept
  · rwa [stays goes]

/-- What a lane has taken says the same of any later state with the same lane and the flag. -/
theorem FaultTaken.congr {f : LaneFault} {sp : Bool} {l : Lane} (h : FaultTaken f sp l s t) (lane : u.lane l = t.lane l)
    (flag : u.flag .laneChange = true) : FaultTaken f sp l s u := by
  obtain ⟨fault, target, -, cases⟩ := h
  unfold FaultTaken
  dsimp only
  rw [lane]
  exact ⟨fault, target, flag, cases⟩

/-- While narrowing is off a lane fault that takes its lane out of service asks for a drain. -/
theorem laneFault_drains (f : LaneFault) (sp : Bool) (l : Lane) (off : s.set.narrowing = false) :
    FaultDrains f sp l s (laneFault f sp l s) ∧
      SameBut { lp := true, sru := true, lc := true, hd := true } s (laneFault f sp l s) := by
  obtain ⟨m, faulted, out, stays⟩ := laneFault_eq f sp l s
  have lc := kept_lc faulted.frame rfl rfl
  have count : m.tableCount = s.tableCount := tableCount_of_trk (kept_trk faulted.frame rfl)
  have asks : askNarrowing m = requestDrain .laneFault m := by
    rw [askNarrowing, State.set, kept_pst faulted.frame rfl rfl]
    exact if_neg (by simpa [State.set] using off)
  obtain ⟨fault, target, change, -⟩ := faulted.taken
  refine ⟨?_, laneFault_without s f sp l rfl rfl rfl rfl⟩
  by_cases goes : GoesOut sp l s
  · rw [out goes, asks]
    by_cases ready : s.lc.state = .starting ∧ s.tableCount = 0
    · obtain ⟨starting, empty⟩ := ready
      rw [requestDrain_readies (by rw [lc, starting]) (by rw [count, empty])]
      obtain ⟨-, state, cause, limit, -, -, sru, flag, lanes⟩ := enterReady_taken .laneFault m
      obtain ⟨⟨rest, restTarget, -, -, -, -, restFault⟩, -⟩ := lanes l
      refine ⟨(lasts_enterReady m _).flags _ change, restFault.trans fault, restTarget.trans target, fun still => ?_,
        fun _ drains => ?_, fun _ _ _ => ⟨state, cause, limit, sru, flag, ?_⟩⟩
      · rcases still with stays | still
        · exact absurd goes stays
        · exact absurd starting still.1
      · rcases drains with running | ⟨-, records⟩
        · exact nomatch starting.symm.trans running
        · exact absurd empty records
      · rw [rest]
        split
        · exact .inr rfl
        · exact .inl rfl
    · by_cases still : s.lc.state ≠ .starting ∧ s.lc.state ≠ .running
      · rw [requestDrain_idle (by rwa [lc])]
        refine ⟨change, fault, target, fun _ => ⟨lc, faulted.taken⟩, fun _ drains => ?_, fun _ starting => ?_⟩
        · rcases drains with running | ⟨starting, -⟩
          · exact absurd running still.2
          · exact absurd starting still.1
        · exact absurd starting still.1
      · have drains : s.lc.state = .running ∨ (s.lc.state = .starting ∧ s.tableCount ≠ 0) := by
          by_cases running : s.lc.state = .running
          · exact .inl running
          · have starting : s.lc.state = .starting := by
              by_contra other
              exact still ⟨other, running⟩
            exact .inr ⟨starting, fun empty => ready ⟨starting, empty⟩⟩
        rw [requestDrain_drains (by rwa [lc, count])]
        have changed := (lasts_enterDraining m .laneFault).flags _ change
        refine ⟨changed, fault, target, fun stands => ?_, fun _ _ => ⟨?_, enterDraining_flag .laneFault m, ?_⟩,
          fun _ starting empty => absurd ⟨starting, empty⟩ ready⟩
        · rcases stands with stays | stands
          · exact absurd goes stays
          · exact absurd stands still
        · exact faulted.taken.congr (enterDraining_lane _ l m) changed
        · rw [enterDraining_lc, lc]
  · rw [stays goes]
    refine ⟨change, fault, target, fun _ => ⟨lc, faulted.taken⟩, fun out => absurd out goes, fun out => absurd out goes⟩

end Sys2Proof.Machine
end

section
/-! PROOFS. The infeed eyes and the decision point (R35 to R38, R43, R44, R55 to R60). -/

namespace Sys2Proof.Machine

variable {s : State}

/-! ### The leading edge (R35, R36) -/

theorem leadingEdge_off {l : Lane} (on : s.powered = true) (unconfigured : s.isConfigured l = false) :
    exec (.infeedLeadingEdge l) s = .next s := by
  have served : exec (.infeedLeadingEdge l) s = execInfeedLeadingEdge l s := rfl
  rw [served, execInfeedLeadingEdge, whenPowered_event on, if_neg (by simp [unconfigured])]

theorem leadingEdge_admits {l : Lane} {sh : Shift} (on : s.powered = true) (configured : s.isConfigured l = true)
    (opened : s.tot.opened = some sh) (gate : s.gateOpen l = true) (room : s.tableCount < 96) :
    Effect (.infeedLeadingEdge l) s (admitLoaf l sh.seq s) := by
  have served : exec (.infeedLeadingEdge l) s = execInfeedLeadingEdge l s := rfl
  have free : 0 < s.free := Nat.sub_pos_of_lt room
  rw [Effect, served, execInfeedLeadingEdge, whenPowered_event on, if_pos configured, opened]
  dsimp only
  rw [if_pos ⟨gate, free⟩]

theorem leadingEdge_untracked {l : Lane} (on : s.powered = true) (configured : s.isConfigured l = true)
    (shut : s.gateOpen l = false ∨ s.tot.opened = none ∨ 96 ≤ s.tableCount) :
    Effect (.infeedLeadingEdge l) s (untracked l s) := by
  have served : exec (.infeedLeadingEdge l) s = execInfeedLeadingEdge l s := rfl
  rw [Effect, served, execInfeedLeadingEdge, whenPowered_event on, if_pos configured]
  dsimp only
  cases opened : s.tot.opened with
  | none => rfl
  | some sh =>
    have full : ¬(s.gateOpen l = true ∧ 0 < s.free) := by
      rintro ⟨gate, free⟩
      have free : 0 < 96 - s.tableCount := free
      rcases shut with shut | none | full
      · exact nomatch gate.symm.trans shut
      · exact nomatch opened.symm.trans none
      · omega
    dsimp only
    rw [if_neg full]

theorem newRecord_assigned {l : Lane} {i : Slot} (assigned : s.pst.assign[l] = some i) (tag : Nat) : s.newRecord l tag =
    ⟨s.trk.nextLoaf, l, i, tag, (s.profile i).bagClass, s.pos, none, none, none, 0, false, none, 0, none, none, none, none,
      false, none, [], false, false, none, .measuring⟩ := by
  simp only [State.newRecord, assigned, Option.getD_some]

/-- An admission before HD counts it for a trial. -/
def admitted (l : Lane) (tag : Nat) (s : State) : State :=
  let r := s.newRecord l tag
  let s1 := (onQueue l (· ++ [r]) s).onTrk fun t => { t with nextLoaf := nextNumber t.nextLoaf }
  let s2 := s1.onTot fun t => { t with opened := t.opened.map fun sh => sh.countAdmission l r.slot }
  s2.onPst fun p => { p with refs := modAt p.refs r.slot (· + 1) }

theorem admitLoaf_eq (l : Lane) (tag : Nat) (s : State) :
    admitLoaf l tag s = countTrial l (s.newRecord l tag).loaf (admitted l tag s) := rfl

theorem admitted_fields (l : Lane) (tag : Nat) (s : State) : let u := admitted l tag s
    u.trk = { s.trk with
      queues := putAt s.trk.queues l (s.queue l ++ [s.newRecord l tag]), nextLoaf := nextNumber s.trk.nextLoaf } ∧
    u.tot = { s.tot with opened := s.tot.opened.map fun sh => sh.countAdmission l (s.newRecord l tag).slot } ∧
    u.pst = { s.pst with refs := modAt s.pst.refs (s.newRecord l tag).slot (· + 1) } ∧ u.hd = s.hd :=
  ⟨rfl, rfl, rfl, rfl⟩

theorem countTrial_keeps (l : Lane) (loaf : Nat) (s : State) : SameBut { hd := true } s (countTrial l loaf s) :=
  countTrial_without s l loaf rfl

theorem countTrial_heads (l : Lane) (loaf : Nat) (s : State) : (countTrial l loaf s).hd.heads = s.hd.heads := by
  unfold countTrial
  split <;> rfl

theorem countTrial_lane (k l : Lane) (loaf : Nat) (s : State) : (countTrial l loaf s).lane k =
    if k = l ∧ (s.lane l).state = .trial then
      { s.lane l with trialLeft := (s.lane l).trialLeft - 1, trialList := (s.lane l).trialList ++ [loaf] }
    else s.lane k := by
  unfold countTrial
  by_cases trial : (s.lane l).state = .trial
  · rw [if_pos trial, lane_onLane]
    by_cases same : k = l
    · rw [if_pos same, if_pos ⟨same, trial⟩, same]
    · rw [if_neg same, if_neg (fun h => same h.1)]
  · rw [if_neg trial, if_neg (fun h => trial h.2)]

theorem untracked_flag (l : Lane) (s : State) : (untracked l s).flag .trackOverrun = true := by
  unfold untracked
  exact laneFault_flag _ _ _ (by simp)

/-- A lane fault after a notice says the same of the state before the notice. -/
theorem FaultTaken.of_raised {f : LaneFault} {sp : Bool} {l : Lane} {k : Kind} {x : List Byte} {u : State}
    (h : FaultTaken f sp l (raise k x s) u) : FaultTaken f sp l s u := h

theorem FaultDrains.of_raised {f : LaneFault} {sp : Bool} {l : Lane} {k : Kind} {x : List Byte} {u : State}
    (h : FaultDrains f sp l (raise k x s) u) : FaultDrains f sp l s u := h

/-- Settles O19: an admission by its fields; the untracked loaf by the lane fault after its notice. -/
theorem infeedLeadingEdge : Obligations.InfeedLeadingEdge := by
  intro s l on
  refine ⟨leadingEdge_off on, fun sh i configured gate room opened assigned => ?_, fun configured shut narrow => ?_,
    fun configured shut wide => ?_⟩
  · obtain ⟨trk, tot, pst, hd⟩ := admitted_fields l sh.seq s
    have record := newRecord_assigned assigned sh.seq
    have slot : (s.newRecord l sh.seq).slot = i := by rw [record]
    have kept := countTrial_keeps l (s.newRecord l sh.seq).loaf (admitted l sh.seq s)
    have lane := fun k => countTrial_lane k l (s.newRecord l sh.seq).loaf (admitted l sh.seq s)
    have heads := countTrial_heads l (s.newRecord l sh.seq).loaf (admitted l sh.seq s)
    rw [hd] at heads
    simp only [lane_of_hd hd] at lane
    have effect := leadingEdge_admits on configured opened gate room
    have frame : SameBut { trk := true, hd := true, tot := true, refs := true } s (admitLoaf l sh.seq s) := by
      simp [SameBut]
    rw [admitLoaf_eq] at effect frame
    refine ⟨_, _, effect, frame, rfl, ?_, ?_, ?_, heads, fun k other => ⟨?_, ?_⟩, ?_⟩
    · rw [kept_trk kept rfl, trk, record]
      rfl
    · rw [kept_tot kept rfl, tot, opened, slot]
      rfl
    · rw [kept_pst kept rfl rfl, pst, slot]
      rfl
    · exact congrArg (fun v : PerLane Head => v[k]) heads
    · rw [lane, if_neg (fun h => other h.1)]
    · rw [lane]
      simp only [true_and, record]
  · obtain ⟨taken, heads, others, frame, -⟩ := laneFault_taken .trackOverrun false l
      (raise .trackOverrun (byteOf l.val :: posBytes s.pos ++ [byteOf s.free]) s) narrow
    exact ⟨_, leadingEdge_untracked on configured shut, frame.trans (raise_without s _ _ rfl), untracked_flag l s,
      taken.of_raised, heads, others⟩
  · obtain ⟨drains, frame⟩ := laneFault_drains .trackOverrun false l
      (s := raise .trackOverrun (byteOf l.val :: posBytes s.pos ++ [byteOf s.free]) s) wide
    exact ⟨_, leadingEdge_untracked on configured shut, frame.trans (raise_without s _ _ rfl), untracked_flag l s,
      drains.of_raised⟩

end Sys2Proof.Machine
end

section
/-! PROOFS. The trailing edge, the blocked eye and the decision point (R37, R38, R43, R44, R55 to R60). -/

namespace Sys2Proof.Machine

variable {s : State}

/-- Two states that agree but for some parts agree but for more; `absorb` holds by evaluation for any two sets of parts
of which the one lies within the other. -/
theorem SameBut.widen {b c : Parts} {t : State} (h : SameBut b s t)
    (absorb : ∀ v : State, (v.without b).without c = v.without c) : SameBut c s t := by
  have both := congrArg (State.without c) h
  rwa [absorb, absorb] at both

/-! ### Classes and plans (R55 to R60) -/

theorem addReason_planned (r : Rec) (c : LoafClass) (x : Reason) :
    ({ r with cls := some c, state := .planned } : Rec).addReason x =
      { ({ r with state := .planned } : Rec).addReason x with cls := some c } := by
  unfold Rec.addReason
  dsimp only
  split <;> rfl

theorem planRecord_reason {p : Profile} {r : Rec} {len : Nat} {c : LoafClass} {x : Reason} (rmax v : Nat)
    (length : r.length = some len) (cls : classify p len = c) (reason : c.reason = some x) :
    planRecord p rmax v r = { ({ r with state := .planned } : Rec).addReason x with cls := some c } := by
  unfold planRecord
  dsimp only
  rw [show r.length.getD 0 = len by rw [length]; rfl, cls, reason]
  exact addReason_planned r c x

theorem planRecord_blocked {p : Profile} {r : Rec} {len : Nat} (rmax v : Nat) (length : r.length = some len)
    (cls : classify p len = .normal) (blocked : r.suspect = true ∨ Reason.blade ∈ r.reasons) :
    planRecord p rmax v r = { r with cls := some .normal, state := .planned } := by
  unfold planRecord
  dsimp only
  rw [show r.length.getD 0 = len by rw [length]; rfl, cls]
  exact if_pos blocked

theorem planRecord_checked {p : Profile} {r : Rec} {len : Nat} (rmax v : Nat) (length : r.length = some len)
    (cls : classify p len = .normal) (sound : ¬(r.suspect = true ∨ Reason.blade ∈ r.reasons)) :
    (∀ kt, rateCheck p len rmax v = some kt →
      planRecord p rmax v r = { r with cls := some .normal, state := .planned, plan := some (planOf p len kt) }) ∧
    (rateCheck p len rmax v = none → planRecord p rmax v r =
      { ({ r with state := .planned } : Rec).addReason .overspeed with cls := some .normal }) := by
  unfold planRecord
  dsimp only
  rw [show r.length.getD 0 = len by rw [length]; rfl, cls]
  refine ⟨fun kt fits => ?_, fun above => ?_⟩
  · refine (if_neg sound).trans ?_
    rw [fits]
  · refine (if_neg sound).trans ?_
    rw [above]
    exact addReason_planned r .normal .overspeed

theorem classify_tailgate {p : Profile} {len : Nat} (low : p.lmin ≤ len) (high : p.lmax < len) (twice : 2 * p.lmin ≤ len) :
    classify p len = .tailgate := by
  rw [classify, if_neg (Nat.not_lt.2 low), if_pos ⟨high, twice⟩]

theorem classify_long {p : Profile} {len : Nat} (low : p.lmin ≤ len) (high : p.lmax < len) (once : len < 2 * p.lmin) :
    classify p len = .long := by
  rw [classify, if_neg (Nat.not_lt.2 low), if_neg (by omega), if_pos high]

theorem classify_normal {p : Profile} {len : Nat} (low : p.lmin ≤ len) (high : len ≤ p.lmax) : classify p len = .normal := by
  rw [classify, if_neg (Nat.not_lt.2 low), if_neg (by omega), if_neg (Nat.not_lt.2 high)]

theorem planRecord_made (p : Profile) (rmax v len : Nat) (r : Rec) :
    PlanMade p rmax v len r (planRecord p rmax v { r with length := some len }) := by
  have length : ({ r with length := some len } : Rec).length = some len := rfl
  refine ⟨fun short => ?_, fun low high twice => ?_, fun low high once => ?_, fun low high => ⟨fun blocked => ?_, fun clean sound => ?_⟩⟩
  · exact planRecord_reason rmax v length (if_pos short) rfl
  · exact planRecord_reason rmax v length (classify_tailgate low high twice) rfl
  · exact planRecord_reason rmax v length (classify_long low high once) rfl
  · exact planRecord_blocked rmax v length (classify_normal low high) blocked
  · obtain ⟨fits, above⟩ := planRecord_checked rmax v length (classify_normal low high) (by simp [clean, sound])
    refine ⟨fun slow => ?_, fun fast enough => ?_, fun fast few => ?_⟩
    · exact fits _ (if_pos (.inr slow))
    · have moving : v ≠ 0 := by rintro rfl; simp at fast
      refine fits _ ((if_neg ?_).trans (if_pos enough))
      exact fun slow => slow.elim moving (Nat.not_le.2 fast)
    · have moving : v ≠ 0 := by rintro rfl; simp at fast
      refine above ((if_neg ?_).trans (if_neg (Nat.not_le.2 few)))
      exact fun slow => slow.elim moving (Nat.not_le.2 fast)

/-! ### The trailing edge and the blocked eye (R37, R38) -/

/-- What a trailing edge makes of the record it measures. -/
def measure (l : Lane) (s : State) (r : Rec) : Rec :=
  planRecord (s.profile r.slot) s.set.rmax[l] s.sru.estimate { r with length := some (measured s.pos r.lead) }

theorem trailingEdge_ignored {l : Lane} (on : s.powered = true)
    (none : s.isConfigured l = false ∨ ∀ r ∈ s.queue l, r.state ≠ .measuring) :
    exec (.infeedTrailingEdge l) s = .next s := by
  have served : exec (.infeedTrailingEdge l) s = execInfeedTrailingEdge l s := rfl
  rw [served, execInfeedTrailingEdge, whenPowered_event on]
  rcases none with unconfigured | clear
  · rw [if_neg (by simp [unconfigured])]
  · have absent : (s.queue l).find? (fun r => r.state == .measuring) = none :=
      List.find?_eq_none.2 fun r hr => by simpa using clear r hr
    rw [absent]
    exact congrArg Host.Outcome.next (ite_self s)

theorem trailingEdge_measures {l : Lane} {r : Rec} (on : s.powered = true) (configured : s.isConfigured l = true)
    (found : (s.queue l).find? (fun r => r.state == .measuring) = some r) :
    Effect (.infeedTrailingEdge l) s (onRec r.loaf (measure l s) s) := by
  have served : exec (.infeedTrailingEdge l) s = execInfeedTrailingEdge l s := rfl
  rw [Effect, served, execInfeedTrailingEdge, whenPowered_event on, if_pos configured, found]
  rfl

theorem measure_loaf (l : Lane) (s : State) (r : Rec) : (measure l s r).loaf = r.loaf := by
  obtain ⟨⟨same, -⟩, -⟩ := planRecord_fields (s.profile r.slot) s.set.rmax[l] s.sru.estimate
    { r with length := some (measured s.pos r.lead) }
  exact same

/-- What the blocked eye makes of its record (R38). -/
def eyeBlocked (s : State) (r : Rec) : Rec :=
  { r.addReason .long with
    length := some (2 * (s.profile r.slot).lmax), cls := some .long, plan := none, state := .planned }

theorem takeBlockedEye_eq (r : Rec) (s : State) :
    takeBlockedEye r s = laneFault .eyeBlocked false r.lane (onRec r.loaf (eyeBlocked s) s) := rfl

theorem RecordBecomes.of_trk {r r' : Rec} {t u : State} (h : RecordBecomes r r' s t) (trk : u.trk = t.trk) :
    RecordBecomes r r' s u := by
  unfold RecordBecomes RecordsBut State.find State.queue State.records at *
  rwa [trk]

theorem tableCount_onRec (n : Nat) (f : Rec → Rec) (s : State) : (onRec n f s).tableCount = s.tableCount := by
  have kept : (onRec n f s).records = mapIf (fun r => r.loaf == n) f s.records := records_mapRecords _ f s
  rw [State.tableCount, kept, mapIf, List.length_map]
  rfl

/-- What a lane fault asks of the state it comes to: the lane, the line, the position, the settings, the table's count. -/
theorem FaultDrains.congr {f : LaneFault} {sp : Bool} {l : Lane} {t u : State} (h : FaultDrains f sp l t u)
    (lane : t.lane l = s.lane l) (lc : t.lc = s.lc) (pos : t.pos = s.pos) (set : t.set = s.set)
    (count : t.tableCount = s.tableCount) : FaultDrains f sp l s u := by
  unfold FaultDrains FaultTaken at *
  dsimp only at *
  rwa [lane, lc, pos, set, count] at h

theorem FaultTaken.congr_left {f : LaneFault} {sp : Bool} {l : Lane} {t u : State} (h : FaultTaken f sp l t u)
    (lane : t.lane l = s.lane l) (lc : t.lc = s.lc) (pos : t.pos = s.pos) (set : t.set = s.set) :
    FaultTaken f sp l s u := by
  unfold FaultTaken at *
  dsimp only at *
  rwa [lane, lc, pos, set] at h

/-- A lane fault leaves the table. -/
theorem laneFault_trk (f : LaneFault) (sp : Bool) (l : Lane) (s : State) : (laneFault f sp l s).trk = s.trk :=
  kept_trk (laneFault_without (b := { lp := true, sru := true, lc := true, hd := true }) s f sp l rfl rfl rfl rfl) rfl

/-- Settles O20: the record measured and planned is the only one that changes; the blocked eye's lane then takes its fault. -/
theorem infeedTrailingEdge : Obligations.InfeedTrailingEdge := by
  refine ⟨fun s l on => ⟨trailingEdge_ignored on, fun r configured found _ => ?_⟩, fun s r held state => ⟨?_, _, rfl, ?_, ?_, ?_⟩⟩
  · refine ⟨_, _, trailingEdge_measures on configured found, onRec_without s r.loaf _ rfl,
      onRec_becomes r _ (measure_loaf l s) s, ?_⟩
    exact planRecord_made (s.profile r.slot) s.set.rmax[l] s.sru.estimate (min 65535 ((s.pos - r.lead) / 65536)) r
  · unfold State.laneStation
    rw [state]
    rfl
  · refine RecordBecomes.of_trk ?_ (laneFault_trk ..)
    exact onRec_becomes r (eyeBlocked s) (fun x => addReason_loaf x .long) s
  · intro narrow
    obtain ⟨taken, heads, others, frame, -⟩ :=
      laneFault_taken .eyeBlocked false r.lane (onRec r.loaf (eyeBlocked s) s) narrow
    refine ⟨?_, taken.congr_left rfl rfl rfl rfl, heads, others⟩
    exact (frame.widen fun _ => rfl).trans (onRec_without s r.loaf _ rfl)
  · intro wide
    obtain ⟨drains, -⟩ := laneFault_drains .eyeBlocked false r.lane (s := onRec r.loaf (eyeBlocked s) s) wide
    refine ⟨?_, drains.congr rfl rfl rfl rfl (tableCount_onRec ..)⟩
    exact (laneFault_without _ _ _ _ rfl rfl rfl rfl).trans (onRec_without s r.loaf _ rfl)

/-! ### The decision point (R43, R44) -/

theorem takeDecision_eq (r : Rec) (s : State) : takeDecision r s =
    let reasons := if r.suspect = true ∧ r.reasons = [] then [Reason.suspect] else r.reasons
    let d : Decision := if reasons = [] then .pass else .divert
    (onRec r.loaf (fun x => { x with reasons := reasons, decision := some d, state := .decided }) s).onTrk
      fun t => { t with rejectGate := d } := by
  unfold takeDecision
  dsimp only
  split <;> rfl

/-- Settles O25: the reasons that a suspect record gets, and the decision they make. -/
theorem decisionPoint : Obligations.DecisionPoint := by
  intro s r _ reasons d u
  have decides : (if reasons = [] then Decision.pass else .divert) = d := by
    by_cases empty : r.reasons = [] <;> cases suspect : r.suspect <;> simp [reasons, d, empty, suspect]
  have eq : u = (onRec r.loaf (fun x => { x with reasons := reasons, decision := some d, state := .decided }) s).onTrk
      fun t => { t with rejectGate := d } := by
    rw [← decides]
    exact takeDecision_eq r s
  rw [eq]
  refine ⟨fun checked => ?_, ?_, rfl, ?_⟩
  · unfold State.postStation
    rw [checked]
    rfl
  · exact (without_onTrk _ _ rfl).trans (onRec_without s r.loaf _ rfl)
  · exact onRec_becomes r (fun x => { x with reasons := reasons, decision := some d, state := .decided }) (fun _ => rfl) s

end Sys2Proof.Machine
end

section
/-! PROOFS. The pocket and release eyes, the deadlines before the merge, and lost loaves (R41, R42, R49, R98 to R100). -/

namespace Sys2Proof.Machine

variable {s t u : State}

/-! ### Events of the line (R156) -/

theorem lineEvent_counted (f : Shift → Shift) (s : State) : LineCounted f s (lineEvent f s) := by
  unfold LineCounted lineEvent
  rw [onTot_tot]
  obtain ⟨opened, closing, closed⟩ := s.tot
  refine ⟨fun sh h => ?_, fun sh h k => ?_, fun h k => ?_⟩
  · obtain rfl : opened = some sh := h
    rfl
  · obtain rfl : opened = none := h
    obtain rfl : closing = some sh := k
    rfl
  · obtain rfl : opened = none := h
    obtain rfl : closing = none := k
    rfl

theorem LineCounted.of_tot {f : Shift → Shift} (h : LineCounted f s t) (left : u.tot = s.tot) {v : State}
    (right : v.tot = t.tot) : LineCounted f u v := by
  unfold LineCounted at *
  rwa [left, right]

theorem phantom_counted (eye : Eye) (s : State) : PhantomCounted s (phantom eye s) := by
  unfold phantom countPhantom
  exact (lineEvent_counted _ (raise .phantomLoaf (byteOf eye.code :: posBytes s.pos) s)).of_tot rfl rfl

theorem phantom_keeps (eye : Eye) (s : State) : SameBut { lp := true, tot := true } s (phantom eye s) :=
  phantom_without s eye rfl rfl

theorem phantom_flag (eye : Eye) (s : State) : (phantom eye s).flag .phantomLoaf = true := by
  have same : (phantom eye s).flag .phantomLoaf =
    (raise .phantomLoaf (byteOf eye.code :: posBytes s.pos) s).flag .phantomLoaf := rfl
  rw [same, raise_flag]
  simp

/-! ### The pocket eye (R41) -/

theorem pocketArrival_off {l : Lane} (on : s.powered = true) (unconfigured : s.isConfigured l = false) :
    exec (.pocketArrival l) s = .next s := by
  have served : exec (.pocketArrival l) s = execPocketArrival l s := rfl
  rw [served, execPocketArrival, whenPowered_event on, if_neg (by simp [unconfigured])]

theorem pocketArrival_seen {l : Lane} {r : Rec} (on : s.powered = true) (configured : s.isConfigured l = true)
    (found : (s.queue l).find? (fun r => r.state == .queued && r.pocket.isNone) = some r) :
    Effect (.pocketArrival l) s (onRec r.loaf (fun r => { r with pocket := some s.pos }) s) := by
  have served : exec (.pocketArrival l) s = execPocketArrival l s := rfl
  rw [Effect, served, execPocketArrival, whenPowered_event on, if_pos configured, found]

theorem pocketArrival_phantom {l : Lane} (on : s.powered = true) (configured : s.isConfigured l = true)
    (seen : ∀ r ∈ s.queue l, r.state = .queued → r.pocket.isSome = true) :
    Effect (.pocketArrival l) s (laneFault .pocketPhantom false l (phantom (.pocket l) s)) := by
  have served : exec (.pocketArrival l) s = execPocketArrival l s := rfl
  have absent : (s.queue l).find? (fun r => r.state == .queued && r.pocket.isNone) = none := by
    refine List.find?_eq_none.2 fun r hr => ?_
    intro due
    simp only [Bool.and_eq_true, beq_iff_eq] at due
    have known := seen r hr due.1
    rw [Option.isNone_iff_eq_none.1 due.2] at known
    exact nomatch known
  rw [Effect, served, execPocketArrival, whenPowered_event on, if_pos configured, absent]

theorem PhantomCounted.of_tot (h : PhantomCounted s t) (right : u.tot = t.tot) : PhantomCounted s u :=
  LineCounted.of_tot h rfl right

theorem laneFault_tot (f : LaneFault) (sp : Bool) (l : Lane) (s : State) : (laneFault f sp l s).tot = s.tot :=
  kept_tot (laneFault_without (b := { lp := true, sru := true, lc := true, hd := true }) s f sp l rfl rfl rfl rfl) rfl

/-! ### The release eye (R98, R100) -/

theorem releaseEdge_confirms {g : Grant} {r : Rec} {m : Nat} (on : s.powered = true) (flight : s.arb.flight = some g)
    (found : s.find g.loaf = some r) (lead : r.mergeLead = some m) (inside : s.pos ≤ m + s.set.releaseWindow * 65536) :
    Effect .mergeReleaseEdge s { s with arb := { s.arb with
      flight := none
      pushers := putAt s.arb.pushers g.lane false
      spacing := some ⟨m, r.length.getD 0⟩ } } := by
  have served : exec .mergeReleaseEdge s = execMergeReleaseEdge s := rfl
  have window : s.pos ≤ s.releaseEnd r := by rw [State.releaseEnd, lead]; exact inside
  rw [Effect, served, execMergeReleaseEdge, whenPowered_event on, flight]
  dsimp only
  rw [found]
  dsimp only
  rw [if_pos window, confirmGrant, lead]
  rfl

theorem releaseEdge_phantom (on : s.powered = true) (none : s.arb.flight = none) :
    Effect .mergeReleaseEdge s (phantom .release s) := by
  have served : exec .mergeReleaseEdge s = execMergeReleaseEdge s := rfl
  rw [Effect, served, execMergeReleaseEdge, whenPowered_event on, none]

/-! ### Loaves lost before the merge (R42, R99) -/

/-- Leaving a trial list is told by the lanes and the heads alone. -/
theorem LeavesTrialList.congr {l : Lane} {n : Nat} {v w : State} (h : LeavesTrialList l n s t) (left : v.hd = s.hd)
    (right : w.hd = t.hd) (flag : t.flag .laneChange = true → w.flag .laneChange = true) : LeavesTrialList l n v w := by
  obtain ⟨heads, others, stays, leaves, ends⟩ := h
  have before := lane_of_hd left l
  have after := lane_of_hd right l
  refine ⟨(congrArg Hd.heads right).trans (heads.trans (congrArg Hd.heads left).symm), fun k other => ?_, ?_, ?_, ?_⟩
  · rw [head_of_hd left, head_of_hd right, lane_of_hd left, lane_of_hd right]
    exact others k other
  · rwa [before, after]
  · rwa [before, after]
  · rw [before, after]
    intro listed last
    obtain ⟨change, lane⟩ := ends listed last
    exact ⟨flag change, lane⟩

theorem retireRec_hd (r : Rec) (d : Disposition) (s : State) : (retireRec r d s).hd = s.hd := (retireRec_as r d s).2

theorem retireLost_leaves (r : Rec) (c : LostCause) (s : State) : LeavesTrialList r.lane r.loaf s (retireLost r c s) := by
  unfold retireLost retire
  refine (offTrialList_leaves r.lane r.loaf (retireRec r .lost s)).congr (retireRec_hd r .lost s).symm rfl fun set => ?_
  rw [raise_flag, set]
  rfl

theorem retireLost_keeps (r : Rec) (c : LostCause) (s : State) :
    SameBut { lp := true, trk := true, hd := true, arb := true, tie := true, tot := true, refs := true } s
      (retireLost r c s) := by
  simp [SameBut]

/-- A record lost before its merge, and the lane fault that follows it. -/
theorem pocketLost_taken (r : Rec) (c : LostCause) (s : State) :
    PocketLostTaken r s (laneFault .pocketLost false r.lane (retireLost r c s)) := by
  obtain ⟨retired, lost, -, -, -⟩ := retireLost_as r c s
  have set : (retireLost r c s).set = s.set := kept_settings (retireLost_keeps r c s) rfl
  refine ⟨retireLost r c s, retireLost_keeps r c s, retired, retireLost_leaves r c s, lost, fun narrow => ?_, fun wide => ?_,
    laneFault_flag _ _ _ lost⟩
  · obtain ⟨taken, heads, others, frame, -⟩ :=
      laneFault_taken .pocketLost false r.lane (retireLost r c s) (by rw [set, narrow])
    exact ⟨frame, taken, heads, others⟩
  · obtain ⟨drains, frame⟩ := laneFault_drains .pocketLost false r.lane (s := retireLost r c s) (by rw [set, wide])
    exact ⟨frame, drains⟩

/-- A retirement that comes after a change of the arbiter alone. -/
theorem PocketLostTaken.of_arb {x : Rec} (h : PocketLostTaken x t u) (frame : SameBut { arb := true } s t) :
    PocketLostTaken x s u := by
  obtain ⟨m, same, retired, leaves, rest⟩ := h
  have retiredFrom : RetiredAs x .lost s.tot s m := by
    have trk := kept_trk frame rfl
    have tot := kept_tot frame rfl
    have pst := kept_pst frame rfl rfl
    have tie := kept_tie frame rfl
    unfold RetiredAs at *
    rwa [← trk, ← tot, ← pst, ← tie]
  obtain ⟨flag, narrow, wide, last⟩ := rest
  rw [State.set, kept_pst frame rfl rfl] at narrow wide
  exact ⟨m, same.trans (frame.widen fun _ => rfl), retiredFrom, leaves.congr (kept_hd frame rfl).symm rfl id, flag, narrow, wide, last⟩

theorem endFlightOf_none {n : Nat} (ended : s.arb.flight = none) : endFlightOf n s = s := by
  rw [endFlightOf, ended]

theorem retireQuiet_endsFlight (r : Rec) (d : Disposition) (s : State) :
    (retireQuiet r d s).arb = (endFlightOf r.loaf ((removeRec r.loaf s).onTot fun t =>
      (onTagged r.tag (·.retire r d) t).settle)).arb := rfl

theorem retireLost_arb {r : Rec} {c : LostCause} (ended : s.arb.flight = none) : (retireLost r c s).arb = s.arb := by
  have outer : (retireLost r c s).without { lp := true, hd := true } =
      (retireQuiet r .lost s).without { lp := true, hd := true } := by
    simp [retireLost, retire, retireRec]
  rw [kept_arb outer rfl, retireQuiet_endsFlight]
  refine (congrArg State.arb (endFlightOf_none ?_)).trans rfl
  exact ended

theorem laneFault_arb (f : LaneFault) (sp : Bool) (l : Lane) (s : State) : (laneFault f sp l s).arb = s.arb :=
  kept_arb (laneFault_without (b := { lp := true, sru := true, lc := true, hd := true }) s f sp l rfl rfl rfl rfl) rfl

/-- Settles O22: the pocket and release eyes by what they find, the pocket deadline and the release window's end by the
retirement and the lane fault after it. -/
theorem pocketAndReleaseEyes : Obligations.PocketAndReleaseEyes := by
  refine ⟨fun s l on => ⟨pocketArrival_off on, fun r configured found _ => ?_, fun configured seen narrow => ?_,
    fun configured seen wide => ?_⟩, fun s on => ⟨fun g r m => releaseEdge_confirms on, fun ended => ?_⟩,
    fun s r state pocket => ⟨?_, _, rfl, ?_⟩, fun s r m state flight lead => ⟨?_, fun again => ?_, fun last => ⟨_, rfl, ?_, ?_⟩⟩⟩
  · exact ⟨_, pocketArrival_seen on configured found, onRec_without s r.loaf _ rfl,
      onRec_becomes r (fun r => { r with pocket := some s.pos }) (fun _ => rfl) s⟩
  · obtain ⟨taken, heads, others, frame, -⟩ := laneFault_taken .pocketPhantom false l (phantom (.pocket l) s) narrow
    refine ⟨_, pocketArrival_phantom on configured seen, ?_, laneFault_flag _ _ _ (phantom_flag _ s),
      taken.congr_left rfl rfl rfl rfl, heads, others, (phantom_counted _ s).of_tot (laneFault_tot ..)⟩
    exact (frame.widen fun _ => rfl).trans ((phantom_keeps (.pocket l) s).widen fun _ => rfl)
  · obtain ⟨drains, frame⟩ := laneFault_drains .pocketPhantom false l (s := phantom (.pocket l) s) wide
    refine ⟨_, pocketArrival_phantom on configured seen, ?_, laneFault_flag _ _ _ (phantom_flag _ s),
      drains.congr rfl rfl rfl rfl rfl, (phantom_counted _ s).of_tot (laneFault_tot ..)⟩
    exact (frame.widen fun _ => rfl).trans ((phantom_keeps (.pocket l) s).widen fun _ => rfl)
  · exact ⟨_, releaseEdge_phantom on ended, phantom_keeps .release s, phantom_flag .release s, phantom_counted .release s⟩
  · unfold State.laneStation
    rw [state, pocket]
    rfl
  · exact pocketLost_taken r .deadline s
  · unfold State.postStation
    rw [state, flight]
    simp [State.releaseEnd, lead, passing, tuPos, Config.tu]
  · have young : ¬3 ≤ r.retries + 1 := by omega
    exact if_neg young
  · have old : 3 ≤ r.retries + 1 := by omega
    have taken : takeStation (.releaseEnd r) s = laneFault .pocketLost false r.lane
        (retireLost { r with retries := r.retries + 1 } .retraction (endFlight r.lane s)) := if_pos old
    rw [taken, laneFault_arb, retireLost_arb rfl]
    rfl
  · have old : 3 ≤ r.retries + 1 := by omega
    have taken : takeStation (.releaseEnd r) s = laneFault .pocketLost false r.lane
        (retireLost { r with retries := r.retries + 1 } .retraction (endFlight r.lane s)) := if_pos old
    rw [taken]
    exact (pocketLost_taken { r with retries := r.retries + 1 } .retraction (endFlight r.lane s)).of_arb
      (without_onArb s _ rfl)

end Sys2Proof.Machine
end

section
/-! PROOFS. The exit and chute eyes, and the last window (R46 to R49, R155, R156). -/

namespace Sys2Proof.Machine

variable {s t u : State}

/-- What a retirement does to the shared parts, the notices raised with it aside. -/
structure Retires (r : Rec) (d : Disposition) (before : Tot) (s u : State) : Prop where
  frame : SameBut { lp := true, trk := true, hd := true, arb := true, tie := true, tot := true, refs := true } s u
  record : RetiredAs r d before s u
  heads : u.hd.heads = s.hd.heads
  others : OtherLanesKept r.lane s u

theorem retire_retires (r : Rec) (d : Disposition) (s : State) : Retires r d s.tot s (retire r d s) := by
  obtain ⟨record, heads, others, -⟩ := retire_as r d s
  exact ⟨by simp [SameBut], record, heads, others⟩

theorem Retires.raise {r : Rec} {d : Disposition} {before : Tot} (h : Retires r d before s u) (k : Kind) (x : List Byte) :
    Retires r d before s (raise k x u) :=
  ⟨(raise_without u k x rfl).trans h.frame, h.record.congr rfl rfl rfl rfl, h.heads, h.others⟩

/-- A retirement after a count in the totals. -/
theorem Retires.of_tot {r : Rec} {d : Disposition} {before : Tot} (h : Retires r d before t u)
    (frame : SameBut { tot := true } s t) : Retires r d before s u where
  frame := h.frame.trans (frame.widen fun _ => rfl)
  record := by
    have record := h.record
    unfold RetiredAs at *
    rwa [kept_trk frame rfl, kept_pst frame rfl rfl, kept_tie frame rfl] at record
  heads := h.heads.trans (congrArg Hd.heads (kept_hd frame rfl))
  others := fun k other => by
    obtain ⟨head, lane⟩ := h.others k other
    exact ⟨head.trans (head_of_hd (kept_hd frame rfl) k), lane.trans (lane_of_hd (kept_hd frame rfl) k)⟩

/-! ### The exit eye (R46) -/

theorem exitArrival_effect (on : s.powered = true) : Effect .exitArrival s (match s.oldestIn .pass s.set.dExit with
    | some r => if r.late then raiseEscape r (retire r .escape s) else retire r .good s
    | none =>
      match s.oldestIn .divert s.set.dExit with
      | some r => divertFail r s
      | none => phantom .exit s) := by
  have served : exec .exitArrival s = execExitArrival s := rfl
  rw [Effect, served, execExitArrival]
  exact whenPowered_event on _

theorem countDivertFail_keeps (s : State) : SameBut { tot := true } s (countDivertFail s) :=
  countDivertFail_without s rfl

theorem countDivertFail_tot (s : State) : (countDivertFail s).tot = match s.tot.opened with
    | some sh => { s.tot with opened := some { sh with divertFails := min 4294967295 (sh.divertFails + 1) } }
    | none => { s.tot with closing := s.tot.closing.map fun sh =>
        { sh with divertFails := min 4294967295 (sh.divertFails + 1) } } := rfl

theorem divertFail_retires (r : Rec) (s : State) : Retires r .escape (countDivertFail s).tot s (divertFail r s) :=
  (((retire_retires r .escape (countDivertFail s)).of_tot (countDivertFail_keeps s)).raise _ _).raise _ _

theorem divertFail_flags (r : Rec) (s : State) : (divertFail r s).flag .escape = true ∧ (divertFail r s).flag .divertFail = true := by
  simp [divertFail, raiseEscape]

/-! ### The chute eye (R47) -/

theorem chuteArrival_effect (on : s.powered = true) : Effect .chuteArrival s (match s.oldestIn .divert s.set.dChute with
    | some r => retire r (if r.challenge then .challenge else .rejected) s
    | none => phantom .chute s) := by
  have served : exec .chuteArrival s = execChuteArrival s := rfl
  rw [Effect, served, execChuteArrival]
  exact whenPowered_event on _

/-- Settles O23: each arrival by the record it matches; a window passed by the loss of its record. -/
theorem exitAndChute : Obligations.ExitAndChute := by
  refine ⟨fun s on => ⟨fun r pass early => ?_, fun r pass late => ?_, fun r none divert => ?_, fun none missing => ?_,
    fun r divert => ?_, fun missing => ?_⟩, fun s r state => ⟨?_, _, rfl, ?_⟩⟩
  · have effect := exitArrival_effect on
    rw [pass] at effect
    dsimp only at effect
    rw [if_neg (by simp [early])] at effect
    obtain ⟨frame, record, heads, others⟩ := retire_retires r .good s
    exact ⟨_, effect, frame, record, heads, others, nofun⟩
  · have effect := exitArrival_effect on
    rw [pass] at effect
    dsimp only at effect
    rw [if_pos late] at effect
    obtain ⟨frame, record, heads, others⟩ := (retire_retires r .escape s).raise .escape (leBytes 4 r.loaf ++
      [byteOf (codeOrNone Decision.code r.decision), flagByte r.late, byteOf (codeOrNone Reason.code r.reasons.head?)])
    refine ⟨_, effect, frame, record, heads, others, ?_⟩
    simp [raiseEscape]
  · have effect := exitArrival_effect on
    rw [none, divert] at effect
    obtain ⟨frame, record, heads, others⟩ := divertFail_retires r s
    obtain ⟨escape, fail⟩ := divertFail_flags r s
    refine ⟨_, effect, frame, record, heads, others, ?_⟩
    simp [escape, fail]
  · have effect := exitArrival_effect on
    rw [none, missing] at effect
    exact ⟨_, effect, phantom_keeps .exit s, phantom_flag .exit s, phantom_counted .exit s⟩
  · have effect := chuteArrival_effect on
    rw [divert] at effect
    obtain ⟨frame, record, heads, others⟩ := retire_retires r (if r.challenge then .challenge else .rejected) s
    exact ⟨_, effect, frame, record, heads, others, nofun⟩
  · have effect := chuteArrival_effect on
    rw [missing] at effect
    exact ⟨_, effect, phantom_keeps .chute s, phantom_flag .chute s, phantom_counted .chute s⟩
  · unfold State.postStation State.lastWindow
    rw [state]
    cases decision : r.decision with
    | none => rfl
    | some d => cases d <;> rfl
  · obtain ⟨record, lost, heads, others, -⟩ := retireLost_as r .window s
    exact ⟨retireLost_keeps r .window s, record, lost, heads, others⟩

end Sys2Proof.Machine
end

section
/-! PROOFS. How bag attempts begin and end (R103 to R106). -/

namespace Sys2Proof.Machine

variable {s t u : State}

/-! ### An attempt begins (R104) -/

/-- What the beginning of an attempt does: one bag taken, counted and tested against the low threshold. -/
structure AttemptBegun (loaf number : Nat) (s u : State) : Prop where
  frame : SameBut { lp := true, bag := true, tot := true } s u
  bag : u.bag = { s.bag with
    supply := s.bag.supply - 1, state := .cycle, attempt := some ⟨loaf, number⟩
    confirm := some s.set.confirmMs, cycleOut := true }
  low : s.set.bagsLow ≤ s.bag.supply → s.bag.supply - 1 < s.set.bagsLow → u.flag .bagsLow = true
  counted : LineCounted (fun sh => { sh with bags := min 4294967295 (sh.bags + 1) }) s u

theorem beginAttempt_begun (loaf number : Nat) (s : State) : AttemptBegun loaf number s (beginAttempt loaf number s) := by
  unfold beginAttempt
  dsimp only
  generalize taken : (s.onBag fun b => { b with
    supply := b.supply - 1, state := .cycle, attempt := some ⟨loaf, number⟩, confirm := some s.set.confirmMs
    cycleOut := true }) = v
  have frame : SameBut { bag := true } s v := by rw [← taken]; exact without_onBag s _ rfl
  have bag : v.bag = { s.bag with
      supply := s.bag.supply - 1, state := .cycle, attempt := some ⟨loaf, number⟩
      confirm := some s.set.confirmMs, cycleOut := true } := by rw [← taken]; rfl
  have tot : v.tot = s.tot := kept_tot frame rfl
  have set : v.set = s.set := kept_settings frame rfl
  refine ⟨?_, ?_, fun above below => ?_, ?_⟩
  · exact (raiseBagsLow_without _ _ rfl).trans ((lineEvent_without v _ rfl).trans (frame.widen fun _ => rfl))
  · rw [raised_bag]
    exact bag
  · refine raiseBagsLow_flag ?_ ?_
    · exact set ▸ above
    · have supply : v.bag.supply = s.bag.supply - 1 := by rw [bag]
      have below : v.bag.supply < v.set.bagsLow := by rw [supply, set]; exact below
      exact below
  · refine (lineEvent_counted _ v).of_tot tot.symm ?_
    exact kept_tot (raiseBagsLow_keeps _ _) rfl

/-! ### An attempt ends (R104, R105) -/

/-- What the end of a cycle does: the bagger's values, and the record of the attempt with its result. -/
structure CycleEnded (x : BagResult) (st : BaggerState) (misses : Nat) (s u : State) : Prop where
  frame : SameBut { lp := true, trk := true, bag := true } s u
  bag : u.bag = ⟨s.bag.supply, st, misses, none, none, false⟩
  down : st = .down → u.flag .baggerDown = true
  others : ∀ a, s.bag.attempt = some a → RecordsBut a.loaf s u
  record : ∀ a r, s.bag.attempt = some a → s.find a.loaf = some r → RecordBecomes r (r.bagDone x) s u
  flags : ∀ k, s.flag k = true → u.flag k = true

/-- A write that keeps the loaf number changes no record but the one with that number (R30). -/
theorem onRec_recordsBut (n : Nat) {f : Rec → Rec} (keeps : ∀ x, (f x).loaf = x.loaf) (s : State) :
    RecordsBut n s (onRec n f s) := by
  have loaf : ∀ x : Rec, (if x.loaf == n then f x else x).loaf = x.loaf := fun x => by split <;> simp [keeps]
  refine ⟨fun k other => ?_, fun l => ?_, ?_⟩
  · have found : (onRec n f s).find k = (s.find k).map fun x => if x.loaf == n then f x else x := by
      simp only [State.find, onRec, records_mapRecords]
      exact find_mapIf _ f keeps k _
    rw [found]
    cases held : s.find k with
    | none => rfl
    | some x =>
      have same := loaf_of_find held
      simp [same, other]
  · rw [onRec, queue_mapRecords, mapIf, List.map_map]
    exact List.map_congr_left fun x _ => loaf x
  · simp only [onRec, mapRecords, onTrk_trk, mapIf, List.map_map]
    exact List.map_congr_left fun x _ => loaf x

theorem RecordsBut.of_trk {n : Nat} (h : RecordsBut n s t) (trk : u.trk = t.trk) : RecordsBut n s u := by
  unfold RecordsBut State.find State.queue State.records at *
  rwa [trk]

theorem RecordsBut.of_trk_left {n : Nat} (h : RecordsBut n s t) (trk : s.trk = u.trk) : RecordsBut n u t := by
  unfold RecordsBut State.find State.queue State.records at *
  rwa [trk] at h

theorem bagDone_loaf (r : Rec) (x : BagResult) : (r.bagDone x).loaf = r.loaf := by
  unfold Rec.bagDone
  dsimp only
  split
  · exact addReason_loaf r .bagMiss
  · rfl

theorem endCycle_ended {a : Attempt} (running : s.bag.attempt = some a) (e : CycleEnd) (x : BagResult) :
    CycleEnded x (baggerAfter e (missesAfter s.bag.misses e) s.set.missLimit s.bag.supply) (missesAfter s.bag.misses e) s
      (endCycle e x s) := by
  unfold endCycle
  rw [running]
  dsimp only
  generalize missesAfter s.bag.misses e = m
  generalize baggerAfter e m s.set.missLimit s.bag.supply = st
  generalize ended : ((onRec a.loaf (·.bagDone x) s).onBag fun b =>
    { b with state := st, misses := m, attempt := none, confirm := none, cycleOut := false }) = v
  have frame : SameBut { trk := true, bag := true } s v := by
    rw [← ended]
    exact (without_onBag _ _ rfl).trans (onRec_without s a.loaf _ rfl)
  have bag : v.bag = ⟨s.bag.supply, st, m, none, none, false⟩ := by rw [← ended]; rfl
  have others : ∀ b, s.bag.attempt = some b → RecordsBut b.loaf s v := by
    intro b running'
    obtain rfl := Option.some.inj (running.symm.trans running')
    rw [← ended]
    exact onRec_recordsBut a.loaf (fun r => bagDone_loaf r x) s
  have lp : v.lp = s.lp := kept_lp frame rfl rfl
  have record : ∀ b r, s.bag.attempt = some b → s.find b.loaf = some r → RecordBecomes r (r.bagDone x) s v := by
    intro b r running' found
    obtain rfl := Option.some.inj (running.symm.trans running')
    rw [← ended, ← loaf_of_find found]
    exact onRec_becomes r (·.bagDone x) (fun r => bagDone_loaf r x) s
  split
  · next down =>
    refine ⟨(raise_without v _ _ rfl).trans (frame.widen fun _ => rfl), bag, fun _ => by simp,
      fun b on => (others b on).of_trk rfl, fun b r on found => (record b r on found).of_trk rfl, fun k set => ?_⟩
    rw [raise_flag, State.flag, lp]
    exact Bool.or_eq_true_iff.2 (.inl set)
  · next up =>
    exact ⟨frame.widen fun _ => rfl, bag, fun down => absurd down up, others, record, fun k set => by rwa [State.flag, lp]⟩

theorem effect_of_pos {c : Instr} (h : exec c s = .next (settle s s.pos u)) (pos : u.pos = s.pos) : Effect c s u := by
  rw [Effect, h, pos]

theorem CycleEnded.pos {x : BagResult} {st : BaggerState} {m : Nat} (h : CycleEnded x st m s u) : u.pos = s.pos :=
  kept_pos h.frame rfl

theorem bagOpen_effect {a : Attempt} (on : s.powered = true) (running : s.bag.attempt = some a) :
    Effect .bagOpenSignal s (endCycle .confirmed (if a.number = 1 then .bagged else .baggedOnRetry) s) := by
  have served : exec .bagOpenSignal s = execBagOpenSignal s := rfl
  refine effect_of_pos ?_ (endCycle_ended running _ _).pos
  rw [served, execBagOpenSignal, whenPowered_event on, bagConfirmed, running]

theorem bagOpen_idle (on : s.powered = true) (idle : s.bag.attempt = none) : Effect .bagOpenSignal s s := by
  have served : exec .bagOpenSignal s = execBagOpenSignal s := rfl
  rw [Effect, served, execBagOpenSignal, whenPowered_event on, bagConfirmed, idle]

theorem bagConfirm_off (on : s.powered = true) (stopped : s.bag.confirm = none) :
    exec .bagConfirmTimerExpiry s = .next s := by
  have served : exec .bagConfirmTimerExpiry s = execBagConfirmTimerExpiry s := rfl
  rw [served, execBagConfirmTimerExpiry, whenPowered_event on, if_neg (by simp [stopped])]

theorem bagConfirm_runs (on : s.powered = true) (runs : s.bag.confirm.isSome = true) :
    exec .bagConfirmTimerExpiry s = .next (settle s s.pos (bagMissed s)) := by
  have served : exec .bagConfirmTimerExpiry s = execBagConfirmTimerExpiry s := rfl
  rw [served, execBagConfirmTimerExpiry, whenPowered_event on, if_pos runs]

theorem bagMissed_repeats {a : Attempt} (running : s.bag.attempt = some a) (again : a.number = 1 ∧ 0 < s.bag.supply) :
    bagMissed s = beginAttempt a.loaf 2 s := by
  rw [bagMissed, running]
  exact if_pos again

theorem bagMissed_ends {a : Attempt} (running : s.bag.attempt = some a) (last : ¬(a.number = 1 ∧ 0 < s.bag.supply)) :
    bagMissed s = endCycle .missed .notBagged s := by
  rw [bagMissed, running]
  exact if_neg last

theorem baggerAfter_missed {m limit : Nat} (supply : Nat) : baggerAfter .missed m limit supply =
    if limit ≤ m then .down else if supply = 0 then .empty else .ready := by
  simp [baggerAfter]

theorem bagMissed_ended {a : Attempt} (running : s.bag.attempt = some a) :
    CycleEnded .notBagged
      (if s.set.missLimit ≤ s.bag.misses + 1 then .down else if s.bag.supply = 0 then .empty else .ready)
      (s.bag.misses + 1) s (endCycle .missed .notBagged s) := by
  have ended := endCycle_ended running .missed .notBagged
  rwa [baggerAfter_missed] at ended

/-- Settles O29: the sensor ends the attempt confirmed, the timer begins the second attempt or ends the cycle missed. -/
theorem bagAttemptsEnd : Obligations.BagAttemptsEnd := by
  intro s on
  refine ⟨bagOpen_idle on, fun a running => ?_, bagConfirm_off on, fun a runs running => ⟨fun again => ?_, fun last limit => ?_,
    fun last under => ?_⟩⟩
  · obtain ⟨frame, bag, -, -, record, -⟩ := endCycle_ended running .confirmed (if a.number = 1 then .bagged else .baggedOnRetry)
    exact ⟨_, bagOpen_effect on running, frame, bag, nofun, record⟩
  · obtain ⟨frame, bag, low, counted⟩ := beginAttempt_begun a.loaf 2 s
    refine ⟨_, effect_of_pos ?_ (kept_pos frame rfl), frame, bag, low, counted⟩
    rw [bagConfirm_runs on runs, bagMissed_repeats running again]
  · have ended := bagMissed_ended running
    rw [if_pos limit] at ended
    refine ⟨_, effect_of_pos ?_ ended.pos, ended.frame, ended.bag, ?_, ended.record⟩
    · rw [bagConfirm_runs on runs, bagMissed_ends running last]
    · simpa using ended.down rfl
  · have ended := bagMissed_ended running
    rw [if_neg (Nat.not_le.2 under)] at ended
    refine ⟨_, effect_of_pos ?_ ended.pos, ended.frame, ended.bag, nofun, ended.record⟩
    rw [bagConfirm_runs on runs, bagMissed_ends running last]

end Sys2Proof.Machine
end

section
/-! PROOFS. The line's entry to HALTED, block by block (R17, R84, R100, R104, R126, R144, R181). -/

namespace Sys2Proof.Machine

variable {s t u : State}

/-- The line's own part of an entry to HALTED, before the blocks take it. -/
def lineToHalted (cause : StopCause) (s : State) : State :=
  setLine .halted (s.onLc fun lc =>
    { lc with cause := cause, demand := 0, target := 0, rampCarry := 0, startLimit := none, silence := none })

/-- The line, the reference and the heads at an entry to HALTED. -/
def motionHalted (cause : StopCause) (s : State) : State := headsAtHalted (enterIdle (lineToHalted cause s))

/-- What ARB, CRM and TIE take at an entry to HALTED. -/
def mergeHalted (s : State) : State := tyerAtHalted (abortCycle (restPushers s))

theorem enterHalted_eq (cause : StopCause) (s : State) :
    enterHalted cause s = mergeHalted (bagAtHalted (motionHalted cause s)) := rfl

theorem headsAtHalted_lane (l : Lane) (s : State) : LaneAtRest (s.lane l) ((headsAtHalted s).lane l) := by
  refine forLanes_own (l := l) (read := fun t => t.lane l) (fun t => ?_) (fun k t other => ?_) s
  · simpa using laneOutOfMotion_lane_self l (stopBladeIf _ l t)
  · simp [laneOutOfMotion_lane_ne _ other]

theorem headsAtHalted_blade (l : Lane) (s : State) : ((headsAtHalted s).head l).blade =
    if (s.head l).blade = .fault then .fault else .stopped := by
  refine forLanes_own (l := l) (read := fun t => (t.head l).blade)
    (Made := fun b b' => b' = if b = .fault then .fault else .stopped) (fun t => ?_) (fun k t other => ?_) s
  · rw [laneOutOfMotion_head, stopBladeIf_head_self]
    cases (t.head l).blade <;> rfl
  · simp [stopBladeIf_head_ne _ _ other]

theorem lasts_headsAtHalted (s : State) : Lasts s (headsAtHalted s) :=
  lasts_forLanes (fun l t => (lasts_stopBladeIf t _ l).trans (lasts_laneOutOfMotion _ l)) s

theorem motionHalted_keeps (cause : StopCause) (s : State) :
    SameBut { lp := true, sru := true, lc := true, hd := true } s (motionHalted cause s) := by
  simp [SameBut, motionHalted, lineToHalted]

theorem motionHalted_lc (cause : StopCause) (s : State) : ∃ held, (motionHalted cause s).lc = { s.lc with
    state := .halted, cause := cause, demand := 0, target := 0, rampCarry := 0, startLimit := none, silence := none
    held := held } := by
  obtain ⟨held, line⟩ := enterIdle_lc (lineToHalted cause s)
  refine ⟨held, ?_⟩
  rw [motionHalted, kept_lc (headsAtHalted_without (b := { lp := true, hd := true }) _ rfl rfl) rfl rfl, line]
  rfl

theorem motionHalted_hd (cause : StopCause) (s : State) : (enterIdle (lineToHalted cause s)).hd = s.hd :=
  kept_hd (b := { lp := true, sru := true, lc := true }) (by simp [lineToHalted]) rfl

theorem motionHalted_sru (cause : StopCause) (s : State) : (motionHalted cause s).sru.state = .idle := by
  rw [motionHalted, kept_sru (headsAtHalted_without (b := { lp := true, hd := true }) _ rfl rfl) rfl rfl,
    enterIdle_sru_state]

theorem motionHalted_flag (cause : StopCause) (s : State) : (motionHalted cause s).flag .lineState = true :=
  (lasts_headsAtHalted _).flags _ (enterIdle_flag (by rw [lineToHalted, setLine_flag]; simp))

/-- What ARB, CRM and TIE make of their values; no other block takes part. -/
theorem mergeHalted_spec (s : State) :
    SameBut { arb := true, tie := true, crm := true } s (mergeHalted s) ∧
    (mergeHalted s).arb = { s.arb with pushers := Vector.replicate 4 false } ∧
    (mergeHalted s).tie = (if s.tie.state = .reindex then
      { s.tie with state := .reindexPending, reindex := none, tyerOut := .none } else s.tie) ∧
    (mergeHalted s).crm = (if s.crm.running = true then
      { s.crm with state := .wait, cycle := none, purge := none, settle := none, weigh := none, air := none } else s.crm) :=
  ⟨by simp [SameBut, mergeHalted], rfl, rfl, rfl⟩

/-- What a halt does to the bagger and the record of its attempt (R104). -/
theorem bagAtHalted_spec (s : State) : SameBut { lp := true, trk := true, bag := true } s (bagAtHalted s) ∧
    (s.bag.attempt = none → bagAtHalted s = s) ∧
    (∀ k, s.flag k = true → (bagAtHalted s).flag k = true) ∧
    ∀ a, s.bag.attempt = some a →
      CycleEnded .notBagged (if s.bag.supply = 0 then .empty else .ready) s.bag.misses s (bagAtHalted s) := by
  have frame : SameBut { lp := true, trk := true, bag := true } s (bagAtHalted s) := bagAtHalted_without s rfl rfl rfl
  have idle : s.bag.attempt = none → bagAtHalted s = s := fun h => by rw [bagAtHalted, endCycle, h]
  refine ⟨frame, idle, fun k set => ?_, fun a running => ?_⟩
  · cases attempt : s.bag.attempt with
    | none => rwa [idle attempt]
    | some a => exact (endCycle_ended attempt .halted .notBagged).flags k set
  · have ended := endCycle_ended running .halted .notBagged
    have after : baggerAfter .halted (missesAfter s.bag.misses .halted) s.set.missLimit s.bag.supply =
        if s.bag.supply = 0 then .empty else .ready := by simp [baggerAfter]
    rwa [after] at ended

theorem enterHalted_taken (cause : StopCause) (s : State) : HaltTaken cause s (enterHalted cause s) := by
  obtain ⟨held, lc⟩ := motionHalted_lc cause s
  have moved := motionHalted_keeps cause s
  obtain ⟨bagged, idle, flags, ended⟩ := bagAtHalted_spec (motionHalted cause s)
  obtain ⟨rest, arb, tie, crm⟩ := mergeHalted_spec (bagAtHalted (motionHalted cause s))
  have sru := motionHalted_sru cause s
  have flag := motionHalted_flag cause s
  have lanes : ∀ l, LaneAtRest (s.lane l) ((motionHalted cause s).lane l) ∧ ((motionHalted cause s).head l).blade =
      if (s.head l).blade = .fault then .fault else .stopped := fun l => by
    rw [← lane_of_hd (motionHalted_hd cause s) l, ← head_of_hd (motionHalted_hd cause s) l]
    exact ⟨headsAtHalted_lane l _, headsAtHalted_blade l _⟩
  rw [enterHalted_eq]
  generalize mergeHalted (bagAtHalted (motionHalted cause s)) = u at *
  generalize bagAtHalted (motionHalted cause s) = v at *
  generalize motionHalted cause s = w at *
  have hd : u.hd = w.hd := (kept_hd rest rfl).trans (kept_hd bagged rfl)
  have line : u.lc = w.lc := (kept_lc rest rfl rfl).trans (kept_lc bagged rfl rfl)
  have lp : u.lp = v.lp := kept_lp rest rfl rfl
  have trk : u.trk = v.trk := kept_trk rest rfl
  have bag : u.bag = v.bag := kept_bag rest rfl
  have before : w.bag = s.bag := kept_bag moved rfl
  have records : w.trk = s.trk := kept_trk moved rfl
  have frame : SameBut { lp := true, sru := true, lc := true, trk := true, hd := true, arb := true, bag := true, tie := true, crm := true } s u :=
    (rest.widen fun _ => rfl).trans ((bagged.widen fun _ => rfl).trans (moved.widen fun _ => rfl))
  have crmKept : v.crm = s.crm := (kept_crm bagged rfl).trans (kept_crm moved rfl)
  rw [crmKept] at crm
  refine ⟨frame, by rw [line, lc], by rw [line, lc], by rw [line, lc], by rw [line, lc], by rw [line, lc], by rw [line, lc], ?_, ?_,
    fun l => ?_, ?_, ?_, ?_, ?_, ?_, fun runs => ?_, fun none => ?_, fun a running => ?_⟩
  · rw [kept_sru rest rfl rfl, kept_sru bagged rfl rfl, sru]
  · rw [State.flag, lp]
    exact flags _ flag
  · rw [lane_of_hd hd, head_of_hd hd]
    exact lanes l
  · rw [arb, kept_arb bagged rfl, kept_arb moved rfl]
  · rw [tie, kept_tie bagged rfl, kept_tie moved rfl]
  · rw [crm]; split <;> rfl
  · rw [crm]; split <;> rfl
  · rw [crm]; split <;> rfl
  · rw [crm, if_pos runs]
    exact ⟨rfl, rfl, rfl, rfl, rfl, rfl⟩
  · rw [trk, bag, idle (by rw [before, none])]
    exact ⟨records, before⟩
  · have cycle := ended a (by rw [before, running])
    have others : RecordsBut a.loaf s v := (cycle.others a (by rw [before, running])).of_trk_left records
    refine ⟨?_, others.of_trk trk, fun r found => ?_⟩
    · rw [bag, cycle.bag, before]
    · have held : w.find a.loaf = some r := by
        rw [← found]
        unfold State.find State.records
        rw [records]
      obtain ⟨now, -⟩ := cycle.record a r (by rw [before, running]) held (by rw [loaf_of_find found]; exact held)
      rw [loaf_of_find found] at now
      have after : u.find a.loaf = v.find a.loaf := by
        unfold State.find State.records
        rw [trk]
      rw [after, now]
      rfl

end Sys2Proof.Machine
end

section
/-! PROOFS. Halts and the line's timers (R21, R177, R179, R181, R184). -/

namespace Sys2Proof.Machine

variable {s t u : State}

/-! ### HALT and the E-stop (R181) -/

theorem haltLine_moving {cause : StopCause} (h : s.lc.state = .starting ∨ s.lc.state = .running ∨ s.lc.state = .draining) :
    haltLine cause s = enterHalted cause s := if_pos ((moving_iff _).2 h)

theorem haltLine_still {cause : StopCause} (h : ¬(s.lc.state = .starting ∨ s.lc.state = .running ∨ s.lc.state = .draining)) :
    haltLine cause s = s := if_neg (mt (moving_iff _).1 h)

theorem halt_replies {tag : Byte} (h : Handling ⟨0x22, tag, []⟩ s) :
    Replies (.halt tag []) ⟨0x22, tag, []⟩ .ok (fun v => [byteOf v.lc.state.code]) s (haltLine .halt s) := by
  rw [Replies, exec_handling (c := .halt tag []) h rfl rfl, ownHalt, answerLine, giveReply_okay]
  dsimp only [lineStateField]

/-- The E-stop input as it is noted. -/
def estopNoted (b : Bool) (s : State) : State := s.onLc fun lc => { lc with estop := b }

theorem estop_effect (on : s.powered = true) : Effect .estopAsserted s (haltLine .estop (estopNoted true s)) := by
  have served : exec .estopAsserted s = execEstopAsserted s := rfl
  rw [Effect, served, execEstopAsserted]
  exact whenPowered_event on _

/-- Settles O40: a moving line enters HALTED, any other stays. -/
theorem halts : Obligations.Halts := by
  intro s tag on
  refine ⟨fun h => ⟨fun moving => ⟨_, enterHalted_taken .halt s, ?_⟩, fun still => ?_⟩, fun moving => ⟨enterHalted .estop (estopNoted true s), ?_, ?_⟩, fun still => ?_, ?_⟩
  · have answered := halt_replies h
    rwa [haltLine_moving moving] at answered
  · have answered := halt_replies h
    rwa [haltLine_still still] at answered
  · exact enterHalted_taken .estop (estopNoted true s)
  · have effect := estop_effect on
    rwa [haltLine_moving (s := estopNoted true s) moving] at effect
  · have effect := estop_effect on
    rwa [haltLine_still (s := estopNoted true s) still] at effect
  · exact whenPowered_event on (estopNoted false)

/-! ### The holdover timer (R21) -/

theorem markSuspect_marked (s : State) : SuspectMarked s (markSuspect s) := by
  have mark : ∀ rs : List Rec, mapIf (fun r => r.state != .decided) (fun r => { r with suspect := true }) rs =
      rs.map fun r => if r.state = .decided then r else { r with suspect := true } := fun rs => by
    refine List.map_congr_left fun r _ => ?_
    cases state : r.state <;> simp [state]
  exact ⟨mark _, fun l => (queue_mapRecords s _ _ l).trans (mark _)⟩

theorem SuspectMarked.of_trk (h : SuspectMarked s t) (trk : u.trk = t.trk) : SuspectMarked s u := by
  unfold SuspectMarked State.queue at *
  rwa [trk]

/-- A change of the reference state leaves the line, and ends a HOLDOVER. -/
theorem setReferenceState_spec (st : RefState) (src : Source) (s : State) : let u := setReferenceState st src s
    u.sru.state = st ∧ u.sru.selected = src ∧ u.sru.holdover = s.sru.holdover ∧ u.lc.state = s.lc.state ∧
      u.lc.held = (if s.sru.state ≠ st then if st = .holdover then some s.lc.demand else none else s.lc.held) ∧
      u.flag .refState = true ∧ u.trk = s.trk := by
  refine ⟨rfl, rfl, rfl, rfl, ?_, ?_, rfl⟩
  · have held : (setReferenceState st src s).lc.held =
        if decide (s.sru.state ≠ st) then (if st = .holdover then some s.lc.demand else none) else s.lc.held := rfl
    rw [held]
    simp only [decide_eq_true_eq]
  · simp [setReferenceState]

theorem enterCrawl_spec (s : State) (holdover : s.sru.state = .holdover) : let u := enterCrawl s
    SameBut { lp := true, sru := true, lc := true, trk := true } s u ∧
    u.sru.state = .crawl ∧ u.sru.selected = .pacer ∧ u.sru.holdover = none ∧ u.lc.held = none ∧
      u.lc.state = s.lc.state ∧ u.flag .refState = true ∧ SuspectMarked s u := by
  obtain ⟨state, selected, timer, line, held, flag, trk⟩ :=
    setReferenceState_spec .crawl .pacer ((markSuspect s).onSru fun x => { x with holdover := none })
  have left : ((markSuspect s).onSru fun x => { x with holdover := none }).sru.state ≠ .crawl := by
    have same : ((markSuspect s).onSru fun x => { x with holdover := none }).sru.state = s.sru.state := rfl
    rw [same, holdover]
    exact nofun
  rw [if_pos left] at held
  exact ⟨by simp [SameBut], state, selected, timer, held, line, flag, (markSuspect_marked s).of_trk trk⟩

theorem holdoverExpiry_off (on : s.powered = true) (stopped : s.sru.holdover = none) :
    exec .holdoverTimerExpiry s = .next s := by
  have served : exec .holdoverTimerExpiry s = execHoldoverTimerExpiry s := rfl
  rw [served, execHoldoverTimerExpiry, whenPowered_event on, if_neg (by simp [stopped])]

theorem holdoverExpiry_effect (on : s.powered = true) (runs : s.sru.holdover.isSome = true) :
    Effect .holdoverTimerExpiry s (enterCrawl s) := by
  have served : exec .holdoverTimerExpiry s = execHoldoverTimerExpiry s := rfl
  rw [Effect, served, execHoldoverTimerExpiry, whenPowered_event on, if_pos runs]

/-! ### The start limit (R177) -/

theorem startLimitExpiry_off (on : s.powered = true) (stopped : s.lc.startLimit = none ∨ s.lc.state ≠ .starting) :
    exec .startLimitExpiry s = .next s := by
  have served : exec .startLimitExpiry s = execStartLimitExpiry s := rfl
  rw [served, execStartLimitExpiry, whenPowered_event on, if_neg]
  rintro ⟨runs, starting⟩
  rcases stopped with stopped | other
  · exact nomatch stopped ▸ runs
  · exact other starting

theorem startLimitExpiry_effect (on : s.powered = true) (runs : s.lc.startLimit.isSome = true)
    (starting : s.lc.state = .starting) :
    (s.lc.origin = .ready → Effect .startLimitExpiry s (enterReady .startFail s)) ∧
    (s.lc.origin = .halted → Effect .startLimitExpiry s (enterHalted .startFail s)) := by
  have served : exec .startLimitExpiry s = execStartLimitExpiry s := rfl
  unfold Effect
  rw [served, execStartLimitExpiry, whenPowered_event on, if_pos ⟨runs, starting⟩]
  constructor
  · intro origin
    rw [origin]
  · intro origin
    rw [origin]

/-! ### The silence timer (R184) -/

/-- The silence timer's end: LINK_SILENT raised. -/
def silenceEnded (s : State) : State :=
  raise .linkSilent (byteOf s.set.linkTimeoutS :: posBytes s.pos) (s.onLc fun lc => { lc with silence := none })

theorem silenceExpiry_off (on : s.powered = true) (stopped : s.lc.silence = none) : exec .silenceTimerExpiry s = .next s := by
  have served : exec .silenceTimerExpiry s = execSilenceTimerExpiry s := rfl
  rw [served, execSilenceTimerExpiry, whenPowered_event on, if_neg (by simp [stopped])]

theorem silenceExpiry_effect (on : s.powered = true) (runs : s.lc.silence.isSome = true) :
    Effect .silenceTimerExpiry s (requestDrain .linkSilent (silenceEnded s)) := by
  have served : exec .silenceTimerExpiry s = execSilenceTimerExpiry s := rfl
  rw [Effect, served, execSilenceTimerExpiry, whenPowered_event on, if_pos runs, silenceEnded]

/-- Settles O43: each timer by what it makes the line or the reference do. -/
theorem lineTimersExpire : Obligations.LineTimersExpire := by
  intro s on
  refine ⟨holdoverExpiry_off on, fun runs state => ?_, startLimitExpiry_off on, fun runs starting origin => ?_,
    fun runs starting origin => ?_, silenceExpiry_off on, fun runs running => ?_⟩
  · exact ⟨_, holdoverExpiry_effect on runs, enterCrawl_spec s state⟩
  · exact ⟨_, (startLimitExpiry_effect on runs starting).1 origin, enterReady_taken .startFail s⟩
  · exact ⟨_, (startLimitExpiry_effect on runs starting).2 origin, enterHalted_taken .startFail s⟩
  · have effect := silenceExpiry_effect on runs
    rw [requestDrain_drains (s := silenceEnded s) (.inl running)] at effect
    have flag : (silenceEnded s).flag .linkSilent = true := by simp [silenceEnded]
    refine ⟨_, effect, ?_, (lasts_enterDraining _ _).flags _ flag, enterDraining_flag _ _, rfl, rfl, rfl⟩
    simp [SameBut, silenceEnded]

end Sys2Proof.Machine
end

section
/-! PROOFS. The parts of a settling, one after another: what each finds and leaves. -/

namespace Sys2Proof.Machine

variable {s t u : State}

/-! ### The line's own checks -/

theorem settleLine_frame (before s : State) :
    SameBut { lp := true, sru := true, lc := true, hd := true } s (settleLine before s) := by
  unfold SameBut settleLine
  rw [settleDrain_without _ rfl rfl rfl rfl, settleStart_without _ rfl rfl, checkNoLanes_without _ _ rfl rfl rfl rfl]
  exact without_forLanes s _ fun l t => stopIdleBlade_without t l rfl

theorem idleBlades_keep (s : State) : SameBut { hd := true } s (forLanes stopIdleBlade s) :=
  without_forLanes s _ fun l t => stopIdleBlade_without t l rfl

theorem requestDrain_state (cause : StopCause) (s : State) : (requestDrain cause s).lc.state = s.lc.state ∨
    (requestDrain cause s).lc.state = .draining ∨ ((requestDrain cause s).lc.state = .ready ∧ s.lc.state = .starting) := by
  unfold requestDrain
  split
  · exact .inr (.inl rfl)
  · next starting =>
    split
    · obtain ⟨-, ready, -⟩ := enterReady_taken cause s
      exact .inr (.inr ⟨ready, starting⟩)
    · exact .inr (.inl rfl)
  · exact .inl rfl

/-- The check of R85 makes a RUNNING line drain or leaves the state as it is. -/
theorem checkNoLanes_cases (before s : State) : checkNoLanes before s = s ∨
    (s.lc.state = .running ∧ checkNoLanes before s = enterDraining .noLanes s) := by
  unfold checkNoLanes
  split
  · next due => exact .inr ⟨due.1, requestDrain_drains (.inl due.1)⟩
  · exact .inl rfl

theorem settleStart_cases (s : State) : settleStart s = s ∨
    (s.lc.state = .starting ∧ settleStart s = enterRunning s) := by
  unfold settleStart
  split
  · next due => exact .inr ⟨due.1, rfl⟩
  · exact .inl rfl

theorem settleDrain_cases (s : State) : settleDrain s = s ∨
    (s.lc.state = .draining ∧ s.tableCount = 0 ∧ settleDrain s = enterReady s.lc.cause s) := by
  unfold settleDrain
  split
  · next due => exact .inr ⟨due.1, due.2, rfl⟩
  · exact .inl rfl

/-- The line's own checks neither halt a line nor move a halted one. -/
theorem settleLine_halted (before s : State) : (settleLine before s).lc.state = .halted ↔ s.lc.state = .halted := by
  have blades : (forLanes stopIdleBlade s).lc = s.lc := kept_lc (idleBlades_keep s) rfl rfl
  have checked : (checkNoLanes before (forLanes stopIdleBlade s)).lc.state = .halted ↔ s.lc.state = .halted := by
    rcases checkNoLanes_cases before (forLanes stopIdleBlade s) with same | ⟨running, drains⟩
    · rw [same, blades]
    · rw [drains, enterDraining_lc, ← blades, running]
      simp
  have started : (settleStart (checkNoLanes before (forLanes stopIdleBlade s))).lc.state = .halted ↔ s.lc.state = .halted := by
    rcases settleStart_cases (checkNoLanes before (forLanes stopIdleBlade s)) with same | ⟨starting, runs⟩
    · rw [same, checked]
    · have running : (settleStart (checkNoLanes before (forLanes stopIdleBlade s))).lc.state = .running := by rw [runs]; rfl
      rw [running, ← checked, starting]
      simp
  rw [settleLine]
  rcases settleDrain_cases (settleStart (checkNoLanes before (forLanes stopIdleBlade s))) with same | ⟨draining, -, readies⟩
  · rw [same, started]
  · obtain ⟨-, ready, -⟩ := enterReady_taken (settleStart (checkNoLanes before (forLanes stopIdleBlade s))).lc.cause
      (settleStart (checkNoLanes before (forLanes stopIdleBlade s)))
    rw [readies, ready, ← started, draining]
    simp

/-- A line that merges goes on merging while the table holds a record. -/
theorem settleLine_merging {before s : State} (merging : s.lc.state = .running ∨ s.lc.state = .draining)
    (records : s.tableCount ≠ 0) :
    (settleLine before s).lc.state = .running ∨ (settleLine before s).lc.state = .draining := by
  have blades : (forLanes stopIdleBlade s).lc = s.lc := kept_lc (idleBlades_keep s) rfl rfl
  have checked : (checkNoLanes before (forLanes stopIdleBlade s)).lc.state = .running ∨
      (checkNoLanes before (forLanes stopIdleBlade s)).lc.state = .draining := by
    rcases checkNoLanes_cases before (forLanes stopIdleBlade s) with same | ⟨-, drains⟩
    · rwa [same, blades]
    · rw [drains]
      exact .inr rfl
  have start : settleStart (checkNoLanes before (forLanes stopIdleBlade s)) = checkNoLanes before (forLanes stopIdleBlade s) := by
    rcases settleStart_cases (checkNoLanes before (forLanes stopIdleBlade s)) with same | ⟨starting, -⟩
    · exact same
    · rw [starting] at checked
      exact absurd checked (by simp)
  have table : (checkNoLanes before (forLanes stopIdleBlade s)).tableCount = s.tableCount := by
    refine tableCount_of_trk ?_
    exact (kept_trk (checkNoLanes_without (b := { lp := true, sru := true, lc := true, hd := true }) _ _ rfl rfl rfl rfl) rfl).trans
      (kept_trk (idleBlades_keep s) rfl)
  rw [settleLine, start]
  rcases settleDrain_cases (checkNoLanes before (forLanes stopIdleBlade s)) with same | ⟨-, empty, -⟩
  · rwa [same]
  · exact absurd (table ▸ empty) records

/-- A line that the checks leave RUNNING keeps its lanes. -/
theorem settleLine_running {before s : State} (running : (settleLine before s).lc.state = .running) (l : Lane) :
    (settleLine before s).lane l = s.lane l := by
  rw [settleLine] at running ⊢
  rcases settleDrain_cases (settleStart (checkNoLanes before (forLanes stopIdleBlade s))) with same | ⟨-, -, readies⟩
  · rw [same]
    simp
  · obtain ⟨-, ready, -⟩ := enterReady_taken (settleStart (checkNoLanes before (forLanes stopIdleBlade s))).lc.cause
      (settleStart (checkNoLanes before (forLanes stopIdleBlade s)))
    rw [readies, ready] at running
    exact nomatch running

/-! ### The state that ARB's grant looks at -/

/-- The state that ARB's grant looks at. -/
def beforeGrant (before : State) (h : Nat) (u : State) : State :=
  refresh (forLanes settleRetrial (settleBlocks h (settleLine before u)))

theorem settle_grants (before : State) (h : Nat) (u : State) :
    settle before h u = evaluateGates (refresh (settleChangeover (settleGrant h (beforeGrant before h u)))) := rfl

theorem settleBlocks_keep (h : Nat) (s : State) :
    SameBut { hd := true, arb := true, tie := true, crm := true } s (settleBlocks h s) := settleBlocks_frame h s

theorem retrials_keep (s : State) : SameBut { hd := true } s (forLanes settleRetrial s) :=
  without_forLanes s _ fun l t => settleRetrial_without t l rfl

theorem settled_beforeGrant (before : State) (h : Nat) (u : State) :
    SameBut { lc := true, sru := true, hd := true, arb := true } (settleBlocks h (settleLine before u))
      (beforeGrant before h u) := by
  unfold beforeGrant
  exact (refresh_without _ rfl rfl rfl rfl).trans ((retrials_keep _).widen fun _ => rfl)

theorem beforeGrant_frame (before : State) (h : Nat) (u : State) :
    SameBut { lp := true, sru := true, lc := true, hd := true, arb := true, tie := true, crm := true } u
      (beforeGrant before h u) :=
  ((settled_beforeGrant before h u).widen fun _ => rfl).trans
    (((settleBlocks_keep h (settleLine before u)).widen fun _ => rfl).trans
      ((settleLine_frame before u).widen fun _ => rfl))

theorem beforeGrant_lasts (before : State) (h : Nat) (u : State) : Lasts u (beforeGrant before h u) := by
  unfold beforeGrant
  refine Lasts.trans ?_ (lasts_refresh _)
  refine Lasts.trans ?_ (lasts_forLanes (fun l t => lasts_settleRetrial t l) _)
  exact (lasts_settleLine u before).trans (lasts_settleBlocks _ h)

theorem beforeGrant_state (before : State) (h : Nat) (u : State) :
    (beforeGrant before h u).lc.state = (settleLine before u).lc.state := by
  have refreshed : ∀ v : State, (refresh v).lc.state = v.lc.state := fun v => state_of_standing (refresh_standing v)
  rw [beforeGrant, refreshed, kept_lc (retrials_keep _) rfl rfl, kept_lc (settleBlocks_frame h _) rfl rfl]

/-- With no changeover waiting, the arbiter comes to its grant with its withhold set renewed. -/
theorem beforeGrant_arb {before : State} {h : Nat} {u : State} (none : ∀ c, u.arb.changeover ≠ .waiting c) :
    (beforeGrant before h u).arb = { u.arb with withhold := (beforeGrant before h u).withholdDue } := by
  have line : (settleLine before u).arb = u.arb := kept_arb (settleLine_frame before u) rfl
  have reindexed : (settleReindex (forLanes stopIdleBlade (settleLine before u))).arb = u.arb := by
    rw [kept_arb (settleReindex_without (b := { tie := true }) _ rfl) rfl, kept_arb (idleBlades_keep _) rfl, line]
  have stays : settleChangeover (settleReindex (forLanes stopIdleBlade (settleLine before u))) =
      settleReindex (forLanes stopIdleBlade (settleLine before u)) := by
    unfold settleChangeover
    rw [reindexed]
    cases changeover : u.arb.changeover with
    | waiting c => exact absurd changeover (none c)
    | _ => rfl
  have blocks : (settleBlocks h (settleLine before u)).arb = u.arb := by
    rw [settleBlocks, stays, kept_arb (settlePurge_without (b := { hd := true, crm := true }) _ h rfl rfl) rfl, reindexed]
  have retried : (forLanes settleRetrial (settleBlocks h (settleLine before u))).arb = u.arb :=
    (kept_arb (retrials_keep _) rfl).trans blocks
  have refreshed : ∀ v : State, (refresh v).arb = { v.arb with withhold := (refresh v).withholdDue } := fun _ => rfl
  rw [beforeGrant, refreshed, retried]

end Sys2Proof.Machine
end

section
/-! PROOFS. ARB's choice, its grant, and the changeovers (R91 to R97). -/

namespace Sys2Proof.Machine

variable {s t u : State}

/-! ### The order of the choice (R94) -/

theorem goesBefore_iff {pointer : Lane} {a b : Rec} : goesBefore pointer a b = true ↔
    a.pocket.getD 0 < b.pocket.getD 0 ∨
      (a.pocket.getD 0 = b.pocket.getD 0 ∧ turnsAfter pointer a.lane < turnsAfter pointer b.lane) := by
  simp [goesBefore]

theorem goesBefore_false_iff {pointer : Lane} {a b : Rec} : goesBefore pointer a b = false ↔
    b.pocket.getD 0 < a.pocket.getD 0 ∨
      (a.pocket.getD 0 = b.pocket.getD 0 ∧ turnsAfter pointer b.lane ≤ turnsAfter pointer a.lane) := by
  rw [← Bool.not_eq_true, goesBefore_iff]
  omega

theorem earliest_none {pointer : Lane} {rs : List Rec} (h : earliest pointer rs = none) : rs = [] := by
  cases rs with
  | nil => rfl
  | cons r rs =>
    unfold earliest at h
    (repeat' split at h) <;> exact nomatch h

/-- The earliest of some records is one of them, and none of them goes before it. -/
theorem earliest_spec {pointer : Lane} {rs : List Rec} {e : Rec} (h : earliest pointer rs = some e) :
    e ∈ rs ∧ ∀ c ∈ rs, goesBefore pointer c e = false := by
  induction rs generalizing e with
  | nil => exact nomatch h
  | cons r rs ih =>
    have self : goesBefore pointer r r = false := goesBefore_false_iff.2 (.inr ⟨rfl, le_rfl⟩)
    unfold earliest at h
    split at h
    · next last =>
      obtain rfl := Option.some.inj h
      obtain rfl := earliest_none last
      simpa using self
    · next b found =>
      obtain ⟨member, least⟩ := ih found
      split at h
      · next before =>
        obtain rfl := Option.some.inj h
        refine ⟨List.mem_cons_of_mem r member, List.forall_mem_cons.2 ⟨?_, least⟩⟩
        rw [goesBefore_iff] at before
        rw [goesBefore_false_iff]
        omega
      · next after =>
        obtain rfl := Option.some.inj h
        refine ⟨List.mem_cons_self, List.forall_mem_cons.2 ⟨self, fun c hc => ?_⟩⟩
        have late := least c hc
        rw [Bool.not_eq_true, goesBefore_false_iff] at after
        rw [goesBefore_false_iff] at late ⊢
        omega

theorem turnsAfter_injective {pointer a b : Lane} (h : turnsAfter pointer a = turnsAfter pointer b) : a = b := by
  revert pointer a b
  decide

/-! ### The groups of the choice (R94, R95) -/

/-- A candidate of another class at its bypass limit. -/
def State.atLimit (s : State) (r : Rec) : Bool :=
  r.bagClass != s.arb.bagClass && decide (s.set.bypassLimit ≤ s.arb.bypass[r.lane])

/-- The group that the choice is made from. -/
def State.group (s : State) : List Rec :=
  if !(s.candidates.filter s.atLimit).isEmpty then s.candidates.filter s.atLimit
  else if !(s.candidates.filter fun r => r.bagClass == s.arb.bagClass).isEmpty then
    s.candidates.filter fun r => r.bagClass == s.arb.bagClass
  else s.candidates

theorem choice_eq (s : State) : s.choice = earliest s.arb.rotation s.group := rfl

theorem atLimit_iff (s : State) (r : Rec) :
    s.atLimit r = true ↔ r.bagClass ≠ s.arb.bagClass ∧ s.set.bypassLimit ≤ s.arb.bypass[r.lane] := by
  simp [State.atLimit]

/-- The group is told by the candidates at their limit, then by those of the current class. -/
theorem mem_group (s : State) (r : Rec) : r ∈ s.group ↔ r ∈ s.candidates ∧
    ((∃ c ∈ s.candidates, s.atLimit c = true) → s.atLimit r = true) ∧
    ((∀ c ∈ s.candidates, s.atLimit c = false) → (∃ c ∈ s.candidates, c.bagClass = s.arb.bagClass) →
      r.bagClass = s.arb.bagClass) := by
  unfold State.group
  by_cases one : ∃ c ∈ s.candidates, s.atLimit c = true
  · obtain ⟨c, member, limit⟩ := one
    have some_one : (!(s.candidates.filter s.atLimit).isEmpty) = true := by
      simpa [List.isEmpty_iff, List.filter_eq_nil_iff] using ⟨c, member, limit⟩
    rw [if_pos some_one, List.mem_filter]
    refine and_congr_right fun _ => ⟨fun h => ⟨fun _ => h, fun none => ?_⟩, fun h => h.1 ⟨c, member, limit⟩⟩
    exact absurd (none c member) (by simp [limit])
  · have none_one : ¬(!(s.candidates.filter s.atLimit).isEmpty) = true := by
      simpa [List.isEmpty_iff, List.filter_eq_nil_iff] using one
    have none : ∀ c ∈ s.candidates, s.atLimit c = false := fun c hc => by
      simpa using fun limit => one ⟨c, hc, limit⟩
    rw [if_neg none_one]
    by_cases two : ∃ c ∈ s.candidates, c.bagClass = s.arb.bagClass
    · have some_two : (!(s.candidates.filter fun r => r.bagClass == s.arb.bagClass).isEmpty) = true := by
        simpa [List.isEmpty_iff, List.filter_eq_nil_iff] using two
      rw [if_pos some_two, List.mem_filter, beq_iff_eq]
      exact and_congr_right fun _ => ⟨fun h => ⟨fun some => absurd some one, fun _ _ => h⟩, fun h => h.2 none two⟩
    · have none_two : ¬(!(s.candidates.filter fun r => r.bagClass == s.arb.bagClass).isEmpty) = true := by
        simpa [List.isEmpty_iff, List.filter_eq_nil_iff] using two
      rw [if_neg none_two]
      exact ⟨fun h => ⟨h, fun some => absurd some one, fun _ some => absurd some two⟩, fun h => h.1⟩

theorem group_nil (s : State) : s.group = [] ↔ s.candidates = [] := by
  unfold State.group
  split
  · next some =>
    simp only [Bool.not_eq_eq_eq_not, Bool.not_true, List.isEmpty_eq_false_iff] at some
    exact ⟨fun h => absurd h some, fun h => absurd (by rw [h]; rfl) some⟩
  · split
    · next some =>
      simp only [Bool.not_eq_eq_eq_not, Bool.not_true, List.isEmpty_eq_false_iff] at some
      exact ⟨fun h => absurd h some, fun h => absurd (by rw [h]; rfl) some⟩
    · exact Iff.rfl

theorem mem_candidates {s : State} {r : Rec} : r ∈ s.candidates ↔ ∃ l, s.candidate l = some r := by
  simp [State.candidates, mem_lanes]

/-- The candidate of a lane carries that lane, where each queue holds the records of its lane. -/
theorem candidate_lane {r : Rec} {l : Lane} (own : ∀ k, ∀ x ∈ s.queue k, x.lane = k) (h : s.candidate l = some r) :
    r.lane = l := by
  obtain ⟨queue, -⟩ := candidate_spec s h
  exact own l r (by rw [queue]; exact List.mem_cons_self)

theorem choice_candidate {r : Rec} (h : s.choice = some r) : r ∈ s.candidates := by
  obtain ⟨member, -⟩ := earliest_spec h
  exact ((mem_group s r).1 member).1

/-! ### The state of the grant (R91, R93) -/

theorem candidate_congr {l : Lane} (trk : t.trk = s.trk) : t.candidate l = s.candidate l := by
  simp only [State.candidate, State.queue, trk]

/-- The choice is made of the table, the settings and the arbiter's class, counts and rotation. -/
theorem choice_congr (trk : t.trk = s.trk) (pst : t.pst = s.pst) (bagClass : t.arb.bagClass = s.arb.bagClass)
    (bypass : t.arb.bypass = s.arb.bypass) (rotation : t.arb.rotation = s.arb.rotation) : t.choice = s.choice := by
  have candidates : t.candidates = s.candidates := by
    unfold State.candidates
    congr 1
    funext l
    exact candidate_congr trk
  have limit : t.atLimit = s.atLimit := by
    funext r
    unfold State.atLimit State.set
    rw [pst, bagClass, bypass]
  simp only [choice_eq, State.group, candidates, limit, bagClass, rotation]

theorem tableCount_of_choice {r : Rec} (h : s.choice = some r) : s.tableCount ≠ 0 := by
  obtain ⟨l, candidate⟩ := mem_candidates.1 (choice_candidate h)
  obtain ⟨queue, -⟩ := candidate_spec s candidate
  have member : r ∈ s.records := (mem_records_iff s r).2 (.inl ⟨l, by rw [queue]; exact List.mem_cons_self⟩)
  exact fun empty => List.not_mem_nil (List.length_eq_zero_iff.1 empty ▸ member)

theorem isEmpty_iff (w : Withhold) : w.isEmpty = true ↔
    w.changeover = false ∧ w.bagger = false ∧ w.tyer = false ∧ w.purge = false ∧ w.line = false := by
  simp [Withhold.isEmpty, and_assoc]

/-- The tyer's block is left as it is while no reindex is pending. -/
theorem beforeGrant_tie {before : State} {h : Nat} (ready : u.tie.state = .ready) : (beforeGrant before h u).tie = u.tie := by
  have left : (forLanes stopIdleBlade (settleLine before u)).tie = u.tie :=
    (kept_tie (idleBlades_keep _) rfl).trans (kept_tie (settleLine_frame before u) rfl)
  have idle : settleReindex (forLanes stopIdleBlade (settleLine before u)) = forLanes stopIdleBlade (settleLine before u) :=
    if_neg fun pending => by rw [left, ready] at pending; exact nomatch pending.1
  have blocks : (settleBlocks h (settleLine before u)).tie = u.tie := by
    rw [settleBlocks, idle, kept_tie (settlePurge_without (b := { hd := true, crm := true }) _ h rfl rfl) rfl,
      kept_tie (settleChangeover_without (b := { arb := true }) _ rfl) rfl, left]
  exact (kept_tie (settled_beforeGrant before h u) rfl).trans blocks

theorem queue_of_steady (h : t.steady = s.steady) : t.crm.queue = s.crm.queue :=
  congrArg (fun x : Steady => x.crumbs.2.2.1) h

/-- The withhold set is empty where no block holds its member. -/
theorem withholdDue_isEmpty (line : t.lc.state = .running ∨ t.lc.state = .draining) (changeover : t.arb.changeover = .none)
    (bagger : t.bag.state = .ready ∨ t.bag.state = .cycle) (tyer : t.tie.state = .ready)
    (purge : ∀ e rest, t.crm.queue = e :: rest → e.target ≠ .belt) : t.withholdDue.isEmpty = true := by
  rw [isEmpty_iff]
  simp only [State.withholdDue, decide_eq_false_iff_not]
  refine ⟨fun h => h changeover, ?_, fun h => h tyer, ?_, fun h => line.elim h.1 h.2⟩
  · rintro (down | empty)
    · rcases bagger with b | b <;> exact nomatch down.symm.trans b
    · rcases bagger with b | b <;> exact nomatch empty.symm.trans b
  · intro front
    cases entries : t.crm.queue with
    | nil => rw [entries] at front; exact nomatch front
    | cons e rest =>
      rw [entries] at front
      exact purge e rest entries (Option.some.inj front)

theorem reached_spacing {h : Nat} (spacing : ∀ x, t.arb.spacing = some x → x.lead + tuPos (x.length + t.set.minGap) ≤ h) :
    reachedBy h t.spacingPoint = true := by
  unfold State.spacingPoint
  cases reference : t.arb.spacing with
  | none => rfl
  | some x => exact decide_eq_true (spacing x reference)

/-- Where a grant is due and there is a choice, the arbiter comes to its grant with an empty withhold set, as it was,
and at the spacing point. -/
theorem beforeGrant_due {before : State} {h : Nat} {r : Rec} (due : GrantDue h u) (choice : u.choice = some r) :
    (beforeGrant before h u).arb.withhold.isEmpty = true ∧
      (∃ w : Withhold, (beforeGrant before h u).arb = { u.arb with withhold := w }) ∧
      reachedBy h (beforeGrant before h u).spacingPoint = true := by
  obtain ⟨line, changeover, bagger, tyer, purge, flight, spacing⟩ := due
  have frame := beforeGrant_frame before h u
  have arb := beforeGrant_arb (before := before) (h := h) (u := u) fun c waits => nomatch changeover.symm.trans waits
  have merging : (beforeGrant before h u).lc.state = .running ∨ (beforeGrant before h u).lc.state = .draining := by
    rw [beforeGrant_state]
    exact settleLine_merging line (tableCount_of_choice choice)
  have queue := queue_of_steady (beforeGrant_lasts before h u).steady
  have tie := beforeGrant_tie (before := before) (h := h) tyer
  have bag := kept_bag frame rfl
  have pst := kept_pst frame rfl rfl
  generalize beforeGrant before h u = v at *
  have still : v.arb.changeover = .none := by rw [arb]; exact changeover
  have empty : v.withholdDue.isEmpty = true :=
    withholdDue_isEmpty merging still (by rwa [bag]) (by rwa [tie]) (by rwa [queue])
  refine ⟨by rw [arb]; exact empty, ⟨_, arb⟩, reached_spacing fun x hx => ?_⟩
  rw [arb] at hx
  rw [State.set, pst]
  exact spacing x hx

/-- The values that follow and the gates leave the rest of the arbiter and the table, and the tyer. -/
theorem gated_parts (w : State) : (evaluateGates (refresh w)).tie = w.tie ∧
    ∃ x c g, (evaluateGates (refresh w)).arb = { w.arb with withhold := x } ∧
      (evaluateGates (refresh w)).trk = { w.trk with closedBy := c, reserveHeld := g } := by
  have gates : SameBut { lp := true, trk := true } (refresh w) (evaluateGates (refresh w)) := gates_keep _
  obtain ⟨c, g, trk⟩ := evaluateGates_trk (refresh w)
  exact ⟨(kept_tie gates rfl).trans rfl, (refresh w).arb.withhold, c, g, (kept_arb gates rfl).trans rfl, trk⟩

theorem grant_bypass (r : Rec) (s : State) (l : Lane) : (s.bypassAfter r)[l] =
    if l = r.lane then 0 else match s.candidate l with
      | some c => if c.bagClass = r.bagClass then s.arb.bypass[l] else min 32 (s.arb.bypass[l] + 1)
      | none => s.arb.bypass[l] :=
  (Vector.getElem_ofFn l.isLt).trans rfl

theorem grant_queue (r : Rec) (s : State) (l : Lane) : (grant r s).queue l = if l = r.lane then (s.queue r.lane).tail else s.queue l :=
  queue_onQueue s r.lane l List.tail

/-- A due choice of the current class is granted, with no changeover after it. -/
theorem settle_granted {before : State} {h : Nat} {r : Rec} (due : GrantDue h u) (choice : u.choice = some r)
    (same : r.bagClass = u.arb.bagClass) :
    settle before h u = evaluateGates (refresh (grant r (beforeGrant before h u))) := by
  obtain ⟨empty, ⟨w, arb⟩, spacing⟩ := beforeGrant_due (before := before) due choice
  obtain ⟨-, changeover, -, -, -, flight, -⟩ := due
  have frame := beforeGrant_frame before h u
  have found : (beforeGrant before h u).choice = some r := by
    rw [← choice]
    exact choice_congr (kept_trk frame rfl) (kept_pst frame rfl rfl) (by rw [arb]) (by rw [arb]) (by rw [arb])
  rw [settle_grants]
  generalize beforeGrant before h u = v at *
  have granted : settleGrant h v = grant r v := by
    unfold settleGrant
    rw [if_pos ⟨empty, by rw [arb]; exact flight, spacing⟩, found]
    exact if_pos (by rw [arb]; exact same)
  have still : settleChangeover (grant r v) = grant r v := by
    have none : (grant r v).arb.changeover = .none := by
      show v.arb.changeover = .none
      rw [arb]
      exact changeover
    unfold settleChangeover
    rw [none]
  rw [granted, still]

/-- The choice's group has one record to each lane, and none of them goes before it (R94). -/
theorem choice_first (own : ∀ l, ∀ r ∈ s.queue l, r.lane = l) {r c : Rec} (choice : s.choice = some r) (member : c ∈ s.group)
    (other : c ≠ r) : goesBefore s.arb.rotation r c = true := by
  obtain ⟨first, least⟩ := earliest_spec choice
  have late := least c member
  rw [goesBefore_false_iff] at late
  rw [goesBefore_iff]
  rcases late with earlier | ⟨pocket, turns⟩
  · exact .inl earlier
  · refine .inr ⟨pocket.symm, lt_of_le_of_ne turns fun e => other ?_⟩
    have lanes := turnsAfter_injective e
    obtain ⟨l, candidate⟩ := mem_candidates.1 ((mem_group s r).1 first).1
    obtain ⟨k, candidate'⟩ := mem_candidates.1 ((mem_group s c).1 member).1
    rw [candidate_lane own candidate, candidate_lane own candidate'] at lanes
    subst lanes
    exact Option.some.inj (candidate'.symm.trans candidate)

/-- What a grant of record `r` leaves in the arbiter and the table (R95, R97). -/
def Granted (r : Rec) (u t : State) : Prop :=
  t.arb.flight = some ⟨r.loaf, r.lane⟩ ∧ t.arb.pushers = putAt u.arb.pushers r.lane true ∧
    t.arb.rotation = r.lane ∧ t.arb.spacing = u.arb.spacing ∧
    (∀ l : Lane, t.arb.bypass[l] = if l = r.lane then 0 else match u.candidate l with
      | some c => if c.bagClass = r.bagClass then u.arb.bypass[l] else min 32 (u.arb.bypass[l] + 1)
      | none => u.arb.bypass[l]) ∧
    t.trk.post = u.trk.post ++ [{ r with
      mergeLead := some (u.pos + u.set.mergeTravel * 65536), seq := some u.trk.nextSeq
      state := .merged }] ∧
    t.trk.nextSeq = (if u.trk.nextSeq = 4294967295 then 1 else u.trk.nextSeq + 1) ∧
    u.queue r.lane = r :: t.queue r.lane ∧ ∀ l, l ≠ r.lane → t.queue l = u.queue l

/-- A grant, made in a state that differs from `u` in the withhold set alone as the arbiter and the table see it. -/
theorem granted_of {v : State} {r : Rec} {w w' : Withhold} {c g} (varb : v.arb = { u.arb with withhold := w })
    (vtrk : v.trk = u.trk) (vpos : v.sru.pos = u.sru.pos) (vpst : v.pst = u.pst)
    (queue : u.queue r.lane = r :: (u.queue r.lane).tail)
    (arb : t.arb = { (grant r v).arb with withhold := w' })
    (trk : t.trk = { (grant r v).trk with closedBy := c, reserveHeld := g }) : Granted r u t := by
  have queues : ∀ k, t.queue k = (grant r v).queue k := fun k => by rw [State.queue, trk]; rfl
  have vqueue : ∀ k, v.queue k = u.queue k := fun k => by rw [State.queue, vtrk]; rfl
  have vcandidate : ∀ k, v.candidate k = u.candidate k := fun k => candidate_congr vtrk
  have vset : v.set = u.set := by rw [State.set, vpst]; rfl
  refine ⟨by rw [arb]; rfl, ?_, by rw [arb]; rfl, ?_, fun l => ?_, ?_, ?_, ?_, fun l away => ?_⟩
  · rw [arb]
    show putAt v.arb.pushers r.lane true = _
    rw [varb]
  · rw [arb]
    show v.arb.spacing = _
    rw [varb]
  · rw [arb]
    refine (grant_bypass r v l).trans ?_
    rw [vcandidate, varb]
  · rw [trk]
    show v.trk.post ++ [{ r with mergeLead := some (v.pos + tuPos v.set.mergeTravel), seq := some v.trk.nextSeq, state := .merged }] = _
    rw [vtrk, vset, State.pos, vpos]
    rfl
  · rw [trk]
    show nextNumber v.trk.nextSeq = _
    rw [vtrk]
    rfl
  · rw [queues, grant_queue, if_pos rfl, vqueue]
    exact queue
  · rw [queues, grant_queue, if_neg away, vqueue]

theorem settle_takes {before : State} {h : Nat} {r : Rec} (own : ∀ k, ∀ x ∈ u.queue k, x.lane = k) (due : GrantDue h u)
    (choice : u.choice = some r) (same : r.bagClass = u.arb.bagClass) : Granted r u (settle before h u) := by
  obtain ⟨-, ⟨w, varb⟩, -⟩ := beforeGrant_due (before := before) due choice
  have frame := beforeGrant_frame before h u
  obtain ⟨l, candidate⟩ := mem_candidates.1 (choice_candidate choice)
  have lane := candidate_lane own candidate
  subst lane
  obtain ⟨queue, -⟩ := candidate_spec u candidate
  rw [settle_granted due choice same]
  generalize beforeGrant before h u = v at *
  obtain ⟨-, w', c, g, arb, trk⟩ := gated_parts (grant r v)
  exact granted_of varb (kept_trk frame rfl) (kept_pos frame rfl) (kept_pst frame rfl rfl) queue arb trk

/-- The parts of O33 about the choice itself (R94, R95). -/
theorem choice_parts (own : ∀ l, ∀ r ∈ s.queue l, r.lane = l) {r : Rec} (choice : s.choice = some r) :
    r ∈ s.candidates ∧ s.candidate r.lane = some r ∧ r.state = .queued ∧
      ((∃ c ∈ s.candidates, s.atLimit c = true) → s.atLimit r = true) ∧
      ((∀ c ∈ s.candidates, s.atLimit c = false) → (∃ c ∈ s.candidates, c.bagClass = s.arb.bagClass) →
        r.bagClass = s.arb.bagClass) ∧
      ∀ c ∈ s.candidates, (s.atLimit r = true → s.atLimit c = true) →
        (s.atLimit r = false → r.bagClass = s.arb.bagClass → c.bagClass = s.arb.bagClass) → c ≠ r →
        goesBefore s.arb.rotation r c = true := by
  obtain ⟨first, -⟩ := earliest_spec choice
  obtain ⟨member, limit, classed⟩ := (mem_group s r).1 first
  obtain ⟨l, candidate⟩ := mem_candidates.1 member
  have lane := candidate_lane own candidate
  subst lane
  obtain ⟨-, queued⟩ := candidate_spec s candidate
  refine ⟨member, candidate, queued, limit, classed, fun c hc limited same other => ?_⟩
  exact choice_first own choice ((mem_group s c).2
    ⟨hc, fun some => limited (limit some), fun none some => same (none r member) (classed none some)⟩) other

/-- Settles O33: the withhold set is empty when ARB's turn comes, so a due choice of the current class is granted; the
choice is the earliest of its group, and distinct lanes stand at distinct turns of the rotation. -/
theorem choiceIsTheEarliestOfItsGroup : Obligations.ChoiceIsTheEarliestOfItsGroup := by
  unfold Obligations.ChoiceIsTheEarliestOfItsGroup
  refine ⟨fun before h u r own due choice same => settle_takes own due choice same, fun s own => ?_⟩
  have limit : ∀ r, s.atLimit r = false ↔ ¬(r.bagClass ≠ s.arb.bagClass ∧ s.set.bypassLimit ≤ s.arb.bypass[r.lane]) :=
    fun r => by rw [← Bool.not_eq_true, atLimit_iff]
  refine ⟨by rw [← group_nil, choice_eq]; exact ⟨fun h => earliest_none h, fun h => by rw [h]; rfl⟩, fun r choice => ?_⟩
  have parts := choice_parts own choice
  simp only [atLimit_iff, limit, goesBefore_iff, turnsAfter] at parts
  exact parts

end Sys2Proof.Machine
end

section
/-! PROOFS. Changeovers and reindexes (R96, R126). -/

namespace Sys2Proof.Machine

variable {s t u : State}

theorem anyMerged_iff (s : State) : s.anyMerged = true ↔ ∃ x ∈ s.records, x.state = .merged := by
  simp [State.anyMerged]

theorem records_of_trk (h : t.trk = s.trk) : t.records = s.records := by rw [State.records, h]; rfl

theorem settleChangeover_waiting {c : Nat} (waits : s.arb.changeover = .waiting c) : settleChangeover s =
    s.onArb fun a => { a with changeover :=
      (if ∃ x ∈ s.records, x.state = .merged then .waiting c else .running c s.set.changeoverMs) } := by
  unfold settleChangeover
  rw [waits]
  dsimp only
  split
  · next merged =>
    rw [if_pos ((anyMerged_iff s).1 merged), ← waits]
    rfl
  · next none => rw [if_neg (mt (anyMerged_iff s).2 none)]

theorem settleChangeover_still (still : ∀ c, s.arb.changeover ≠ .waiting c) : settleChangeover s = s := by
  unfold settleChangeover
  cases changeover : s.arb.changeover with
  | waiting c => exact absurd changeover (still c)
  | _ => rfl

theorem settle_withhold (before : State) (h : Nat) (u : State) :
    (settle before h u).arb.withhold = (settle before h u).withholdDue := by
  obtain ⟨-, -, ⟨due, -⟩, -⟩ := settle_derived before h u
  exact due

theorem withholds_changeover (h : s.arb.withhold = s.withholdDue) (changes : s.arb.changeover ≠ .none) :
    s.arb.withhold.changeover = true := by
  rw [h]
  exact decide_eq_true changes

theorem withholds_tyer (h : s.arb.withhold = s.withholdDue) (busy : s.tie.state ≠ .ready) : s.arb.withhold.tyer = true := by
  rw [h]
  exact decide_eq_true busy

theorem settle_changeover_held {before : State} {h : Nat} (changes : (settle before h u).arb.changeover ≠ .none) :
    (settle before h u).arb.withhold.changeover = true :=
  withholds_changeover (settle_withhold before h u) changes

/-- A due choice of another class begins a changeover, in the arbiter alone. -/
theorem settle_changes {before : State} {h : Nat} {r : Rec} (due : GrantDue h u) (choice : u.choice = some r)
    (other : r.bagClass ≠ u.arb.bagClass) : ∃ w, settle before h u = evaluateGates (refresh w) ∧ w.trk = u.trk ∧
      w.arb.flight = none ∧ w.arb.bagClass = u.arb.bagClass ∧
      w.arb.changeover = if ∃ x ∈ u.records, x.state = .merged then .waiting r.bagClass
        else .running r.bagClass u.set.changeoverMs := by
  obtain ⟨empty, ⟨w, arb⟩, spacing⟩ := beforeGrant_due (before := before) due choice
  obtain ⟨-, changeover, -, -, -, flight, -⟩ := due
  have frame := beforeGrant_frame before h u
  have trk := kept_trk frame rfl
  have pst := kept_pst frame rfl rfl
  have found : (beforeGrant before h u).choice = some r := by
    rw [← choice]
    exact choice_congr trk pst (by rw [arb]) (by rw [arb]) (by rw [arb])
  rw [settle_grants]
  generalize beforeGrant before h u = v at *
  have begun : settleGrant h v = v.onArb fun a => { a with changeover := .waiting r.bagClass } := by
    unfold settleGrant
    rw [if_pos ⟨empty, by rw [arb]; exact flight, spacing⟩, found]
    exact if_neg (by rw [arb]; exact other)
  refine ⟨_, rfl, ?_, ?_, ?_, ?_⟩
  all_goals rw [begun, settleChangeover_waiting (c := r.bagClass) rfl]
  · exact trk
  · show v.arb.flight = none
    rw [arb]
    exact flight
  · show v.arb.bagClass = _
    rw [arb]
  · show (if ∃ x ∈ v.records, x.state = .merged then _ else Changeover.running r.bagClass v.set.changeoverMs) = _
    rw [records_of_trk trk, State.set, pst]
    rfl

/-- A changeover that is under way as ARB's turn comes stays as it is: it withholds the grant. -/
theorem settle_under_way {before : State} {h : Nat} {c : Nat} {n : Nat}
    (running : (beforeGrant before h u).arb.changeover = .running c n) :
    (settle before h u).arb.changeover = .running c n := by
  rw [settle_grants]
  have held : (beforeGrant before h u).arb.withhold = (beforeGrant before h u).withholdDue := refresh_withhold _
  generalize beforeGrant before h u = v at *
  have withheld : settleGrant h v = v := by
    refine if_neg fun due => ?_
    have empty := due.1
    rw [isEmpty_iff, held] at empty
    exact of_decide_eq_false empty.1 (by rw [running]; exact nofun)
  rw [withheld, settleChangeover_still fun d waits => nomatch running.symm.trans waits]
  obtain ⟨-, x, d, g, arb, -⟩ := gated_parts v
  rw [arb]
  exact running

theorem refresh_changeover (s : State) : (refresh s).arb.changeover = s.arb.changeover := rfl

theorem beforePurge_frame (before u : State) : SameBut { lp := true, sru := true, lc := true, hd := true, tie := true } u
    (settleReindex (forLanes stopIdleBlade (settleLine before u))) := by
  have reindexed : SameBut { tie := true } (forLanes stopIdleBlade (settleLine before u))
      (settleReindex (forLanes stopIdleBlade (settleLine before u))) := settleReindex_without _ rfl
  exact (reindexed.widen fun _ => rfl).trans
    (((idleBlades_keep _).widen fun _ => rfl).trans ((settleLine_frame before u).widen fun _ => rfl))

theorem settleChangeover_starts {v : State} {c : Nat} (arb : v.arb = u.arb) (trk : v.trk = u.trk) (pst : v.pst = u.pst)
    (waits : u.arb.changeover = .waiting c) (none : ∀ x ∈ u.records, x.state ≠ .merged) :
    (settleChangeover v).arb.changeover = .running c u.set.changeoverMs := by
  rw [settleChangeover_waiting (c := c) (by rw [arb]; exact waits), records_of_trk trk, State.set, pst,
    if_neg fun ⟨x, member, merged⟩ => none x member merged]
  rfl

/-- A waiting changeover starts its timer when no record is MERGED. -/
theorem beforeGrant_changeover {before : State} {h : Nat} {c : Nat} (waits : u.arb.changeover = .waiting c)
    (none : ∀ x ∈ u.records, x.state ≠ .merged) :
    (beforeGrant before h u).arb.changeover = .running c u.set.changeoverMs := by
  have frame := beforePurge_frame before u
  have starts := settleChangeover_starts (kept_arb frame rfl) (kept_trk frame rfl) (kept_pst frame rfl rfl) waits none
  have purged : (settleBlocks h (settleLine before u)).arb =
      (settleChangeover (settleReindex (forLanes stopIdleBlade (settleLine before u)))).arb :=
    kept_arb (settlePurge_without (b := { hd := true, crm := true }) _ h rfl rfl) rfl
  have retried : (forLanes settleRetrial (settleBlocks h (settleLine before u))).arb =
      (settleBlocks h (settleLine before u)).arb := kept_arb (retrials_keep _) rfl
  rw [beforeGrant, refresh_changeover, retried, purged, starts]

/-- A pending reindex starts when no record is MERGED or BAGGED and the line is not HALTED. -/
theorem settle_reindexes {before : State} {h : Nat} (pending : u.tie.state = .reindexPending)
    (none : ∀ r ∈ u.records, r.state ≠ .merged ∧ r.state ≠ .bagged) (moving : u.lc.state ≠ .halted) :
    (settle before h u).tie = { u.tie with state := .reindex, reindex := some u.set.reindexMs, tyerOut := .reindex } := by
  have line := settleLine_frame before u
  have still : (settleLine before u).lc.state ≠ .halted := mt (settleLine_halted before u).1 moving
  have frame : SameBut { lp := true, sru := true, lc := true, hd := true } u (forLanes stopIdleBlade (settleLine before u)) :=
    ((idleBlades_keep _).widen fun _ => rfl).trans line
  have lc : (forLanes stopIdleBlade (settleLine before u)).lc = (settleLine before u).lc := kept_lc (idleBlades_keep _) rfl rfl
  have blocks : (settleBlocks h (settleLine before u)).tie =
      { u.tie with state := .reindex, reindex := some u.set.reindexMs, tyerOut := .reindex } := by
    rw [settleBlocks, kept_tie (settlePurge_without (b := { hd := true, crm := true }) _ h rfl rfl) rfl,
      kept_tie (settleChangeover_without (b := { arb := true }) _ rfl) rfl]
    rw [← lc] at still
    generalize forLanes stopIdleBlade (settleLine before u) = w at *
    have tie := kept_tie frame rfl
    have clear : w.anyMergedOrBagged = false := by
      rw [State.anyMergedOrBagged, records_of_trk (kept_trk frame rfl), List.any_eq_false]
      intro r member
      obtain ⟨merged, bagged⟩ := none r member
      simp [merged, bagged]
    rw [settleReindex, if_pos ⟨by rw [tie]; exact pending, clear, still⟩]
    show { w.tie with state := .reindex, reindex := some w.set.reindexMs, tyerOut := .reindex } = _
    rw [tie, State.set, kept_pst frame rfl rfl]
    rfl
  have grants : SameBut { trk := true, arb := true } (beforeGrant before h u)
      (settleChangeover (settleGrant h (beforeGrant before h u))) :=
    (settleChangeover_without _ rfl).trans (settleGrant_without _ h rfl rfl)
  obtain ⟨tie, -⟩ := gated_parts (settleChangeover (settleGrant h (beforeGrant before h u)))
  rw [settle_grants, tie, kept_tie grants rfl, kept_tie (settled_beforeGrant before h u) rfl, blocks]

theorem changeoverTimer_effect (on : s.powered = true) {c : Nat} {left : Nat} (running : s.arb.changeover = .running c left) :
    Effect .changeoverTimerExpiry s { s with arb := { s.arb with bagClass := c, changeover := .none } } := by
  have served : exec .changeoverTimerExpiry s = execChangeoverTimerExpiry s := rfl
  rw [Effect, served, execChangeoverTimerExpiry, whenPowered_event on, running]
  rfl

theorem reindexTimer_effect (on : s.powered = true) (running : s.tie.reindex.isSome = true) :
    Effect .reindexTimerExpiry s { s with tie := { s.tie with
      burst := [], owed := false, reindex := none, tyerOut := .none
      state := if 0 < s.tie.supply then .ready else .empty } } := by
  have served : exec .reindexTimerExpiry s = execReindexTimerExpiry s := rfl
  rw [Effect, served, execReindexTimerExpiry, whenPowered_event on, if_pos running]
  rfl

/-- Settles O32: a changeover begins with a due choice of another class and holds its member of the withhold set, a
pending reindex starts in HD's and TYE's turn, and each timer ends what it times. -/
theorem changeoverAndReindexEnd : Obligations.ChangeoverAndReindexEnd := by
  refine ⟨fun before h u own => ⟨fun r due choice other => ?_, fun c waits none => ?_, fun pending none moving => ?_⟩,
    fun s on => ⟨fun c left => changeoverTimer_effect on, fun still => ?_, reindexTimer_effect on, fun stopped => ?_⟩⟩
  · obtain ⟨w, settled, trk, flight, same, changeover⟩ := settle_changes (before := before) due choice other
    obtain ⟨-, x, c, g, arb, trk'⟩ := gated_parts w
    rw [← settled] at arb trk'
    refine ⟨by rw [trk', trk], by rw [trk', trk], by rw [arb]; exact flight, settle_changeover_held ?_, by rw [arb]; exact same,
      by rw [arb]; exact changeover⟩
    rw [arb]
    dsimp only
    rw [changeover]
    split <;> exact nofun
  · have running := settle_under_way (beforeGrant_changeover (before := before) (h := h) waits none)
    exact ⟨running, settle_changeover_held (by rw [running]; exact nofun)⟩
  · have tie := settle_reindexes (before := before) (h := h) pending none moving
    exact ⟨tie, withholds_tyer (settle_withhold before h u) (by rw [tie]; exact nofun)⟩
  · have served : exec .changeoverTimerExpiry s = execChangeoverTimerExpiry s := rfl
    rw [served, execChangeoverTimerExpiry, whenPowered_event on]
    cases changeover : s.arb.changeover with
    | running c left => exact absurd changeover (still c left)
    | _ => rfl
  · have served : exec .reindexTimerExpiry s = execReindexTimerExpiry s := rfl
    rw [served, execReindexTimerExpiry, whenPowered_event on, if_neg (by simp [stopped])]

end Sys2Proof.Machine
end

section
/-! PROOFS. Heads and lanes after a settling: the retrial timer (R81), the start of a purge (R138, R139). -/

namespace Sys2Proof.Machine

variable {s t u : State}

/-! ### One head and one lane after a settling -/

/-- The parts of a head that the derived values leave. -/
structure HeadKept (l : Lane) (s t : State) : Prop where
  blade : (t.head l).blade = (s.head l).blade
  mon : (t.head l).mon = (s.head l).mon
  spinup : (t.head l).spinup = (s.head l).spinup

theorem headKept_of_head {l : Lane} (h : t.head l = s.head l) : HeadKept l s t := by
  constructor <;> rw [h]

theorem HeadKept.trans {l : Lane} (h : HeadKept l s t) (k : HeadKept l t u) : HeadKept l s u :=
  ⟨k.blade.trans h.blade, k.mon.trans h.mon, k.spinup.trans h.spinup⟩

theorem refresh_head (l : Lane) (s : State) : HeadKept l s (refresh s) := by
  constructor <;> simp [State.head, refresh, refreshWithhold, refreshBlades] <;> rfl

theorem settleRetrial_head (k l : Lane) (s : State) : (settleRetrial k s).head l = s.head l := rfl

theorem retrials_head (l : Lane) (s : State) : (forLanes settleRetrial s).head l = s.head l :=
  forLanes_induction (P := fun t => t.head l = s.head l) (fun k t h => by rw [settleRetrial_head, h]) rfl

theorem grants_head (h : Nat) (l : Lane) (s : State) : (settleChangeover (settleGrant h s)).head l = s.head l :=
  head_of_hd (kept_hd (b := { trk := true, arb := true }) ((settleChangeover_without _ rfl).trans (settleGrant_without _ h rfl rfl)) rfl) l

theorem gates_head (l : Lane) (s : State) : (evaluateGates s).head l = s.head l := head_of_hd (kept_hd (gates_keep s) rfl) l

/-- After the blocks have started what is due, a settling leaves each blade. -/
theorem settle_head (before : State) (h : Nat) (u : State) (l : Lane) :
    HeadKept l (settleBlocks h (settleLine before u)) (settle before h u) := by
  rw [settle_grants, beforeGrant]
  refine HeadKept.trans (headKept_of_head (retrials_head l _)) ((refresh_head l _).trans ?_)
  exact (headKept_of_head (grants_head h l _)).trans ((refresh_head l _).trans (headKept_of_head (gates_head l _)))

theorem settle_lane (before : State) (h : Nat) (u : State) (l : Lane) :
    (settle before h u).lane l = (forLanes settleRetrial (settleBlocks h (settleLine before u))).lane l := by
  rw [settle_grants, beforeGrant]
  simp

/-! ### Busy heads -/

theorem headBusy_iff (s : State) (l : Lane) : s.headBusy l = false ↔
    ∀ r ∈ s.queue l, r.state ≠ .measuring ∧ r.state ≠ .planned ∧ r.state ≠ .slicing := by
  rw [State.headBusy, List.any_eq_false]
  refine forall₂_congr fun r _ => ?_
  cases state : r.state <;> simp [Rec.busies, state]

theorem headBusy_congr {l : Lane} (h : t.queue l = s.queue l) : t.headBusy l = s.headBusy l := by
  rw [State.headBusy, h]
  rfl

theorem queue_of_trk (h : t.trk = s.trk) (l : Lane) : t.queue l = s.queue l := congrArg (fun x : Trk => x.queues[l]) h

/-- A grant takes a QUEUED record, which leaves its head as busy as it was. -/
theorem settleGrant_busy {h : Nat} (own : ∀ k, ∀ r ∈ s.queue k, r.lane = k) (l : Lane) :
    (settleGrant h s).headBusy l = s.headBusy l := by
  have granted : ∀ r, s.choice = some r → (grant r s).headBusy l = s.headBusy l := fun r choice => by
    obtain ⟨k, candidate⟩ := mem_candidates.1 (choice_candidate choice)
    have lane := candidate_lane own candidate
    subst lane
    obtain ⟨queue, queued⟩ := candidate_spec s candidate
    rw [State.headBusy, State.headBusy, grant_queue]
    split
    · next same =>
      rw [same, queue]
      simp [Rec.busies, queued]
    · rfl
  unfold settleGrant
  split
  · split
    · next r choice =>
      split
      · exact granted r choice
      · rfl
    · rfl
  · rfl

theorem settle_busy {before : State} {h : Nat} (own : ∀ k, ∀ r ∈ u.queue k, r.lane = k) (l : Lane) :
    (settle before h u).headBusy l = u.headBusy l := by
  have trk := kept_trk (beforeGrant_frame before h u) rfl
  rw [settle_grants, headBusy_congr (evaluateGates_queue _ l), headBusy_congr (queue_of_trk (refresh_trk _) l),
    headBusy_congr (queue_of_trk (kept_trk (settleChangeover_without (b := { arb := true }) _ rfl) rfl) l)]
  generalize beforeGrant before h u = v at *
  rw [settleGrant_busy (fun k r hr => own k r (by rwa [queue_of_trk trk k] at hr)) l]
  exact headBusy_congr (queue_of_trk trk l)

/-! ### The retrial timers (R81) -/

theorem mayRetry_congr {l : Lane} (state : (t.lane l).state = (s.lane l).state) (target : (t.lane l).target = (s.lane l).target)
    (line : t.lc.state = s.lc.state) (blade : (t.head l).blade = (s.head l).blade) (busy : t.headBusy l = s.headBusy l) :
    t.mayRetry l = s.mayRetry l := by
  simp only [State.mayRetry, state, target, line, blade, busy]

theorem mayRetry_iff (s : State) (l : Lane) : s.mayRetry l = true ↔ (s.lane l).state = .down ∧ (s.lane l).target = true ∧
    s.lc.state = .running ∧ ((s.head l).blade = .stopped ∨ (s.head l).blade = .fault) ∧
    ∀ r ∈ s.queue l, r.state ≠ .measuring ∧ r.state ≠ .planned ∧ r.state ≠ .slicing := by
  rw [← headBusy_iff]
  simp only [State.mayRetry, Bool.and_eq_true, Bool.or_eq_true, decide_eq_true_eq, Bool.not_eq_true']
  tauto

theorem settleRetrial_lane (k l : Lane) (s : State) : (settleRetrial k s).lane l = { s.lane l with
    retrial := if l = k then (if s.mayRetry l then some ((s.lane l).retrial.getD (1000 * s.set.retrialS)) else none)
      else (s.lane l).retrial } := by
  simp only [settleRetrial, lane_onLane]
  split
  · next same => rw [same]
  · rfl

theorem settleRetrial_mayRetry (k l : Lane) (s : State) : (settleRetrial k s).mayRetry l = s.mayRetry l := by
  refine mayRetry_congr ?_ ?_ rfl rfl rfl <;> rw [settleRetrial_lane]

theorem retrials_lane (l : Lane) (s : State) : (forLanes settleRetrial s).lane l = { s.lane l with
    retrial := if s.mayRetry l then some ((s.lane l).retrial.getD (1000 * s.set.retrialS)) else none } := by
  refine forLanes_own (l := l) (read := fun t : State => (t.lane l, t.mayRetry l, t.set.retrialS))
    (Made := fun a b => b.1 = { a.1 with retrial := if a.2.1 then some (a.1.retrial.getD (1000 * a.2.2)) else none })
    (fun t => ?_) (fun k t other => ?_) s
  · rw [settleRetrial_lane]
    simp
  · rw [settleRetrial_lane, settleRetrial_mayRetry, if_neg other]
    rfl

/-- After a settling a lane's retrial timer runs exactly where it may (R81). -/
theorem settle_retrial {before : State} {h : Nat} (own : ∀ k, ∀ r ∈ u.queue k, r.lane = k) (l : Lane) :
    ((settle before h u).mayRetry l = true → ((settle before h u).lane l).retrial =
        some ((u.lane l).retrial.getD (1000 * u.set.retrialS))) ∧
      ((settle before h u).mayRetry l = false → ((settle before h u).lane l).retrial = none) := by
  have lane := (settle_lane before h u l).trans (retrials_lane l _)
  have line := settle_line before h u
  have blocks := settleBlocks_keep h (settleLine before u)
  have frame := settleLine_frame before u
  have busy : (settle before h u).headBusy l = (settleBlocks h (settleLine before u)).headBusy l := by
    rw [settle_busy own l]
    exact (headBusy_congr ((queue_of_trk (kept_trk blocks rfl) l).trans (queue_of_trk (kept_trk frame rfl) l))).symm
  have may : (settle before h u).mayRetry l = (settleBlocks h (settleLine before u)).mayRetry l :=
    mayRetry_congr (by rw [lane]) (by rw [lane]) (by rw [line, kept_lc blocks rfl rfl]) (settle_head before h u l).blade busy
  have kept : (settleBlocks h (settleLine before u)).lane l = (settleLine before u).lane l := by
    simp [settleBlocks]
  have set : (settleBlocks h (settleLine before u)).set = u.set :=
    congrArg Pst.settings ((kept_pst blocks rfl rfl).trans (kept_pst frame rfl rfl))
  rw [may, lane]
  refine ⟨fun runs => ?_, fun stops => ?_⟩
  · have running : (settleLine before u).lc.state = .running := by
      rw [← kept_lc blocks rfl rfl]
      obtain ⟨-, -, running, -⟩ := (mayRetry_iff _ l).1 runs
      exact running
    dsimp only
    rw [if_pos runs, kept, settleLine_running running, set]
  · dsimp only
    rw [if_neg (by rw [stops]; exact nofun)]

/-! ### The spin-up timer (R73) -/

theorem enterReady_head {l : Lane} (cause : StopCause) (still : (s.head l).blade ≠ .spinup ∧ (s.head l).blade ≠ .running) :
    (enterReady cause s).head l = s.head l := by
  unfold enterReady headsAtReady
  refine forLanes_induction (P := fun t => t.head l = s.head l) (fun k t h => ?_) ?_
  · rw [laneOutOfMotion_head, stopBladeIf]
    split
    · next stops =>
      by_cases same : l = k
      · subst same
        rw [h] at stops
        simp [still] at stops
      · rw [setBlade, head_onHead_ne _ _ same, h]
    · exact h
  · have notHeads : ∀ t : State, (enterIdle (setLine .ready t)).hd = t.hd := fun t =>
      kept_hd (b := { lp := true, sru := true, lc := true }) (by simp) rfl
    exact head_of_hd ((notHeads _).trans rfl) l

theorem requestDrain_head {l : Lane} (cause : StopCause) (still : (s.head l).blade ≠ .spinup ∧ (s.head l).blade ≠ .running) :
    (requestDrain cause s).head l = s.head l := by
  unfold requestDrain
  split
  · rfl
  · split
    · exact enterReady_head cause still
    · rfl
  · rfl

/-- A lane fault leaves a head whose blade is not turning. -/
theorem laneFault_head {f : LaneFault} {sp : Bool} {l : Lane} (still : (s.head l).blade ≠ .spinup ∧ (s.head l).blade ≠ .running) :
    (laneFault f sp l s).head l = s.head l := by
  obtain ⟨m, faulted, out, stays⟩ := laneFault_eq f sp l s
  have head : m.head l = s.head l := congrArg (fun v : PerLane Head => v[l]) faulted.heads
  by_cases goes : GoesOut sp l s
  · rw [out goes, askNarrowing]
    split
    · exact head
    · rw [requestDrain_head _ (by rwa [head]), head]
  · rw [stays goes, head]

/-- The blade in FAULT at the end of its spin-up time, with its notice. -/
def spinupFailed (l : Lane) (s : State) : State :=
  raise .bladeFault (bladeFaultSnapshot l (codeOrNone Rec.loaf (s.slicingRec l)) 0 (setBlade .fault l s)) (setBlade .fault l s)

theorem spinupFailed_head (l : Lane) (s : State) :
    (spinupFailed l s).head l = { s.head l with blade := .fault, spinup := none } := by simp [spinupFailed, setBlade]

theorem spinupExpiry_effect (on : s.powered = true) {l : Lane} (runs : (s.head l).spinup.isSome = true) :
    Effect (.spinupTimerExpiry l) s (laneFault .blade true l (spinupFailed l s)) := by
  have served : exec (.spinupTimerExpiry l) s = execSpinupTimerExpiry l s := rfl
  rw [Effect, served, execSpinupTimerExpiry, whenPowered_event on, if_pos runs, spinupFailed]

theorem spinupFailed_frame (l : Lane) (s : State) : SameBut { lp := true, hd := true } s (spinupFailed l s) := by
  simp [SameBut, spinupFailed, setBlade]

/-! ### The retrial timer (R82) -/

theorem retrialExpiry_effect (on : s.powered = true) {l : Lane} (runs : (s.lane l).retrial.isSome = true) :
    Effect (.retrialTimerExpiry l) s (enterTrial l s) := by
  have served : exec (.retrialTimerExpiry l) s = execRetrialTimerExpiry l s := rfl
  rw [Effect, served, execRetrialTimerExpiry, whenPowered_event on, if_pos runs]

theorem spinUpUnlessParked_head (l k : Lane) (s : State) : (spinUpUnlessParked l s).head k =
    if k = l ∧ (s.head l).blade ≠ .parked then { s.head l with
      blade := .spinup, mon := ⟨false, 0, 0, (s.head l).mon.count⟩, spinup := some (1000 * s.set.spinupS) }
    else s.head k := by
  unfold spinUpUnlessParked
  by_cases parked : (s.head l).blade = .parked
  · simp [parked]
  · rw [if_neg parked, spinUp, head_onHead]
    by_cases same : k = l
    · simp [same, parked]
    · simp [same]

theorem spinUpUnlessParked_lane (l k : Lane) (s : State) : (spinUpUnlessParked l s).lane k = s.lane k := by
  unfold spinUpUnlessParked
  split <;> rfl

/-- A lane that enters TRIAL from another state. -/
theorem enterTrial_taken {l : Lane} (other : (s.lane l).state ≠ .trial) : let u := enterTrial l s
    SameBut { lp := true, hd := true } s u ∧ u.lane l = { s.lane l with
      state := .trial, trialLeft := 0, trialList := [], trialRan := false, retrial := none } ∧
    u.flag .laneChange = true ∧ OtherLanesKept l s u ∧
    u.head l = if (s.head l).blade = .parked then s.head l else { s.head l with
      blade := .spinup, mon := ⟨false, 0, 0, (s.head l).mon.count⟩, spinup := some (1000 * s.set.spinupS) } := by
  intro u
  have heads : ∀ k, u.head k = (spinUpUnlessParked l (endTrial l s)).head k := fun k => setLaneState_head ..
  have changes : ((spinUpUnlessParked l (endTrial l s)).lane l).state ≠ .trial := by
    rw [spinUpUnlessParked_lane, endTrial_lane, if_pos rfl]
    exact other
  refine ⟨by simp [SameBut, u, enterTrial], ?_, ?_, fun k away => ⟨?_, ?_⟩, ?_⟩
  · show (setLaneState .trial l (spinUpUnlessParked l (endTrial l s))).lane l = _
    rw [setLaneState_lane_self, spinUpUnlessParked_lane, endTrial_lane, if_pos rfl]
  · show (setLaneState .trial l (spinUpUnlessParked l (endTrial l s))).flag .laneChange = true
    rw [setLaneState, if_neg changes, raiseLane_flag]
    simp
  · rw [heads, spinUpUnlessParked_head, if_neg fun h => away h.1, endTrial_head]
  · show (setLaneState .trial l (spinUpUnlessParked l (endTrial l s))).lane k = _
    rw [setLaneState_lane_ne _ _ away, spinUpUnlessParked_lane, endTrial_lane, if_neg away]
  · rw [heads, spinUpUnlessParked_head, endTrial_head]
    by_cases parked : (s.head l).blade = .parked
    · simp [parked]
    · rw [if_pos ⟨rfl, parked⟩, if_neg parked]
      rfl

/-- Settles O44: the retrial timers by what a settling leaves, each expiry by its operation. -/
theorem headTimersExpire : Obligations.HeadTimersExpire := by
  refine ⟨fun before h u l own => ?_, fun s l on => ⟨fun stopped => ?_, fun runs narrow => ?_, fun runs wide => ?_,
    fun stopped => ?_, fun runs down => ?_⟩⟩
  · obtain ⟨runs, stops⟩ := settle_retrial (before := before) (h := h) own l
    refine ⟨fun due => runs ((mayRetry_iff _ l).2 due), fun none => stops ?_⟩
    rw [← Bool.not_eq_true, mayRetry_iff]
    exact none
  · have served : exec (.spinupTimerExpiry l) s = execSpinupTimerExpiry l s := rfl
    rw [served, execSpinupTimerExpiry, whenPowered_event on, if_neg (by simp [stopped])]
  · obtain ⟨taken, heads, others, frame, flags⟩ := laneFault_taken .blade true l (spinupFailed l s) narrow
    have head := spinupFailed_head l s
    refine ⟨_, spinupExpiry_effect on runs, frame.trans (spinupFailed_frame l s), ?_, flags _ (by simp [spinupFailed]),
      taken, fun k other => ?_⟩
    · exact (congrArg (fun v : PerLane Head => v[l]) heads).trans head
    · obtain ⟨keptHead, keptLane⟩ := others k other
      exact ⟨keptHead.trans (head_onHead_ne _ _ other), keptLane⟩
  · obtain ⟨drains, frame⟩ := laneFault_drains .blade true l (s := spinupFailed l s) wide
    have head := spinupFailed_head l s
    refine ⟨_, spinupExpiry_effect on runs, frame.trans ((spinupFailed_frame l s).widen fun _ => rfl), ?_,
      laneFault_flag _ _ _ (by simp [spinupFailed]), drains⟩
    rw [laneFault_head (by rw [head]; exact ⟨nofun, nofun⟩), head]
  · have served : exec (.retrialTimerExpiry l) s = execRetrialTimerExpiry l s := rfl
    rw [served, execRetrialTimerExpiry, whenPowered_event on, if_neg (by simp [stopped])]
  · exact ⟨_, retrialExpiry_effect on runs, enterTrial_taken (by rw [down]; exact nofun)⟩

end Sys2Proof.Machine
end

section
/-! PROOFS. The start and the steps of a purge (R134, R138 to R141). -/

namespace Sys2Proof.Machine

variable {s t u : State}

/-! ### The front entry in WAIT starts its cycle (R138, R139) -/

/-- What the start of a cycle leaves in CRM. -/
def Begun (e : Target) (n : Nat) (s t : State) : Prop :=
  t.crm = { s.crm with state := .purging, cycle := some ⟨e, n, none, none⟩, weigh := some 200 }

theorem startCycle_crm (e : Target) (s : State) : Begun e (s.crm.estimate e) s (startCycle e s) := by
  cases e <;> rfl

theorem startCycle_head (l : Lane) (s : State) :
    ((startCycle (.head l) s).head l).blade = .parked ∧ ((startCycle (.head l) s).head l).spinup = none := by
  have head : (startCycle (.head l) s).head l = (setBlade .parked l s).head l := rfl
  rw [head, setBlade, head_onHead_self]
  exact ⟨rfl, rfl⟩

theorem settlePurge_starts {h : Nat} {e : PurgeEntry} {rest : List PurgeEntry} (wait : s.crm.state = .wait)
    (front : s.crm.queue = e :: rest) (may : s.mayPurge h e.target = true) : settlePurge h s = startCycle e.target s := by
  unfold settlePurge
  rw [wait, front]
  exact if_pos may

/-- The state that CRM's turn in a settling finds. -/
def beforePurge (before u : State) : State :=
  settleChangeover (settleReindex (forLanes stopIdleBlade (settleLine before u)))

theorem settleBlocks_purge (before : State) (h : Nat) (u : State) :
    settleBlocks h (settleLine before u) = settlePurge h (beforePurge before u) := rfl

theorem beforePurge_keeps (before u : State) :
    SameBut { lp := true, sru := true, lc := true, hd := true, tie := true, arb := true } u (beforePurge before u) := by
  have changed : SameBut { arb := true } (settleReindex (forLanes stopIdleBlade (settleLine before u))) (beforePurge before u) :=
    settleChangeover_without _ rfl
  exact (changed.widen fun _ => rfl).trans ((beforePurge_frame before u).widen fun _ => rfl)

theorem beforePurge_state (before u : State) : (beforePurge before u).lc.state = (settleLine before u).lc.state := by
  rw [beforePurge, kept_lc (settleChangeover_without (b := { arb := true }) _ rfl) rfl rfl,
    kept_lc (settleReindex_without (b := { tie := true }) _ rfl) rfl rfl, kept_lc (idleBlades_keep _) rfl rfl]

theorem settleChangeover_merge (s : State) : (settleChangeover s).arb.flight = s.arb.flight ∧
    (settleChangeover s).arb.spacing = s.arb.spacing := by
  unfold settleChangeover
  (repeat' split) <;> exact ⟨rfl, rfl⟩

theorem beforePurge_arb (before u : State) : (beforePurge before u).arb.flight = u.arb.flight ∧
    (beforePurge before u).arb.spacing = u.arb.spacing := by
  have arb : (settleReindex (forLanes stopIdleBlade (settleLine before u))).arb = u.arb :=
    kept_arb (beforePurge_frame before u) rfl
  obtain ⟨flight, spacing⟩ := settleChangeover_merge (settleReindex (forLanes stopIdleBlade (settleLine before u)))
  rw [beforePurge, flight, spacing, arb]
  exact ⟨rfl, rfl⟩

/-- After CRM's turn a settling leaves CRM alone. -/
theorem settle_crm (before : State) (h : Nat) (u : State) :
    (settle before h u).crm = (settlePurge h (beforePurge before u)).crm := by
  have grants : SameBut { trk := true, arb := true } (beforeGrant before h u)
      (settleChangeover (settleGrant h (beforeGrant before h u))) :=
    (settleChangeover_without _ rfl).trans (settleGrant_without _ h rfl rfl)
  rw [settle_grants, kept_crm (gates_keep _) rfl]
  have refreshed : ∀ v : State, (refresh v).crm = v.crm := fun _ => rfl
  rw [refreshed, kept_crm grants rfl, kept_crm (settled_beforeGrant before h u) rfl, settleBlocks_purge]

/-- The front entry in WAIT starts its cycle where it may. -/
theorem settle_begins {before : State} {h : Nat} {e : PurgeEntry} {rest : List PurgeEntry} (wait : u.crm.state = .wait)
    (front : u.crm.queue = e :: rest) (may : (beforePurge before u).mayPurge h e.target = true) :
    settlePurge h (beforePurge before u) = startCycle e.target (beforePurge before u) ∧
      Begun e.target (u.crm.estimate e.target) u (settle before h u) := by
  have crm : (beforePurge before u).crm = u.crm := kept_crm (beforePurge_keeps before u) rfl
  have starts : settlePurge h (beforePurge before u) = startCycle e.target (beforePurge before u) :=
    settlePurge_starts (by rw [crm]; exact wait) (by rw [crm]; exact front) may
  have begun := startCycle_crm e.target (beforePurge before u)
  refine ⟨starts, ?_⟩
  unfold Begun at begun ⊢
  rw [settle_crm, starts, begun, crm]

theorem mayPurge_head {before : State} {h : Nat} {l : Lane} (moving : u.lc.state ≠ .halted) (busy : u.headBusy l = false) :
    (beforePurge before u).mayPurge h (.head l) = true := by
  have line : (beforePurge before u).lc.state ≠ .halted := by
    rw [beforePurge_state]
    exact mt (settleLine_halted before u).1 moving
  have still : (beforePurge before u).headBusy l = false := by
    rw [headBusy_congr (queue_of_trk (kept_trk (beforePurge_keeps before u) rfl) l), busy]
  simp [State.mayPurge, line, still]

theorem mayPurge_belt {before : State} {h : Nat} (moving : u.lc.state ≠ .halted) (flight : u.arb.flight = none)
    (clear : ∀ x, u.arb.spacing = some x → x.lead + tuPos (x.length + u.set.clearance) ≤ h) :
    (beforePurge before u).mayPurge h .belt = true := by
  have line : (beforePurge before u).lc.state ≠ .halted := by
    rw [beforePurge_state]
    exact mt (settleLine_halted before u).1 moving
  obtain ⟨none, spacing⟩ := beforePurge_arb before u
  have pst := kept_pst (beforePurge_keeps before u) rfl rfl
  have reached : reachedBy h (beforePurge before u).clearancePoint = true := by
    unfold State.clearancePoint State.set
    rw [spacing, pst]
    cases reference : u.arb.spacing with
    | none => rfl
    | some x => exact decide_eq_true (clear x reference)
  simp [State.mayPurge, line, reached, none, flight]

theorem withholds_purge (h : s.arb.withhold = s.withholdDue) {n : Nat} (begun : Begun .belt n u s) {e : PurgeEntry}
    {rest : List PurgeEntry} (front : u.crm.queue = e :: rest) (belt : e.target = .belt) : s.arb.withhold.purge = true := by
  rw [h]
  refine decide_eq_true ?_
  rw [begun]
  dsimp only
  rw [front, ← belt]
  rfl

/-- The servo output of a PARKED blade: no rate, the guard command given (R70). -/
theorem servo_parked {l : Lane} (servo : s.servo l = ⟨s.bladeDemand l, decide ((s.head l).blade = .parked)⟩)
    (parked : (s.head l).blade = .parked) : s.servo l = ⟨0, true⟩ := by
  have demand : s.bladeDemand l = 0 := by
    unfold State.bladeDemand
    rw [parked]
  rw [servo, demand, decide_eq_true parked]

/-! ### PURGE (R134) -/

theorem entryOf_none {q : List PurgeEntry} {t : Target} : entryOf q t = none ↔ ∀ e ∈ q, e.target ≠ t := by
  simp [entryOf, List.find?_eq_none]

theorem asked_standing {t : Target} (stands : ∃ e ∈ s.crm.queue, e.target = t) : (softRequest t s).crm = s.crm := by
  obtain ⟨e, member, same⟩ := stands
  obtain ⟨-, keeps⟩ := softRequest_takes t s
  rw [keeps fun none => entryOf_none.1 none e member same]

theorem asked_new {t : Target} (none : ∀ e ∈ s.crm.queue, e.target ≠ t) : (softRequest t s).crm = { s.crm with
    queue := s.crm.queue ++ [⟨t, .soft⟩], state := if s.crm.state = .idle then .wait else s.crm.state } := by
  obtain ⟨joins, -⟩ := softRequest_takes t s
  exact joins (entryOf_none.2 none)

theorem purge_refused {tag n : Byte} {t : Target} (h : Handling ⟨0x50, tag, [n]⟩ s) (target : asTarget n.toNat = some t)
    (unconfigured : s.targetConfigured t = false) : Refused (.purge tag [n]) ⟨0x50, tag, [n]⟩ .badField s := by
  have byte : byteAt [n] 0 = n.toNat := rfl
  rw [Refused, exec_handling (c := .purge tag [n]) h rfl rfl, ownPurge, byte, target]
  dsimp only
  rw [if_neg (by rw [unconfigured]; exact nofun)]
  rfl

theorem purge_replies {tag n : Byte} {t : Target} (h : Handling ⟨0x50, tag, [n]⟩ s) (target : asTarget n.toNat = some t)
    (configured : s.targetConfigured t = true) : Replies (.purge tag [n]) ⟨0x50, tag, [n]⟩ .ok
      (fun v => [byteOf (placeOf v.crm.queue t), byteOf v.crm.state.code]) s (softRequest t s) := by
  have byte : byteAt [n] 0 = n.toNat := rfl
  rw [Replies, exec_handling (c := .purge tag [n]) h rfl rfl, ownPurge, byte, target]
  dsimp only
  rw [if_pos configured, giveReply_okay]

/-! ### The weigh, purge and settle timers (R140, R141) -/

/-- The before-reading taken, the air opens. -/
def airOpened (y : Cycle) (x : Option Nat) (s : State) : State := { s with crm := { s.crm with
  cycle := some { y with before := x }, weigh := none, purge := some s.set.purgeMs, air := some y.target } }

theorem takeReading_opens {y : Cycle} (x : Option Nat) (state : s.crm.state = .purging) (cycle : s.crm.cycle = some y) :
    takeReading x s = airOpened y x s := by
  unfold takeReading
  rw [state, cycle]
  dsimp only
  rw [openAir, State.onCrm, cycle]
  rfl

theorem weighAnswer_effect (on : s.powered = true) {y : Cycle} (load : Nat) (cycle : s.crm.cycle = some y)
    (asked : s.crm.weigh.isSome = true) :
    Effect (.weighAnswer y.target load) s (takeReading (some (min 2000000 load)) s) := by
  have served : exec (.weighAnswer y.target load) s = execWeighAnswer y.target load s := rfl
  rw [Effect, served, execWeighAnswer, whenPowered_event on, if_pos ⟨asked, by rw [cycle]; rfl⟩]
  rfl

theorem weighTimer_effect (on : s.powered = true) (asked : s.crm.weigh.isSome = true) :
    Effect .weighTimerExpiry s (takeReading none s) := by
  have served : exec .weighTimerExpiry s = execWeighTimerExpiry s := rfl
  rw [Effect, served, execWeighTimerExpiry, whenPowered_event on, if_pos asked]

theorem weighAnswer_discarded (on : s.powered = true) {tray : Target} (load : Nat)
    (other : s.crm.weigh = none ∨ s.crm.cycle.map Cycle.target ≠ some tray) :
    exec (.weighAnswer tray load) s = .next s := by
  have served : exec (.weighAnswer tray load) s = execWeighAnswer tray load s := rfl
  rw [served, execWeighAnswer, whenPowered_event on, if_neg]
  rintro ⟨asked, same⟩
  rcases other with none | differs
  · rw [none] at asked
    exact nomatch asked
  · exact differs same

/-- The front entry of a head starts: the head's blade parks (R138). -/
theorem settle_begins_head {before : State} {h : Nat} {e : PurgeEntry} {rest : List PurgeEntry} {l : Lane}
    (wait : u.crm.state = .wait) (front : u.crm.queue = e :: rest) (moving : u.lc.state ≠ .halted) (head : e.target = .head l)
    (still : u.headBusy l = false) : Begun e.target u.crm.heads[l].estimate u (settle before h u) ∧
      ((settle before h u).head l).blade = .parked ∧ ((settle before h u).head l).spinup = none ∧
      (settle before h u).servo l = ⟨0, true⟩ := by
  have may : (beforePurge before u).mayPurge h e.target = true := by
    rw [head]
    exact mayPurge_head moving still
  obtain ⟨starts, begins⟩ := settle_begins wait front may
  have estimate : u.crm.estimate e.target = u.crm.heads[l].estimate := by rw [head]; rfl
  rw [head] at starts
  rw [estimate] at begins
  obtain ⟨parked, stopped⟩ := startCycle_head l (beforePurge before u)
  have kept := settle_head before h u l
  rw [settleBlocks_purge, starts] at kept
  have blade := kept.blade.trans parked
  exact ⟨begins, blade, kept.spinup.trans stopped, servo_parked (settle_servo u before h l) blade⟩

/-- The front entry of the belt starts, and withholds the grant (R137, R139). -/
theorem settle_begins_belt {before : State} {h : Nat} {e : PurgeEntry} {rest : List PurgeEntry}
    (wait : u.crm.state = .wait) (front : u.crm.queue = e :: rest) (moving : u.lc.state ≠ .halted) (belt : e.target = .belt)
    (flight : u.arb.flight = none) (clear : ∀ x, u.arb.spacing = some x → x.lead + tuPos (x.length + u.set.clearance) ≤ h) :
    Begun e.target u.crm.belt u (settle before h u) ∧ (settle before h u).arb.withhold.purge = true := by
  have may : (beforePurge before u).mayPurge h e.target = true := by
    rw [belt]
    exact mayPurge_belt moving flight clear
  obtain ⟨-, begins⟩ := settle_begins wait front may
  have estimate : u.crm.estimate e.target = u.crm.belt := by rw [belt]; rfl
  rw [estimate] at begins
  refine ⟨begins, ?_⟩
  rw [belt] at begins
  exact withholds_purge (settle_withhold before h u) begins front belt

/-- Settles O36: the front starts in CRM's turn of the settling, on a line not HALTED; each timer by its operation. -/
theorem purgeSteps : Obligations.PurgeSteps := by
  constructor
  · exact fun before h u e rest own wait front moving =>
      ⟨fun l head still => settle_begins_head wait front moving head ((headBusy_iff u l).2 still),
        fun belt flight clear => settle_begins_belt wait front moving belt flight clear⟩
  · intro s on
    refine ⟨fun tag n t h target => ⟨purge_refused h target, fun configured => ⟨_, purge_replies h target configured,
        softRequest_without s t rfl, asked_standing, fun none => ?_⟩⟩, fun y load state cycle asked => ?_,
      fun tray load => weighAnswer_discarded on load, fun none => ?_, fun runs => ?_, fun none => ?_, fun runs => ?_, fun none => ?_⟩
    · rw [asked_new none]
      exact ⟨rfl, rfl, rfl⟩
    · have answered := weighAnswer_effect on load cycle asked
      have absent := weighTimer_effect on asked
      rw [takeReading_opens _ state cycle] at answered absent
      exact ⟨answered, absent⟩
    · have served : exec .weighTimerExpiry s = execWeighTimerExpiry s := rfl
      rw [served, execWeighTimerExpiry, whenPowered_event on, if_neg (by simp [none])]
    · have served : exec .purgeTimerExpiry s = execPurgeTimerExpiry s := rfl
      rw [served, execPurgeTimerExpiry, whenPowered_event on, if_pos runs]
      rfl
    · have served : exec .purgeTimerExpiry s = execPurgeTimerExpiry s := rfl
      rw [served, execPurgeTimerExpiry, whenPowered_event on, if_neg (by simp [none])]
    · have served : exec .settleTimerExpiry s = execSettleTimerExpiry s := rfl
      rw [served, execSettleTimerExpiry, whenPowered_event on, if_pos runs]
      rfl
    · have served : exec .settleTimerExpiry s = execSettleTimerExpiry s := rfl
      rw [served, execSettleTimerExpiry, whenPowered_event on, if_neg (by simp [none])]

end Sys2Proof.Machine
end

section
/-! PROOFS. START and the end of STARTING (R84, R176, R177). -/

namespace Sys2Proof.Machine

variable {s t u : State}

/-! ### STARTING ends in RUNNING (R177) -/

/-- After the line's own checks a settling leaves the reference state. -/
theorem settle_reference (before : State) (h : Nat) (u : State) :
    (settle before h u).sru.state = (settleLine before u).sru.state := by
  have refreshed : ∀ v : State, (refresh v).sru.state = v.sru.state := fun _ => rfl
  have grants : SameBut { trk := true, arb := true } (beforeGrant before h u)
      (settleChangeover (settleGrant h (beforeGrant before h u))) :=
    (settleChangeover_without _ rfl).trans (settleGrant_without _ h rfl rfl)
  rw [settle_grants, kept_sru (gates_keep _) rfl rfl, refreshed, kept_sru grants rfl rfl, beforeGrant, refreshed,
    kept_sru (retrials_keep _) rfl rfl, kept_sru (settleBlocks_keep h _) rfl rfl]

theorem settle_lc_standing (before : State) (h : Nat) (u : State) :
    (settle before h u).lc.standing = (settleLine before u).lc.standing := settle_standing before h u

/-- A blade of a lane in service, or of a busy head, is not stopped as idle (R76). -/
theorem stopIdleBlade_in_use {l : Lane} (k : Lane)
    (used : (s.lane l).state = .running ∨ (s.lane l).state = .trial ∨ s.headBusy l = true) :
    (stopIdleBlade k s).head l = s.head l := by
  by_cases same : l = k
  · subst same
    unfold stopIdleBlade
    split
    · rfl
    · rfl
    · next other =>
      split
      · next idle =>
        rcases used with running | trial | busy
        · exact absurd running (by assumption)
        · exact absurd trial (by assumption)
        · exact nomatch busy.symm.trans idle.2
      · rfl
  · unfold stopIdleBlade setBlade
    (repeat' split) <;> simp [head_onHead_ne _ _ same]

theorem idleBlades_in_use {l : Lane} (used : (s.lane l).state = .running ∨ (s.lane l).state = .trial ∨ s.headBusy l = true) :
    (forLanes stopIdleBlade s).head l = s.head l := by
  refine (forLanes_induction (P := fun t => t.head l = s.head l ∧ t.lane l = s.lane l ∧ t.headBusy l = s.headBusy l)
    (fun k t h => ?_) ⟨rfl, rfl, rfl⟩).1
  obtain ⟨head, lane, busy⟩ := h
  refine ⟨?_, by rw [stopIdleBlade_lane, lane], ?_⟩
  · rw [stopIdleBlade_in_use k (by rwa [lane, busy]), head]
  · rw [← busy]
    exact headBusy_congr (queue_of_trk (kept_trk (stopIdleBlade_without (b := { hd := true }) t k rfl) rfl) l)

/-- A STARTING line on a reference in TRACK with a blade that turns enters RUNNING. -/
theorem settleLine_runs {before : State} {l : Lane} (starting : u.lc.state = .starting) (track : u.sru.state = .track)
    (blade : ((forLanes stopIdleBlade u).head l).blade = .running) :
    settleLine before u = enterRunning (forLanes stopIdleBlade u) := by
  have keep := idleBlades_keep u
  have lc := kept_lc keep rfl rfl
  have sru := kept_sru keep rfl rfl
  rw [settleLine]
  generalize forLanes stopIdleBlade u = v at *
  have checked : checkNoLanes before v = v := by
    rcases checkNoLanes_cases before v with same | ⟨running, -⟩
    · exact same
    · rw [lc, starting] at running
      exact nomatch running
  have started : settleStart v = enterRunning v := by
    refine if_pos ⟨by rw [lc]; exact starting, by rw [sru]; exact track, ?_⟩
    rw [List.any_eq_true]
    exact ⟨l, mem_lanes l, decide_eq_true blade⟩
  rw [checked, started]
  exact if_neg fun due => nomatch due.1

theorem enterRunning_spec (s : State) : (enterRunning s).lc.standing =
      (.running, s.lc.cause, none, if s.set.linkTimeoutS = 0 then none else some (1000 * s.set.linkTimeoutS)) ∧
    (enterRunning s).sru = s.sru ∧ (enterRunning s).flag .lineState = true := by
  refine ⟨rfl, rfl, ?_⟩
  simp [enterRunning, setLine]

theorem demandTarget_track (running : s.lc.state = .running) (track : s.sru.state = .track) :
    s.demandTarget = min s.lc.setSpeed s.lc.ceiling := by
  rw [State.demandTarget, running]
  dsimp only
  rw [track]

/-- STARTING ends in RUNNING at the event that finds the reference in TRACK and a blade in use RUNNING. -/
theorem settle_runs {before : State} {h : Nat} {l : Lane} (starting : u.lc.state = .starting) (track : u.sru.state = .track)
    (blade : (u.head l).blade = .running)
    (used : (u.lane l).state = .running ∨ (u.lane l).state = .trial ∨ u.headBusy l = true) :
    (settle before h u).lc.standing =
      (.running, u.lc.cause, none, if u.set.linkTimeoutS = 0 then none else some (1000 * u.set.linkTimeoutS)) ∧
    (settle before h u).sru.state = .track ∧ (settle before h u).flag .lineState = true := by
  have keep := idleBlades_keep u
  have runs := settleLine_runs (before := before) starting track (l := l) (by rw [idleBlades_in_use used]; exact blade)
  obtain ⟨standing, sru, flag⟩ := enterRunning_spec (forLanes stopIdleBlade u)
  have set : (forLanes stopIdleBlade u).set = u.set := congrArg Pst.settings (kept_pst keep rfl rfl)
  refine ⟨?_, ?_, ?_⟩
  · rw [settle_lc_standing, runs, standing, set, kept_lc keep rfl rfl]
  · rw [settle_reference, runs, sru, kept_sru keep rfl rfl]
    exact track
  · have lasts : Lasts (settleLine before u) (settle before h u) := by
      rw [settle_eq]
      exact ((lasts_settleBlocks _ h).trans (lasts_settleGrants _ h)).trans ((lasts_refresh _).trans (lasts_evaluateGates _))
    exact lasts.flags _ (by rw [runs]; exact flag)

/-! ### START (R84, R176) -/

theorem moving_eq (s : State) : s.lc.state.moving = true ↔
    s.lc.state = .starting ∨ s.lc.state = .running ∨ s.lc.state = .draining := moving_iff _

theorem targetLane_iff (s : State) (l : Lane) : s.targetLane l = true ↔ s.isConfigured l = true ∧ (s.lane l).target = true := by
  simp [State.targetLane]

/-- The last conditions of R176: no blind latch, no E-stop, a target set that is not empty and assigned throughout. -/
def State.able (s : State) : Prop :=
  s.tie.blind = false ∧ s.lc.estop = false ∧ (∃ l, s.isConfigured l = true ∧ (s.lane l).target = true) ∧
    ∀ l : Lane, s.isConfigured l = true ∧ (s.lane l).target = true → s.pst.assign[l] ≠ none

theorem startRefusal_last (still : s.lc.state.moving = false) (opened : s.tot.opened ≠ none) (clock : s.pst.clockValid = true) :
    (s.able → s.startRefusal = none) ∧ (¬s.able → s.startRefusal = some .wrongState) := by
  have target : (!lanes.any s.targetLane) = true ↔ ¬∃ l, s.isConfigured l = true ∧ (s.lane l).target = true := by
    simp only [Bool.not_eq_true', ← targetLane_iff, List.any_eq_false]
    exact ⟨fun empty ⟨l, inside⟩ => empty l (mem_lanes l) inside, fun empty l _ inside => empty ⟨l, inside⟩⟩
  have unassigned : lanes.any (fun l => s.targetLane l && (s.pst.assign[l]).isNone) = true ↔
      ¬∀ l : Lane, s.isConfigured l = true ∧ (s.lane l).target = true → s.pst.assign[l] ≠ none := by
    simp only [List.any_eq_true, Bool.and_eq_true, targetLane_iff, Option.isNone_iff_eq_none, not_forall, not_not, exists_prop]
    exact ⟨fun ⟨l, _, inside, free⟩ => ⟨l, inside, free⟩, fun ⟨l, inside, free⟩ => ⟨l, mem_lanes l, inside, free⟩⟩
  unfold State.startRefusal State.able
  rw [if_neg (by rw [still]; exact nofun), if_neg (by simpa using opened), if_neg (by rw [clock]; exact nofun)]
  by_cases blind : s.tie.blind = true
  · simp [blind]
  · by_cases estop : s.lc.estop = true
    · simp [blind, estop]
    · by_cases empty : (!lanes.any s.targetLane) = true
      · rw [if_neg blind, if_neg estop, if_pos empty]
        exact ⟨fun able => absurd able.2.2.1 (target.1 empty), fun _ => rfl⟩
      · rw [if_neg blind, if_neg estop, if_neg empty]
        have some := not_not.1 (mt target.2 empty)
        by_cases none : lanes.any (fun l => s.targetLane l && (s.pst.assign[l]).isNone) = true
        · rw [if_pos none]
          exact ⟨fun able => absurd able.2.2.2 (unassigned.1 none), fun _ => rfl⟩
        · rw [if_neg none]
          have all := not_not.1 (mt unassigned.2 none)
          exact ⟨fun _ => rfl, fun unable => absurd ⟨by simpa using blind, by simpa using estop, some, all⟩ unable⟩

/-- What an accepted START does before the heads take it. -/
def startBegun (o : Origin) (v s : State) : State :=
  enterAcquire (setLine .starting (v.onLc fun lc =>
    { lc with origin := o, cause := .none, startLimit := some (1000 * s.set.startLimitS) }))

theorem enterStarting_halted (halted : s.lc.state = .halted) :
    enterStarting s = headsAtStarting (startBegun .halted (markSuspect s) s) := by
  unfold enterStarting
  rw [if_pos halted]
  rfl

theorem enterStarting_other (other : s.lc.state ≠ .halted) : enterStarting s = headsAtStarting (startBegun .ready s s) := by
  unfold enterStarting
  rw [if_neg other]
  rfl

/-- The line and the reference that a START leaves. -/
structure Starts (o : Origin) (s u : State) : Prop where
  standing : u.lc.standing = (.starting, .none, some (1000 * s.set.startLimitS), s.lc.silence)
  origin : u.lc.origin = o
  demand : u.lc.demand = s.lc.demand
  reference : u.sru.state = .acquire
  selected : u.sru.selected = .pacer
  slip : u.sru.slipActive = false
  w : u.sru.w = s.sru.w.requalify
  m : u.sru.m = s.sru.m.requalify

theorem startBegun_starts (o : Origin) {v : State} (lc : v.lc = s.lc) (sru : v.sru = s.sru) : Starts o s (startBegun o v s) where
  standing := by rw [← lc]; rfl
  origin := rfl
  demand := by rw [← lc]; rfl
  reference := rfl
  selected := rfl
  slip := rfl
  w := by rw [← sru]; rfl
  m := by rw [← sru]; rfl

theorem Starts.congr {o : Origin} (h : Starts o s t) (lc : u.lc = t.lc) (sru : u.sru = t.sru) : Starts o s u := by
  obtain ⟨standing, origin, demand, reference, selected, slip, w, m⟩ := h
  constructor <;> simp_all only

theorem startBegun_frame (o : Origin) (v s : State) : SameBut { lp := true, sru := true, lc := true } v (startBegun o v s) := by
  simp [SameBut, startBegun]

theorem standing_parts {c : Lc} {st : LineState} {cause : StopCause} {limit silence : Timer}
    (h : c.standing = (st, cause, limit, silence)) :
    c.state = st ∧ c.cause = cause ∧ c.startLimit = limit ∧ c.silence = silence := by
  simpa [Lc.standing] using h

/-- HD at the line's entry to STARTING, for one lane. -/
def startHead (l : Lane) (s : State) : State :=
  if (s.lane l).state = .idle ∧ (s.lane l).target ∧ s.isConfigured l then spinUpUnlessParked l s else s

theorem headsAtStarting_eq (s : State) : headsAtStarting s = forLanes startHead s := rfl

/-- What the line's entry to STARTING makes of a head. -/
def headStarted (c : LaneCtl) (configured : Bool) (spinupS : Nat) (h : Head) : Head :=
  if (c.state = .idle ∧ c.target ∧ configured) ∧ h.blade ≠ .parked then
    { h with blade := .spinup, mon := ⟨false, 0, 0, h.mon.count⟩, spinup := some (1000 * spinupS) }
  else h

theorem startHead_head (l : Lane) (s : State) :
    (startHead l s).head l = headStarted (s.lane l) (s.isConfigured l) s.set.spinupS (s.head l) := by
  unfold startHead headStarted
  by_cases due : (s.lane l).state = .idle ∧ (s.lane l).target ∧ s.isConfigured l
  · rw [if_pos due, spinUpUnlessParked_head]
    by_cases parked : (s.head l).blade = .parked <;> simp [due, parked]
  · rw [if_neg due, if_neg fun h => due h.1]

theorem startHead_other {l k : Lane} (other : l ≠ k) (s : State) : (startHead k s).head l = s.head l := by
  unfold startHead
  split
  · rw [spinUpUnlessParked_head, if_neg fun h => other h.1]
  · rfl

theorem spinUpUnlessParked_lanes (l : Lane) (s : State) : (spinUpUnlessParked l s).hd.lanes = s.hd.lanes := by
  unfold spinUpUnlessParked
  split <;> rfl

theorem startHead_lanes (l : Lane) (s : State) : (startHead l s).hd.lanes = s.hd.lanes := by
  unfold startHead
  split
  · exact spinUpUnlessParked_lanes l s
  · rfl

theorem startHead_keeps (l : Lane) (s : State) : SameBut { hd := true } s (startHead l s) := by
  unfold startHead SameBut
  split
  · exact spinUpUnlessParked_without _ l rfl
  · rfl

theorem headsAtStarting_lanes (s : State) : (headsAtStarting s).hd.lanes = s.hd.lanes := by
  rw [headsAtStarting_eq]
  exact forLanes_induction (P := fun t => t.hd.lanes = s.hd.lanes) (fun k t h => (startHead_lanes k t).trans h) rfl

/-- HD at the line's entry to STARTING, head by head. -/
theorem headsAtStarting_head (l : Lane) (s : State) :
    (headsAtStarting s).head l = headStarted (s.lane l) (s.isConfigured l) s.set.spinupS (s.head l) := by
  rw [headsAtStarting_eq]
  refine forLanes_own (l := l) (read := fun t : State => (t.head l, t.lane l, t.isConfigured l, t.set.spinupS))
    (Made := fun a b => b.1 = headStarted a.2.1 a.2.2.1 a.2.2.2 a.1)
    (fun t => startHead_head l t) (fun k t other => ?_) s
  have lane : (startHead k t).lane l = t.lane l := congrArg (fun v : PerLane LaneCtl => v[l]) (startHead_lanes k t)
  have set : (startHead k t).set = t.set := congrArg Pst.settings (kept_pst (startHead_keeps k t) rfl rfl)
  rw [startHead_other other, lane, State.isConfigured, set]
  rfl

theorem headsAtStarting_keeps (s : State) : SameBut { hd := true } s (headsAtStarting s) := headsAtStarting_without _ rfl

/-- What an accepted START leaves before the settling (R84, R176). -/
theorem enterStarting_taken (s : State) :
    Starts (if s.lc.state = .halted then .halted else .ready) s (enterStarting s) ∧
    (s.lc.state = .halted → SuspectMarked s (enterStarting s)) ∧ (s.lc.state ≠ .halted → (enterStarting s).trk = s.trk) ∧
    (enterStarting s).hd.lanes = s.hd.lanes ∧
    ∀ l, (enterStarting s).head l = headStarted (s.lane l) (s.isConfigured l) s.set.spinupS (s.head l) := by
  have heads : ∀ (v : State) (o : Origin), v.hd = s.hd → v.pst = s.pst →
      (headsAtStarting (startBegun o v s)).hd.lanes = s.hd.lanes ∧
      ∀ l, (headsAtStarting (startBegun o v s)).head l =
        headStarted (s.lane l) (s.isConfigured l) s.set.spinupS (s.head l) := fun v o hd pst => by
    have frame := startBegun_frame o v s
    have head : ∀ l, (startBegun o v s).head l = s.head l := fun l => head_of_hd ((kept_hd frame rfl).trans hd) l
    have lane : ∀ l, (startBegun o v s).lane l = s.lane l := fun l => lane_of_hd ((kept_hd frame rfl).trans hd) l
    have set : (startBegun o v s).set = s.set := congrArg Pst.settings ((kept_pst frame rfl rfl).trans pst)
    refine ⟨?_, fun l => ?_⟩
    · rw [headsAtStarting_lanes, kept_hd frame rfl, hd]
    · rw [headsAtStarting_head, head, lane, State.isConfigured, set]
      rfl
  by_cases halted : s.lc.state = .halted
  · rw [enterStarting_halted halted, if_pos halted]
    have keep := headsAtStarting_keeps (startBegun .halted (markSuspect s) s)
    have frame := startBegun_frame .halted (markSuspect s) s
    refine ⟨(startBegun_starts (s := s) .halted (v := markSuspect s) rfl rfl).congr (kept_lc keep rfl rfl) (kept_sru keep rfl rfl),
      fun _ => (markSuspect_marked s).of_trk ?_, fun other => absurd halted other, heads _ _ rfl rfl⟩
    exact (kept_trk keep rfl).trans (kept_trk frame rfl)
  · rw [enterStarting_other halted, if_neg halted]
    have keep := headsAtStarting_keeps (startBegun .ready s s)
    have frame := startBegun_frame .ready s s
    refine ⟨(startBegun_starts .ready (v := s) rfl rfl).congr (kept_lc keep rfl rfl) (kept_sru keep rfl rfl),
      fun h => absurd h halted, fun _ => ?_, heads _ _ rfl rfl⟩
    exact (kept_trk keep rfl).trans (kept_trk frame rfl)

/-- A line that starts on a reference not yet in TRACK stays in STARTING. -/
theorem settle_starting {before : State} {h : Nat} (starting : u.lc.state = .starting) (acquires : u.sru.state ≠ .track) :
    (settle before h u).lc.standing = u.lc.standing := by
  have keep := idleBlades_keep u
  have lc := kept_lc keep rfl rfl
  have sru := kept_sru keep rfl rfl
  rw [settle_lc_standing, settleLine]
  generalize forLanes stopIdleBlade u = v at *
  rw [← lc] at starting
  rw [← sru] at acquires
  have checked : checkNoLanes before v = v := by
    rcases checkNoLanes_cases before v with same | ⟨running, -⟩
    · exact same
    · exact nomatch starting.symm.trans running
  have started : settleStart v = v := if_neg fun due => acquires due.2.1
  have drains : settleDrain v = v := if_neg fun due => by
    rw [starting] at due
    exact nomatch due.1
  rw [checked, started, drains, lc]

theorem start_refused {tag : Byte} {st : Status} (h : Handling ⟨0x20, tag, []⟩ s) (refuses : s.startRefusal = some st) :
    Refused (.start tag []) ⟨0x20, tag, []⟩ st s := by
  rw [Refused, exec_handling (c := .start tag []) h rfl rfl, ownStart, refuses]
  rfl

theorem start_replies {tag : Byte} (h : Handling ⟨0x20, tag, []⟩ s) (accepts : s.startRefusal = none) :
    Replies (.start tag []) ⟨0x20, tag, []⟩ .ok (fun v => [byteOf v.lc.state.code]) s (enterStarting s) := by
  rw [Replies, exec_handling (c := .start tag []) h rfl rfl, ownStart, accepts]
  dsimp only
  rw [answerLine, giveReply_okay]
  dsimp only [lineStateField]

theorem demandTarget_starting (starting : s.lc.state = .starting) : s.demandTarget = s.set.crawl := by
  rw [State.demandTarget, starting]

/-- The line values that the answer to START stands on. -/
theorem starting_settled (before : State) (starting : u.lc.state = .starting) (acquires : u.sru.state ≠ .track) :
    let t := settle before u.pos u
    t.lc.state = .starting ∧ t.lc.cause = u.lc.cause ∧ t.lc.startLimit = u.lc.startLimit ∧ t.lc.target = u.set.crawl := by
  have standing := settle_starting (before := before) (h := u.pos) starting acquires
  have target := settle_target before u.pos u
  have set : (settle before u.pos u).set = u.set := congrArg Pst.settings (kept_pst (settle_frame before u.pos u) rfl rfl)
  generalize settle before u.pos u = v at *
  obtain ⟨state, cause, limit, -⟩ := standing_parts standing
  rw [demandTarget_starting (state.trans starting), set] at target
  exact ⟨state.trans starting, cause, limit, target⟩

/-- The line values at the end of STARTING. -/
theorem running_settled (before : State) (h : Nat) {l : Lane} (starting : u.lc.state = .starting) (track : u.sru.state = .track)
    (blade : (u.head l).blade = .running)
    (used : (u.lane l).state = .running ∨ (u.lane l).state = .trial ∨ u.headBusy l = true) : let t := settle before h u
    t.lc.state = .running ∧ t.lc.startLimit = none ∧ t.flag .lineState = true ∧
      t.lc.silence = (if u.set.linkTimeoutS = 0 then none else some (1000 * u.set.linkTimeoutS)) ∧
      t.lc.target = min u.lc.setSpeed t.lc.ceiling ∧ t.lc.cause = u.lc.cause := by
  obtain ⟨standing, reference, flag⟩ := settle_runs (before := before) (h := h) starting track blade used
  have target := settle_target before h u
  have speed := settle_setSpeed before h u
  generalize settle before h u = t at *
  obtain ⟨state, cause, limit, silence⟩ := standing_parts standing
  rw [demandTarget_track state reference, speed] at target
  exact ⟨state, limit, flag, silence, target, cause⟩

/-- What an accepted START leaves. -/
theorem start_taken {tag : Byte}
    (replies : Replies (.start tag []) ⟨0x20, tag, []⟩ .ok (fun v => [byteOf v.lc.state.code]) s (enterStarting s)) :
    ∃ u t, Replies (.start tag []) ⟨0x20, tag, []⟩ .ok (fun v => [byteOf v.lc.state.code]) s u ∧
      exec (.start tag []) s = .next t ∧
      t.lc.state = .starting ∧ t.lc.target = s.set.crawl ∧ t.lc.cause = .none ∧
      t.lc.startLimit = some (1000 * s.set.startLimitS) ∧
      SameBut { lp := true, sru := true, lc := true, trk := true, hd := true } s u ∧
      u.lc.origin = (if s.lc.state = .halted then .halted else .ready) ∧
      u.lc.demand = s.lc.demand ∧
      u.sru.state = .acquire ∧ u.sru.selected = .pacer ∧ u.sru.slipActive = false ∧
      u.sru.w = ⟨⟨false, 0, 0, s.sru.w.mon.count⟩, []⟩ ∧
      u.sru.m = ⟨⟨false, 0, 0, s.sru.m.mon.count⟩, []⟩ ∧
      (s.lc.state = .halted → SuspectMarked s u) ∧ (s.lc.state ≠ .halted → u.trk = s.trk) ∧
      u.hd.lanes = s.hd.lanes ∧
      ∀ l, u.head l = if (s.lane l).state = .idle ∧ (s.isConfigured l = true ∧ (s.lane l).target = true) ∧
          (s.head l).blade ≠ .parked then
        { s.head l with
          blade := .spinup, mon := ⟨false, 0, 0, (s.head l).mon.count⟩, spinup := some (1000 * s.set.spinupS) }
      else s.head l := by
  obtain ⟨starts, marked, kept, lanes, heads⟩ := enterStarting_taken s
  have frame : SameBut { lp := true, sru := true, lc := true, trk := true, hd := true } s (enterStarting s) :=
    enterStarting_without _ rfl rfl rfl rfl rfl
  generalize enterStarting s = u at *
  obtain ⟨starting, stopped, started, -⟩ := standing_parts starts.standing
  have set : u.set = s.set := congrArg Pst.settings (kept_pst frame rfl rfl)
  obtain ⟨state, cause, limit, crawl⟩ := starting_settled s starting (by rw [starts.reference]; exact nofun)
  refine ⟨u, _, replies, replies, ?_, ?_, ?_, ?_, frame,
    starts.origin, starts.demand, starts.reference, starts.selected, starts.slip, starts.w, starts.m, marked, kept, lanes,
    fun l => (heads l).trans ?_⟩
  · rw [replyReady_lc]
    exact state
  · rw [replyReady_lc, ← set]
    exact crawl
  · rw [replyReady_lc]
    exact cause.trans stopped
  · rw [replyReady_lc]
    exact limit.trans started
  unfold headStarted
  exact if_congr ⟨fun ⟨⟨idle, target, configured⟩, moves⟩ => ⟨idle, ⟨configured, target⟩, moves⟩,
    fun ⟨idle, ⟨configured, target⟩, moves⟩ => ⟨⟨idle, target, configured⟩, moves⟩⟩ rfl rfl

/-- Settles O38: START's refusals in their order, its effect block by block, and STARTING's end in a settling. -/
theorem start : Obligations.Start := by
  constructor
  · exact fun before h u l starting track blade used => running_settled before h starting track blade used
  · intro s tag h inTarget moving no able
    refine ⟨fun moves => ?_, fun still none => ?_, fun still some clock => ?_, fun still some clock unable => ?_,
      fun still some clock can => ?_⟩
    · exact start_refused h (if_pos ((moving_eq s).2 moves))
    all_goals have stands : s.lc.state.moving = false := by simpa using mt (moving_eq s).1 still
    · refine start_refused h ?_
      unfold State.startRefusal
      rw [if_neg (by rw [stands]; exact nofun), if_pos (by rw [none]; rfl)]
    · refine start_refused h ?_
      unfold State.startRefusal
      rw [if_neg (by rw [stands]; exact nofun), if_neg (by simpa using some), if_pos clock]
    · exact start_refused h ((startRefusal_last stands some clock).2 unable)
    · have replies := start_replies h ((startRefusal_last stands some clock).1 can)
      exact start_taken replies

end Sys2Proof.Machine
end

section
/-! PROOFS. The lengths of the layouts (section 11.6), and the requests that read. -/

namespace Sys2Proof.Machine

variable {s : State}

/-! ### Lengths -/

@[simp] theorem posBytes_length (p : Nat) : (posBytes p).length = 5 := length_leBytes ..

@[simp] theorem posOrAbsent_length (p : Option Nat) : (posOrAbsent p).length = 5 := by
  cases p <;> simp [posOrAbsent]

@[simp] theorem massBytes_length (m : Option Nat) : (massBytes m).length = 4 := by
  cases m <;> simp [massBytes]

theorem flatten_length {α : Type} {f : α → List Byte} {n : Nat} (xs : List α) (each : ∀ x, (f x).length = n) :
    (xs.map f).flatten.length = n * xs.length := by
  induction xs with
  | nil => rfl
  | cons x xs ih => rw [List.map_cons, List.flatten_cons, List.length_append, each, ih, List.length_cons]; ring

theorem writeFields_length (fs : List Field) (vs : List Nat) (same : vs.length = fs.length) :
    (writeFields fs vs).length = (fs.map Field.width).sum := by
  induction fs generalizing vs with
  | nil => rfl
  | cons f fs ih =>
    cases vs with
    | nil => exact nomatch same
    | cons v vs =>
      rw [writeFields, List.length_append, length_leBytes, ih vs (Nat.succ.inj same), List.map_cons, List.sum_cons]

theorem settingsBytes_length (x : LineSettings) : (settingsBytes x).length = 154 := by
  have values : (settingsValues x).length = 71 := by simp [settingsValues]
  have widths : settingsFields.length = 71 ∧ (settingsFields.map Field.width).sum = 154 := by decide
  rw [settingsBytes, writeFields_length _ _ (values.trans widths.1.symm), widths.2]

@[simp] theorem lineSection_length (s : State) : (lineSection s).length = 19 := by simp [lineSection]

@[simp] theorem referenceSection_length (s : State) : (referenceSection s).length = 19 := by simp [referenceSection]

theorem lanesStatus_length (s : State) : (lanesStatus s).length = 104 := by
  have lane : ∀ l, (laneStatus s l).length = 18 := fun l => by simp [laneStatus]
  have head : ∀ l, (headStatus s l).length = 8 := fun l => by simp [headStatus]
  rw [lanesStatus, List.length_append, flatten_length _ lane, flatten_length _ head]
  rfl

theorem changeoverStatus_length (c : Changeover) : (changeoverStatus c).length = 4 := by
  cases c <;> simp [changeoverStatus]

theorem mergeSection_length (s : State) : (mergeSection s).length = 28 := by
  simp [mergeSection, changeoverStatus_length]

theorem shiftStatus_length (x : Option Shift) : (shiftStatus x).length = 9 := by
  cases x <;> simp [shiftStatus]

theorem closedStatus_length (x : Option Shift) : (closedStatus x).length = 7 := by
  cases x <;> simp [closedStatus]

theorem shiftsSection_length (s : State) : (shiftsSection s).length = 27 := by
  simp [shiftsSection, shiftStatus_length, closedStatus_length]

theorem linkSection_length (s : State) : (linkSection s).length = 32 := by simp [linkSection]

theorem codecheckFields_length (s : State) : (codecheckFields s).length = 51 := by
  cases capture : s.tie.capture <;> simp [codecheckFields, capture]

theorem lastPurgeBytes_length (x : Option LastPurge) : (lastPurgeBytes x).length = 18 := by
  cases x <;> simp [lastPurgeBytes]

theorem headCrumbBytes_length (s : State) (l : Lane) : (headCrumbBytes s l).length = 25 := by
  unfold headCrumbBytes
  split <;> simp [lastPurgeBytes_length]

theorem crumbFields_length (s : State) : (crumbFields s).length = 142 := by
  have heads := flatten_length lanes (headCrumbBytes_length s)
  simp only [crumbFields, queueBytes, List.length_append, List.length_cons, List.length_nil, heads, length_leBytes,
    length_padTo, lastPurgeBytes_length]
  rfl

theorem recPos_length (x : Option Nat) : (recPos x).length = 5 := by cases x <;> simp [recPos]

theorem codeBytes_length (x : Option (List Byte)) : (codeBytes x).length = 8 := by cases x <;> simp [codeBytes]

theorem recordBytes_length (r : Rec) : (recordBytes r).length = 72 := by
  simp [recordBytes, recPos_length, codeBytes_length]

theorem countsBytes_length (c : Counts) : (countsBytes c).length = 36 := by simp [countsBytes]

theorem headingBytes_length (p : Place) (sh : Shift) : (headingBytes p sh).length = 13 := by simp [headingBytes]

theorem lanesSection_length (sh : Shift) : (lanesSection sh).length = 144 := by
  rw [lanesSection, flatten_length _ countsBytes_length]
  simp

theorem profilesSection_length (sh : Shift) {group : Nat} (inside : group ≤ 3) : (profilesSection sh group).length = 144 := by
  rw [profilesSection, flatten_length _ countsBytes_length]
  simp
  omega

theorem reasonsSection_length (sh : Shift) : (reasonsSection sh).length = 108 := by
  rw [reasonsSection, flatten_length _ (length_leBytes 4)]
  simp

theorem readQueue_length (q : List Rec) (start : Nat) : (readQueue q start).length = 3 + 72 * min 3 (q.length - start) := by
  simp only [readQueue, List.length_append, flatten_length _ recordBytes_length, List.length_take, List.length_drop]
  rfl

/-! ### The requests that read -/

/-- A request in hand is answered OK with fields of a length and a head, and the state but for the link is left alone. -/
def Reads (c : Instr) (k tag : Byte) (p : List Byte) (n : Nat) (head : List Byte) (s : State) : Prop :=
  Handling ⟨k, tag, p⟩ s → ∃ fields : List Byte, fields.length = n ∧ head <+: fields ∧
    exec c s = .next (replyReady ⟨replyFrame k tag .ok fields, none⟩ s)

theorem reads_of_owner {c : Instr} {k tag : Byte} {len : Nat} {owner : List Byte → State → Answer} {p : List Byte}
    {fields head : List Byte} {n : Nat} (served : exec c s = serve k len owner tag p s) (size : p.length = len)
    (answers : owner p s = Answer.okay s fields) (length : fields.length = n) (starts : head <+: fields) :
    Reads c k tag p n head s := fun h =>
  ⟨fields, length, starts, by rw [exec_handling h served size, answers, giveReply_okay]⟩

theorem refused_of_owner {c : Instr} {k tag : Byte} {len : Nat} {owner : List Byte → State → Answer} {p : List Byte}
    {st : Status} (served : exec c s = serve k len owner tag p s) (size : p.length = len)
    (refuses : owner p s = Answer.refuse s st) (h : Handling ⟨k, tag, p⟩ s) : Refused c ⟨k, tag, p⟩ st s := by
  rw [Refused, exec_handling h served size, refuses, giveReply_refuse]

theorem readStatus_reads (tag n : Byte) {bs head : List Byte} {len : Nat} (report : statusSection s n.toNat = some bs)
    (length : bs.length = len) (starts : head <+: n :: bs) : Reads (.readStatus tag [n]) 0x02 tag [n] (len + 1) head s := by
  have code : byteOf n.toNat = n := BitVec.ofNat_toNat ..
  refine reads_of_owner (owner := ownReadStatus) (len := 1) (fields := n :: bs) rfl rfl ?_ (by simp [length]) starts
  have byte : byteAt [n] 0 = n.toNat := rfl
  rw [ownReadStatus, byte, report, code]

theorem readStatus_refused (tag n : Byte) (outside : 6 ≤ n.toNat) (h : Handling ⟨0x02, tag, [n]⟩ s) :
    Refused (.readStatus tag [n]) ⟨0x02, tag, [n]⟩ .badField s := by
  have byte : byteAt [n] 0 = n.toNat := rfl
  have none : statusSection s n.toNat = none := by
    unfold statusSection
    split <;> first | omega | rfl
  exact refused_of_owner (owner := ownReadStatus) rfl rfl (by rw [ownReadStatus, byte, none]) h

theorem readTotals_reads (tag a b g : Byte) {place : Place} {sh : Shift} {len : Nat} (sel : a.toNat ≤ 2) (sec : b.toNat ≤ 2)
    (group : b.toNat = 1 → g.toNat ≤ 3) (standing : s.placed a.toNat = (place, some sh))
    (length : (totalsSection sh g.toNat b.toNat).length = len) :
    Reads (.readTotals tag [a, b, g]) 0x62 tag [a, b, g] (16 + len)
      ([a, b, g] ++ leBytes 2 sh.seq ++ [byteOf sh.digit, byteOf place.code]) s := by
  have code : ∀ n : Byte, byteOf n.toNat = n := fun n => BitVec.ofNat_toNat ..
  refine reads_of_owner (owner := ownReadTotals) (len := 3)
    (fields := [a, b, g] ++ headingBytes place sh ++ totalsSection sh g.toNat b.toNat) rfl rfl ?_ ?_ ?_
  · have place' : byteAt [a, b, g] 0 = a.toNat := rfl
    have sec' : byteAt [a, b, g] 1 = b.toNat := rfl
    have group' : byteAt [a, b, g] 2 = g.toNat := rfl
    rw [ownReadTotals, place', sec', group']
    rw [if_neg (by omega), standing, code, code, code]
  · simp only [List.length_append, headingBytes_length, length, List.length_cons, List.length_nil]
  · rw [headingBytes]
    simp only [List.append_assoc, List.prefix_append_right_inj]
    exact List.prefix_append _ _

theorem readTrack_reads (tag a b c d : Byte) {r : Rec} (found : s.find (leNat [a, b, c, d]) = some r) :
    Reads (.readTrack tag [0, a, b, c, d]) 0x70 tag [0, a, b, c, d] 72 (leBytes 4 r.loaf ++ [byteOf r.lane.val]) s := by
  refine reads_of_owner (owner := ownReadTrack) (len := 5) (fields := recordBytes r) rfl rfl ?_ (recordBytes_length r) ?_
  · have loaf : s.find (numAt [0, a, b, c, d] 1 4) = some r := found
    have form : byteAt [0, a, b, c, d] 0 = 0 := rfl
    rw [ownReadTrack, form, loaf]
    rfl
  · unfold recordBytes
    simp only [List.append_assoc, List.prefix_append_right_inj, List.cons_append]
    exact ⟨_, rfl⟩

theorem readTrack_refused (tag a b c d : Byte) (none : s.find (leNat [a, b, c, d]) = none)
    (h : Handling ⟨0x70, tag, [0, a, b, c, d]⟩ s) :
    Refused (.readTrack tag [0, a, b, c, d]) ⟨0x70, tag, [0, a, b, c, d]⟩ .notFound s := by
  refine refused_of_owner (owner := ownReadTrack) (len := 5) rfl rfl ?_ h
  have loaf : s.find (numAt [0, a, b, c, d] 1 4) = .none := none
  have form : byteAt [0, a, b, c, d] 0 = 0 := rfl
  rw [ownReadTrack, form, loaf]
  rfl

theorem readTrack_queue (tag start : Byte) : Reads (.readTrack tag [1, 4, start, 0, 0]) 0x70 tag [1, 4, start, 0, 0]
    (3 + 72 * min 3 (s.trk.post.length - start.toNat)) [byteOf s.trk.post.length, start] s := by
  have code : byteOf start.toNat = start := BitVec.ofNat_toNat ..
  refine reads_of_owner (owner := ownReadTrack) (len := 5) (fields := readQueue s.trk.post start.toNat) rfl rfl ?_
    (readQueue_length _ _) ?_
  · have form : byteAt [1, 4, start, 0, 0] 0 = 1 := rfl
    have queue : s.queueNumbered (byteAt [1, 4, start, 0, 0] 1) = some s.trk.post := rfl
    have filler : numAt [1, 4, start, 0, 0] 3 2 = 0 := rfl
    rw [ownReadTrack, form]
    rw [queue]
    exact if_pos filler
  · rw [readQueue, code]
    exact ⟨_, rfl⟩

theorem readCrumb_prefix (s : State) : (if s.isConfigured 0 then leBytes 4 s.crm.heads[0].estimate else []) <+: crumbFields s := by
  split
  · next configured =>
    have head : headCrumbBytes s 0 = leBytes 4 s.crm.heads[0].estimate ++
        (byteOf s.crm.heads[0].correction :: leBytes 2 s.crm.heads[0].loaves ++ lastPurgeBytes s.crm.last[0]) := by
      rw [headCrumbBytes, if_pos configured]
      simp only [List.append_assoc, List.cons_append]
      rfl
    simp only [crumbFields, lanes, List.map_cons, List.flatten_cons, List.append_assoc, head, List.prefix_append]
  · exact List.nil_prefix

/-- Settles O52: each request's fields, their length by the layout's parts, their head by its first part. -/
theorem readsOnlyRead : Obligations.ReadsOnlyRead := by
  intro s tag answers refuses
  have getLine : (settingsBytes s.set ++ s.pst.assign.toList.map (fun a : Option Slot => match a with
      | some i => byteOf i.val
      | none => 0xFF) ++ [flagByte s.pst.unsaved, flagByte s.pst.defaulted]).length = 160 := by
    simp [settingsBytes_length]
  refine ⟨?_, ?_, ?_, ?_, ?_, ?_, ?_, ?_, ?_, ?_, ?_, ?_, ?_, ?_, ?_, ?_, ?_⟩
  · exact reads_of_owner (owner := ownIdentify) rfl rfl rfl (by simp [identityText]) ⟨[], rfl⟩
  · exact readStatus_reads tag 0 rfl (lineSection_length s) ⟨_, rfl⟩
  · exact readStatus_reads tag 1 rfl (referenceSection_length s) ⟨_, rfl⟩
  · exact readStatus_reads tag 2 rfl (lanesStatus_length s) ⟨_, rfl⟩
  · exact readStatus_reads tag 3 rfl (mergeSection_length s) ⟨_, rfl⟩
  · refine readStatus_reads tag 4 rfl (shiftsSection_length s) ?_
    unfold shiftsSection shiftStatus
    cases s.tot.opened <;> exact ⟨_, rfl⟩
  · exact readStatus_reads tag 5 rfl (linkSection_length s) ⟨_, rfl⟩
  · exact fun n outside => readStatus_refused tag n outside
  · refine reads_of_owner (owner := ownGetLine) rfl rfl rfl getLine ?_
    rw [List.append_assoc]
    exact List.prefix_append _ _
  · exact reads_of_owner (owner := ownReadCodecheck) rfl rfl rfl (codecheckFields_length s) ⟨_, rfl⟩
  · exact reads_of_owner (owner := ownReadCrumb) rfl rfl rfl (crumbFields_length s) (readCrumb_prefix s)
  · exact fun sh opened => readTotals_reads tag 0 0 0 (by decide) (by decide) (fun _ => by decide)
      (congrArg (Prod.mk Place.opened) opened) (lanesSection_length sh)
  · exact fun g sh group closing => readTotals_reads tag 1 1 g (by decide) (by decide) (fun _ => group)
      (congrArg (Prod.mk Place.closing) closing) (profilesSection_length sh group)
  · exact fun sh closed => readTotals_reads tag 2 2 0 (by decide) (by decide) (fun _ => by decide)
      (congrArg (Prod.mk Place.closed) closed) (reasonsSection_length sh)
  · intro none
    refine refused_of_owner (owner := ownReadTotals) rfl rfl ?_
    have standing : s.placed (byteAt [2, 0, 0] 0) = (.closed, .none) := congrArg (Prod.mk Place.closed) none
    rw [ownReadTotals, if_neg (by decide), standing]
  · exact fun a b c d => ⟨fun r => readTrack_reads tag a b c d, readTrack_refused tag a b c d⟩
  · exact fun start => readTrack_queue tag start

end Sys2Proof.Machine
end

section
/-! PROOFS. The transmitter (R189, R190, R192), and the reply that every request gets (R190, R191). -/

namespace Sys2Proof.Machine

variable {s t u : State}

/-! ### The transmitter (R192) -/

/-- What the transmitter begins at the end of a frame, over the state `v` that the frame's end has left. -/
def BeginsNext (v t : State) : Prop :=
  (∀ r, v.lp.reply = some r → t = { v with lp := { v.lp with
    tx := .sendingReply r, reply := none, hand := v.lp.waiting, waiting := none } }) ∧
  (∀ n rest, v.lp.reply = none → v.lp.queue = n :: rest → t = { v with lp := { v.lp with
    tx := .sendingNotice (noticeFrame n), queue := rest, attn := !rest.isEmpty } }) ∧
  (v.lp.reply = none → v.lp.queue = [] → t = { v with lp := { v.lp with tx := .idle } })

theorem txIdle_begins (v : State) : BeginsNext v (txIdle v) := by
  refine ⟨fun r ready => ?_, fun n rest none front => ?_, fun none empty => ?_⟩
  · simp only [txIdle, Lp.beginNext, ready, State.onLp]
  · simp only [txIdle, Lp.beginNext, none, front, State.onLp, Lp.withAttn]
  · simp only [txIdle, Lp.beginNext, none, empty, State.onLp]

theorem frameSent_notice (on : s.powered = true) {f : List Byte} (sends : s.lp.tx = .sendingNotice f) :
    exec .frameSent s = .next (txIdle (onLink (fun c => { c with noticesSent := bump32 c.noticesSent }) s)) := by
  have served : exec .frameSent s = execFrameSent s := rfl
  rw [served, execFrameSent, whenPowered_event on, sends]

theorem frameSent_reply (on : s.powered = true) {r : Reply} (sends : s.lp.tx = .sendingReply r) :
    exec .frameSent s = .next (txIdle (takeRate r.newRate s)) := by
  have served : exec .frameSent s = execFrameSent s := rfl
  rw [served, execFrameSent, whenPowered_event on, sends]

theorem asRate_code (x : LinkRate) : asRate x.code = some x := by cases x <;> rfl

theorem asRate_none {n : Nat} (outside : 3 ≤ n) : asRate n = none := by
  unfold asRate
  split
  · exact absurd outside (by decide)
  · exact absurd outside (by decide)
  · exact absurd outside (by decide)
  · rfl

/-- Settles O50: the end of a frame makes the transmitter idle, and an idle transmitter begins what is next. -/
theorem framesAreSent : Obligations.FramesAreSent := by
  intro s on after c
  refine ⟨fun idle => ?_, fun f sends => ⟨_, frameSent_notice on sends, txIdle_begins _⟩,
    fun f sends => ⟨_, frameSent_reply on sends, txIdle_begins _⟩,
    fun f x sends => ⟨_, frameSent_reply on sends, fun hunts => ?_, fun bs receives => ?_⟩,
    fun tag n h => ⟨fun outside => ?_, fun x code => ?_⟩⟩
  · have served : exec .frameSent s = execFrameSent s := rfl
    rw [served, execFrameSent, whenPowered_event on, idle]
  · have taken : takeRate (some x) s = { s with lp := { s.lp with rate := x } } := by
      simp only [takeRate, truncate, State.onLp, hunts]
    rw [← taken]
    exact txIdle_begins _
  · have taken : takeRate (some x) s = { s with lp := { s.lp with
        rate := x, receiver := .hunt, counters := { c with truncated := min 4294967295 (c.truncated + 1) } } } := by
      simp only [takeRate, truncate, State.onLp, receives, setReceiver, onLink]
      rfl
    rw [← taken]
    exact txIdle_begins _
  · refine refused_of_owner (owner := ownSetLink) (len := 1) rfl rfl ?_ h
    have byte : byteAt [n] 0 = n.toNat := rfl
    rw [ownSetLink, byte, asRate_none outside]
  · have byte : byteAt [n] 0 = x.code := code.symm
    have same : byteOf x.code = n := by rw [code]; exact BitVec.ofNat_toNat ..
    rw [exec_handling (c := .setLink tag [n]) (owner := ownSetLink) (len := 1) h rfl rfl, ownSetLink, byte, asRate_code]
    dsimp only
    rw [giveReply, same]

/-! ### What an owning rule answers (R191) -/

/-- An answer refuses and leaves the state, or carries the catalogue's fields; the statuses of the frame itself are not
the owning rule's. -/
structure OwnAnswer (s : State) (a : Answer) : Prop where
  known : a.status ≠ .unknownKind
  sized : a.status ≠ .badLength
  unmoved : a.status.carriesFields = false → a = Answer.refuse s a.status

theorem answered_okay (s t : State) (fields : List Byte) : OwnAnswer s (Answer.okay t fields) :=
  ⟨nofun, nofun, nofun⟩

theorem answered_refuse {st : Status} (known : st ≠ .unknownKind) (sized : st ≠ .badLength) : OwnAnswer s (Answer.refuse s st) :=
  ⟨known, sized, fun _ => rfl⟩

theorem answered_fields {st : Status} (carries : st = .ok ∨ st = .clamped ∨ st = .tooLate) (t : State) (fields : List Byte)
    (rate : Option LinkRate) : OwnAnswer s ⟨t, st, fields, rate⟩ := by
  rcases carries with rfl | rfl | rfl <;> exact ⟨nofun, nofun, nofun⟩

theorem loadStatus_carries (top n : Nat) : loadStatus top n = .ok ∨ loadStatus top n = .clamped ∨ loadStatus top n = .tooLate := by
  unfold loadStatus
  split
  · exact .inr (.inl rfl)
  · exact .inl rfl

theorem answered_readStatus (p : List Byte) (s : State) : OwnAnswer s (ownReadStatus p s) := by
  unfold ownReadStatus
  split
  · exact answered_okay ..
  · exact answered_refuse nofun nofun

theorem answered_setLink (p : List Byte) (s : State) : OwnAnswer s (ownSetLink p s) := by
  unfold ownSetLink
  split
  · exact answered_fields (.inl rfl) ..
  · exact answered_refuse nofun nofun

theorem answered_setClock (p : List Byte) (s : State) : OwnAnswer s (ownSetClock p s) := by
  unfold ownSetClock
  dsimp only
  split
  · exact answered_refuse nofun nofun
  · exact answered_okay ..

theorem answered_putSlot (i : Slot) (x : Option Profile) (s : State) : OwnAnswer s (putSlot i x s) := by
  unfold putSlot
  (repeat' split)
  · exact answered_refuse nofun nofun
  · exact answered_refuse nofun nofun
  · exact answered_okay ..

theorem answered_putProfile (p : List Byte) (s : State) : OwnAnswer s (ownPutProfile p s) := by
  unfold ownPutProfile
  split
  · exact answered_putSlot ..
  · exact answered_refuse nofun nofun

theorem answered_getProfile (p : List Byte) (s : State) : OwnAnswer s (ownGetProfile p s) := by
  unfold ownGetProfile
  split
  · exact answered_okay ..
  · exact answered_refuse nofun nofun

theorem answered_setLine (p : List Byte) (s : State) : OwnAnswer s (ownSetLine p s) := by
  unfold ownSetLine
  (repeat' split)
  · exact answered_refuse nofun nofun
  · exact answered_okay ..
  · exact answered_refuse nofun nofun
  · exact answered_refuse nofun nofun

theorem answered_store (p : List Byte) (s : State) : OwnAnswer s (ownStore p s) := by
  unfold ownStore
  split
  · exact answered_okay ..
  · exact answered_refuse nofun nofun

theorem answered_line (before t : State) : OwnAnswer s (answerLine before t) := answered_okay ..

theorem startRefusal_status {st : Status} (h : s.startRefusal = some st) : st = .wrongState ∨ st = .noShift ∨ st = .noClock := by
  unfold State.startRefusal at h
  (repeat' split at h) <;> simp_all

theorem answered_start (p : List Byte) (s : State) : OwnAnswer s (ownStart p s) := by
  unfold ownStart
  split
  · next st refuses => rcases startRefusal_status refuses with rfl | rfl | rfl <;> exact answered_refuse nofun nofun
  · exact answered_line ..

theorem answered_stop (p : List Byte) (s : State) : OwnAnswer s (ownStop p s) := by
  unfold ownStop
  (repeat' split)
  · exact answered_line ..
  · exact answered_refuse nofun nofun
  · exact answered_line ..

theorem answered_clearTrack (p : List Byte) (s : State) : OwnAnswer s (ownClearTrack p s) := by
  unfold ownClearTrack
  split
  · exact answered_okay ..
  · exact answered_refuse nofun nofun

theorem answered_setSpeed (p : List Byte) (s : State) : OwnAnswer s (ownSetSpeed p s) := by
  unfold ownSetSpeed
  refine answered_fields ?_ ..
  split
  · exact .inr (.inl rfl)
  · exact .inl rfl

theorem answered_setReference (p : List Byte) (s : State) : OwnAnswer s (ownSetReference p s) := by
  unfold ownSetReference
  split
  · exact answered_okay ..
  · exact answered_refuse nofun nofun

theorem answered_setLanes (p : List Byte) (s : State) : OwnAnswer s (ownSetLanes p s) := by
  unfold ownSetLanes
  dsimp only
  split
  · exact answered_refuse nofun nofun
  · exact answered_okay ..

theorem answered_setLaneProfile (p : List Byte) (s : State) : OwnAnswer s (ownSetLaneProfile p s) := by
  unfold ownSetLaneProfile
  (repeat' split)
  · exact answered_okay ..
  · exact answered_refuse nofun nofun
  · exact answered_refuse nofun nofun

theorem answered_clearLane (p : List Byte) (s : State) : OwnAnswer s (ownClearLane p s) := by
  unfold ownClearLane
  (repeat' split)
  · exact answered_okay ..
  · exact answered_refuse nofun nofun
  · exact answered_refuse nofun nofun
  · exact answered_refuse nofun nofun

theorem answered_setChallenge (p : List Byte) (s : State) : OwnAnswer s (ownSetChallenge p s) := by
  unfold ownSetChallenge
  dsimp only
  split
  · exact answered_okay ..
  · exact answered_refuse nofun nofun

theorem answered_purge (p : List Byte) (s : State) : OwnAnswer s (ownPurge p s) := by
  unfold ownPurge
  (repeat' split)
  · exact answered_okay ..
  · exact answered_refuse nofun nofun
  · exact answered_refuse nofun nofun

theorem answered_openShift (p : List Byte) (s : State) : OwnAnswer s (ownOpenShift p s) := by
  unfold ownOpenShift
  dsimp only
  (repeat' split)
  · exact answered_refuse nofun nofun
  · exact answered_refuse nofun nofun
  · exact answered_refuse nofun nofun
  · exact answered_okay ..

theorem closeRefusal_status {m d : Nat} {st : Status} (h : s.closeRefusal m d = some st) :
    st = .badField ∨ st = .noShift ∨ st = .busy ∨ st = .noClock := by
  unfold State.closeRefusal at h
  (repeat' split at h) <;> simp_all

theorem answered_closeShift (p : List Byte) (s : State) : OwnAnswer s (ownCloseShift p s) := by
  unfold ownCloseShift
  dsimp only
  split
  · exact answered_okay ..
  · next st refuses => rcases closeRefusal_status refuses with rfl | rfl | rfl | rfl <;> exact answered_refuse nofun nofun
  · exact answered_refuse nofun nofun

theorem answered_readTotals (p : List Byte) (s : State) : OwnAnswer s (ownReadTotals p s) := by
  unfold ownReadTotals
  dsimp only
  (repeat' split)
  · exact answered_refuse nofun nofun
  · exact answered_okay ..
  · exact answered_refuse nofun nofun

theorem answered_readTrack (p : List Byte) (s : State) : OwnAnswer s (ownReadTrack p s) := by
  unfold ownReadTrack
  (repeat' split)
  · exact answered_okay ..
  · exact answered_refuse nofun nofun
  · exact answered_okay ..
  · exact answered_refuse nofun nofun
  · exact answered_refuse nofun nofun
  · exact answered_refuse nofun nofun

theorem answered_rejectLoaf (p : List Byte) (s : State) : OwnAnswer s (ownRejectLoaf p s) := by
  unfold ownRejectLoaf
  split
  · refine answered_fields ?_ ..
    split
    · exact .inr (.inr rfl)
    · exact .inl rfl
  · exact answered_refuse nofun nofun

/-! ### A reply that stands (R190, R192) -/

/-- A raising leaves a reply standing: ready, or on the wire. -/
theorem ReplyStands.raise {r : Req} {st : Status} {fields : List Byte} {rate : Option LinkRate} (k : Kind) (x : List Byte)
    (stands : ReplyStands r st fields rate s) : ReplyStands r st fields rate (raise k x s) := by
  unfold ReplyStands at *
  show ((s.lp.raise k s.pst.clock x).tx = _) ∨ ((s.lp.raise k s.pst.clock x).reply = _)
  generalize s.lp = lp at *
  unfold Lp.raise
  dsimp only
  split
  · exact stands
  · rcases stands with sends | ready
    · refine .inl ?_
      simp only [Lp.beginNext, Lp.withAttn, sends]
    · cases tx : lp.tx with
      | idle =>
        refine .inl ?_
        simp only [Lp.beginNext, Lp.withAttn, ready]
      | sendingReply y =>
        refine .inr ?_
        simp only [Lp.beginNext, Lp.withAttn, ready]
      | sendingNotice y =>
        refine .inr ?_
        simp only [Lp.beginNext, Lp.withAttn, ready]

theorem ReplyStands.of_lp {r : Req} {st : Status} {fields : List Byte} {rate : Option LinkRate} (same : t.lp = s.lp)
    (stands : ReplyStands r st fields rate s) : ReplyStands r st fields rate t := by
  unfold ReplyStands at *
  rwa [same]

theorem ReplyStands.act {sure : Prop} {r : Req} {st : Status} {fields : List Byte} {rate : Option LinkRate} (s t : State)
    (act : Act sure s t) (stands : ReplyStands r st fields rate s) : ReplyStands r st fields rate t := by
  cases act with
  | raise k x => exact stands.raise k x
  | gates =>
    unfold evaluateGates
    dsimp only
    split
    · exact ReplyStands.raise _ _ (stands.of_lp rfl)
    · exact stands.of_lp rfl
  | retire r d held => exact stands.of_lp (kept_lp (retireQuiet_keeps r d s) rfl rfl)
  | event f account => exact stands.of_lp (kept_lp (lineEvent_without (b := { tot := true }) s f rfl) rfl rfl)
  | _ => exact stands.of_lp rfl

theorem ReplyStands.acts {sure : Prop} {r : Req} {st : Status} {fields : List Byte} {rate : Option LinkRate}
    (acts : Acts sure s t) (stands : ReplyStands r st fields rate s) : ReplyStands r st fields rate t :=
  acts.keeps ReplyStands.act stands

/-! ### Every request is answered (R191) -/

/-- The request in hand of one kind is answered by a reply; a refusal leaves every state, and the length alone decides
BAD_LENGTH. -/
def Answers (kind : Byte) : Prop :=
  ∀ tag p s, Handling ⟨kind, tag, p⟩ s →
    ∃ t st fields rate, exec (commandOf ⟨kind, tag, p⟩) s = .next t ∧ ReplyStands ⟨kind, tag, p⟩ st fields rate t ∧
      (st.carriesFields = false → t = replyReady ⟨replyFrame kind tag st [], none⟩ s) ∧
      (st = .unknownKind ↔ requestLength kind.toNat = none) ∧
      (st = .badLength ↔ ∃ n, requestLength kind.toNat = some n ∧ n ≠ p.length)

theorem answers_owner {kind : Byte} {len : Nat} {owner : List Byte → State → Answer} (length : requestLength kind.toNat = some len)
    (served : ∀ tag p s, exec (commandOf ⟨kind, tag, p⟩) s = serve kind len owner tag p s)
    (proper : ∀ p s, OwnAnswer s (owner p s)) : Answers kind := by
  intro tag p s h
  by_cases size : p.length = len
  · obtain ⟨known, sized, unmoved⟩ := proper p s
    refine ⟨_, (owner p s).status, (owner p s).fields, (owner p s).newRate, exec_handling h (served tag p s) size,
      replyReady_stands ⟨kind, tag, p⟩ _ _ _ _, fun refuses => ?_, ⟨fun e => absurd e known, fun none => ?_⟩,
      ⟨fun e => absurd e sized, fun ⟨n, given, other⟩ => ?_⟩⟩
    · rw [unmoved refuses]
      rfl
    · exact nomatch length.symm.trans none
    · exact absurd (size.symm ▸ Option.some.inj (given.symm.trans length)) other
  · refine ⟨giveReply kind tag (Answer.refuse s .badLength), .badLength, [], none, (served tag p s).trans ((serve_handling len owner h).trans (by rw [if_neg size])),
      replyReady_stands ⟨kind, tag, p⟩ _ _ _ _, fun _ => rfl, ⟨nofun, fun none => ?_⟩, fun _ => ⟨len, length, Ne.symm size⟩,
      fun _ => rfl⟩
    exact nomatch length.symm.trans none

theorem answers_restart : Answers 0x24 := by
  intro tag p s h
  have on : s.powered = true := h.1
  have served : exec (commandOf ⟨0x24, tag, p⟩) s = execRestart tag p s := rfl
  have length : requestLength (0x24 : Byte).toNat = some 0 := rfl
  by_cases size : p.length = 0
  · have ran : exec (commandOf ⟨0x24, tag, p⟩) s = .next (settle
        (restartRaisings s (giveReply 0x24 tag (Answer.okay (restartBlocks s) [])))
        (restartRaisings s (giveReply 0x24 tag (Answer.okay (restartBlocks s) []))).pos
        (restartRaisings s (giveReply 0x24 tag (Answer.okay (restartBlocks s) [])))) := by
      rw [served, execRestart, whenPowered_event on, takeUp_handling h]
      dsimp only
      rw [if_pos size]
    refine ⟨_, .ok, [], none, ran, ?_, nofun, ⟨nofun, nofun⟩, ⟨nofun, fun ⟨n, given, other⟩ => ?_⟩⟩
    · have ready := replyReady_stands ⟨0x24, tag, p⟩ .ok [] none (restartBlocks s)
      exact (ready.acts (sure := False) (restartRaisings_acts _ _)).acts (sure := False) (settle_acts _ _ _)
    · exact absurd (size.symm ▸ Option.some.inj (given.symm.trans length)) other
  · refine ⟨giveReply 0x24 tag (Answer.refuse s .badLength), .badLength, [], none, ?_, replyReady_stands ⟨0x24, tag, p⟩ _ _ _ _,
      fun _ => rfl, ⟨nofun, nofun⟩, fun _ => ⟨0, length, Ne.symm size⟩, fun _ => rfl⟩
    rw [served, execRestart, whenPowered_event on, takeUp_handling h]
    dsimp only
    rw [if_neg size]

/-- Every kind of the catalogue is answered by its owning rule. -/
theorem answers_catalogue {kind : Byte} (known : kind.toNat ∈ catalogueKinds) : Answers kind := by
  have byte : ∀ k : Byte, kind.toNat = k.toNat → kind = k := fun k e => BitVec.eq_of_toNat_eq e
  simp only [catalogueKinds, List.mem_cons, List.not_mem_nil, or_false] at known
  rcases known with e | e | e | e | e | e | e | e | e | e | e | e | e | e | e | e | e | e | e | e | e | e | e | e | e | e |
    e | e | e | e | e | e | e | e
  · rw [byte 0x01 e]; exact answers_owner rfl (fun _ _ _ => rfl) fun _ s => answered_okay s ..
  · rw [byte 0x02 e]; exact answers_owner rfl (fun _ _ _ => rfl) answered_readStatus
  · rw [byte 0x03 e]; exact answers_owner rfl (fun _ _ _ => rfl) answered_setLink
  · rw [byte 0x04 e]; exact answers_owner rfl (fun _ _ _ => rfl) fun _ s => answered_okay s ..
  · rw [byte 0x05 e]; exact answers_owner rfl (fun _ _ _ => rfl) fun _ s => answered_okay s ..
  · rw [byte 0x10 e]; exact answers_owner rfl (fun _ _ _ => rfl) answered_setClock
  · rw [byte 0x11 e]; exact answers_owner rfl (fun _ _ _ => rfl) fun _ s => answered_okay s ..
  · rw [byte 0x12 e]; exact answers_owner rfl (fun _ _ _ => rfl) answered_putProfile
  · rw [byte 0x13 e]; exact answers_owner rfl (fun _ _ _ => rfl) answered_getProfile
  · rw [byte 0x14 e]; exact answers_owner rfl (fun _ _ _ => rfl) answered_setLine
  · rw [byte 0x15 e]; exact answers_owner rfl (fun _ _ _ => rfl) fun _ s => answered_okay s ..
  · rw [byte 0x16 e]; exact answers_owner rfl (fun _ _ _ => rfl) answered_store
  · rw [byte 0x20 e]; exact answers_owner rfl (fun _ _ _ => rfl) answered_start
  · rw [byte 0x21 e]; exact answers_owner rfl (fun _ _ _ => rfl) answered_stop
  · rw [byte 0x22 e]; exact answers_owner rfl (fun _ _ _ => rfl) fun _ s => answered_okay s ..
  · rw [byte 0x23 e]; exact answers_owner rfl (fun _ _ _ => rfl) answered_clearTrack
  · rw [byte 0x24 e]; exact answers_restart
  · rw [byte 0x25 e]; exact answers_owner rfl (fun _ _ _ => rfl) answered_setSpeed
  · rw [byte 0x26 e]; exact answers_owner rfl (fun _ _ _ => rfl) answered_setReference
  · rw [byte 0x30 e]; exact answers_owner rfl (fun _ _ _ => rfl) answered_setLanes
  · rw [byte 0x31 e]; exact answers_owner rfl (fun _ _ _ => rfl) answered_setLaneProfile
  · rw [byte 0x32 e]; exact answers_owner rfl (fun _ _ _ => rfl) answered_clearLane
  · rw [byte 0x40 e]; exact answers_owner rfl (fun _ _ _ => rfl) fun _ s => answered_fields (loadStatus_carries ..) ..
  · rw [byte 0x41 e]; exact answers_owner rfl (fun _ _ _ => rfl) fun _ s => answered_fields (loadStatus_carries ..) ..
  · rw [byte 0x42 e]; exact answers_owner rfl (fun _ _ _ => rfl) answered_setChallenge
  · rw [byte 0x43 e]; exact answers_owner rfl (fun _ _ _ => rfl) fun _ s => answered_okay s ..
  · rw [byte 0x44 e]; exact answers_owner rfl (fun _ _ _ => rfl) fun _ s => answered_okay s ..
  · rw [byte 0x50 e]; exact answers_owner rfl (fun _ _ _ => rfl) answered_purge
  · rw [byte 0x51 e]; exact answers_owner rfl (fun _ _ _ => rfl) fun _ s => answered_okay s ..
  · rw [byte 0x60 e]; exact answers_owner rfl (fun _ _ _ => rfl) answered_openShift
  · rw [byte 0x61 e]; exact answers_owner rfl (fun _ _ _ => rfl) answered_closeShift
  · rw [byte 0x62 e]; exact answers_owner rfl (fun _ _ _ => rfl) answered_readTotals
  · rw [byte 0x70 e]; exact answers_owner rfl (fun _ _ _ => rfl) answered_readTrack
  · rw [byte 0x71 e]; exact answers_owner rfl (fun _ _ _ => rfl) answered_rejectLoaf

/-- The catalogue gives a length to its own kinds alone. -/
theorem requestLength_unknown {n : Nat} : requestLength n = none ↔ n ∉ catalogueKinds := by
  unfold requestLength
  split <;> simp_all [catalogueKinds]

theorem commandOf_unknown {r : Req} (unknown : r.kind.toNat ∉ catalogueKinds) :
    commandOf r = .unknownKindRequest r.kind r.tag r.payload := by
  unfold commandOf
  split <;> simp_all [catalogueKinds]

theorem unknownKind_refused {kind tag : Byte} {p : List Byte} (unknown : kind.toNat ∉ catalogueKinds)
    (h : Handling ⟨kind, tag, p⟩ s) : Refused (.unknownKindRequest kind tag p) ⟨kind, tag, p⟩ .unknownKind s := by
  have served : exec (.unknownKindRequest kind tag p) s = execUnknownKindRequest kind tag p s := rfl
  rw [Refused, served, execUnknownKindRequest, whenPowered_event h.1, if_neg unknown, takeUp_handling h]
  rfl

/-- Settles O51: a kind of the catalogue by its owning rule, any other by UNKNOWN_KIND. -/
theorem everyRequestIsAnswered : Obligations.EveryRequestIsAnswered := by
  refine ⟨fun r s h => ?_, fun kind tag p s unknown => unknownKind_refused (requestLength_unknown.1 unknown)⟩
  obtain ⟨kind, tag, p⟩ := r
  by_cases known : kind.toNat ∈ catalogueKinds
  · exact answers_catalogue known tag p s h
  · have unknown := requestLength_unknown.2 known
    refine ⟨_, .unknownKind, [], none, (congrArg (exec · s) (commandOf_unknown known)).trans (unknownKind_refused known h),
      replyReady_stands ⟨kind, tag, p⟩ _ _ _ _, fun _ => rfl, ⟨fun _ => unknown, fun _ => rfl⟩, ⟨nofun, fun ⟨n, given, _⟩ => ?_⟩⟩
    exact nomatch unknown.symm.trans given

end Sys2Proof.Machine
end

section
/-! PROOFS. CLOSE_SHIFT (R151 to R153, R179). -/

namespace Sys2Proof.Machine

variable {s t u : State}

/-! ### The shift moved on (R151, R153) -/

/-- The ended shift, with its close time. -/
def Shift.ended (sh : Shift) (clock : Nat) : Shift := { sh with closeTime := some clock }

/-- The OPEN shift at its end in the CLOSING place, the next one opened when the close rolls. -/
def shiftEnded (rolling : Bool) (digit : Nat) (sh : Shift) (s : State) : State :=
  if rolling then openShift digit (startClosing sh s) else startClosing sh s

/-- What a CLOSE_SHIFT does to the shifts, before it asks for a drain. -/
def shiftMoved (rolling : Bool) (digit : Nat) (sh : Shift) (s : State) : State :=
  settleShift (shiftEnded rolling digit sh s)

theorem closeShift_moves (rolling : Bool) (digit : Nat) (sh : Shift) (s : State) : closeShift rolling digit sh s =
    if rolling then shiftMoved rolling digit sh s else drainForClose (shiftMoved rolling digit sh s) := by
  cases rolling <;> rfl

theorem shiftEnded_keeps (rolling : Bool) (digit : Nat) (sh : Shift) (s : State) :
    SameBut { tot := true, nv := true } s (shiftEnded rolling digit sh s) := by
  cases rolling <;> simp [SameBut, shiftEnded, startClosing]

theorem settleShift_keeps (s : State) : SameBut { lp := true, tot := true } s (settleShift s) := by
  simp [SameBut, settleShift]

theorem raiseIfClosed_tot (before : Tot) (s : State) : (raiseIfClosed before s).tot = s.tot := by
  unfold raiseIfClosed
  split <;> rfl

theorem raiseIfClosed_nv (before : Tot) (s : State) : (raiseIfClosed before s).nv = s.nv := by
  unfold raiseIfClosed
  split <;> rfl

theorem settleShift_tot (s : State) : (settleShift s).tot = s.tot.settle := raiseIfClosed_tot ..

theorem settleShift_flag {sh : Shift} (closing : s.tot.closing = some sh) (empty : sh.inTable = 0) :
    (settleShift s).flag .shiftClosed = true := by
  have closed : (s.onTot Tot.settle).tot = { s.tot with closing := none, closed := some sh } := by
    show s.tot.settle = _
    unfold Tot.settle
    rw [closing]
    exact if_pos empty
  unfold settleShift raiseIfClosed
  rw [closing, closed]
  simp

/-- The shifts after a CLOSE_SHIFT. -/
theorem shiftMoved_tot (rolling : Bool) (digit : Nat) (sh : Shift) (s : State) :
    (shiftMoved rolling digit sh s).tot.closing = (if sh.inTable = 0 then none else some (sh.ended s.pst.clock)) ∧
    (shiftMoved rolling digit sh s).tot.closed = (if sh.inTable = 0 then some (sh.ended s.pst.clock) else s.tot.closed) ∧
    (shiftMoved rolling digit sh s).tot.opened =
      (if rolling then some (Shift.fresh s.nextShiftSeq digit s.pst.clock) else none) ∧
    (shiftMoved rolling digit sh s).nv =
      (if rolling then { s.nv with seqCell := some (nextSeqAfter s.nextShiftSeq) } else s.nv) ∧
    (sh.inTable = 0 → (shiftMoved rolling digit sh s).flag .shiftClosed = true) := by
  have closing : (shiftEnded rolling digit sh s).tot.closing = some (sh.ended s.pst.clock) := by cases rolling <;> rfl
  have closed : (shiftEnded rolling digit sh s).tot.closed = s.tot.closed := by cases rolling <;> rfl
  have opened : (shiftEnded rolling digit sh s).tot.opened =
      (if rolling then some (Shift.fresh s.nextShiftSeq digit s.pst.clock) else none) := by cases rolling <;> rfl
  have cell : (shiftEnded rolling digit sh s).nv =
      (if rolling then { s.nv with seqCell := some (nextSeqAfter s.nextShiftSeq) } else s.nv) := by cases rolling <;> rfl
  have inTable : (sh.ended s.pst.clock).inTable = sh.inTable := rfl
  unfold shiftMoved
  generalize shiftEnded rolling digit sh s = v at *
  refine ⟨?_, ?_, ?_, (raiseIfClosed_nv _ _).trans cell, fun empty => settleShift_flag closing (inTable.trans empty)⟩
  all_goals
    rw [settleShift_tot, Tot.settle, closing]
    dsimp only
    rw [inTable]
  · split
    · rfl
    · exact closing
  · split
    · rfl
    · exact closed
  · split <;> exact opened

theorem shiftMoved_keeps (rolling : Bool) (digit : Nat) (sh : Shift) (s : State) :
    SameBut { lp := true, tot := true, nv := true } s (shiftMoved rolling digit sh s) :=
  ((settleShift_keeps _).widen fun _ => rfl).trans ((shiftEnded_keeps rolling digit sh s).widen fun _ => rfl)

/-! ### The drain of DRAIN (R152, R179) -/

theorem drainForClose_keeps (s : State) : SameBut { lp := true, sru := true, lc := true, hd := true } s (drainForClose s) := by
  unfold drainForClose
  split
  · exact requestDrain_without _ _ rfl rfl rfl rfl
  · rfl

theorem drainForClose_lasts (s : State) : Lasts s (drainForClose s) := by
  unfold drainForClose
  split
  · exact lasts_requestDrain s .shiftClose
  · exact .refl s

theorem drainForClose_drains (moving : s.lc.state = .running ∨ (s.lc.state = .starting ∧ s.tableCount ≠ 0)) :
    drainForClose s = enterDraining .shiftClose s := by
  have asks : s.lc.state.spinsUp = true := (spinsUp_iff _).2 (moving.elim .inr fun starting => .inl starting.1)
  rw [drainForClose, if_pos asks, requestDrain_drains moving]

theorem drainForClose_readies (starting : s.lc.state = .starting) (empty : s.tableCount = 0) :
    drainForClose s = enterReady .shiftClose s := by
  have asks : s.lc.state.spinsUp = true := (spinsUp_iff _).2 (.inl starting)
  rw [drainForClose, if_pos asks, requestDrain_readies starting empty]

theorem drainForClose_still (running : s.lc.state ≠ .running) (starting : s.lc.state ≠ .starting) : drainForClose s = s :=
  if_neg fun asks => ((spinsUp_iff _).1 asks).elim starting running

/-! ### The request (R151) -/

theorem closeRefusal_form {m d : Nat} : ¬(1 < m ∨ (m = 1 ∧ digitOk d = false)) ↔ m = 0 ∨ (m = 1 ∧ 1 ≤ d ∧ d ≤ 9) := by
  rw [← Bool.not_eq_true, digitOk_iff]
  omega

theorem closeRefusal_badField {m d : Nat} (bad : ¬(m = 0 ∨ (m = 1 ∧ 1 ≤ d ∧ d ≤ 9))) : s.closeRefusal m d = some .badField := by
  have form := not_not.1 (mt closeRefusal_form.1 bad)
  unfold State.closeRefusal
  rcases form with large | digit
  · rw [if_pos large]
  · rw [if_pos digit]
    split <;> rfl

theorem closeRefusal_good {m d : Nat} (ok : m = 0 ∨ (m = 1 ∧ 1 ≤ d ∧ d ≤ 9)) : s.closeRefusal m d =
    if s.tot.opened.isNone then some .noShift
    else if s.tot.closing.isSome then some .busy
    else if m = 1 ∧ s.pst.clockValid = false then some .noClock
    else none := by
  have form := closeRefusal_form.2 ok
  unfold State.closeRefusal
  rw [if_neg fun large => form (.inl large), if_neg fun digit => form (.inr digit)]

theorem closeShift_refused {tag m d : Byte} {st : Status} (h : Handling ⟨0x61, tag, [m, d]⟩ s)
    (refuses : s.closeRefusal m.toNat d.toNat = some st) : Refused (.closeShift tag [m, d]) ⟨0x61, tag, [m, d]⟩ st s := by
  refine refused_of_owner (owner := ownCloseShift) (len := 2) rfl rfl ?_ h
  have mode : byteAt [m, d] 0 = m.toNat := rfl
  have digit : byteAt [m, d] 1 = d.toNat := rfl
  rw [ownCloseShift, mode, digit, refuses]

theorem closeShift_replies {tag m d : Byte} {sh : Shift} (h : Handling ⟨0x61, tag, [m, d]⟩ s)
    (accepts : s.closeRefusal m.toNat d.toNat = none) (opened : s.tot.opened = some sh) :
    Replies (.closeShift tag [m, d]) ⟨0x61, tag, [m, d]⟩ .ok
      (fun _ => leBytes 2 sh.seq ++ [byteOf sh.inTable, flagByte (decide (sh.inTable = 0))] ++
        leBytes 2 (if m.toNat = 1 then s.nextShiftSeq else 0)) s
      (closeShift (decide (m.toNat = 1)) d.toNat sh s) := by
  have mode : byteAt [m, d] 0 = m.toNat := rfl
  have digit : byteAt [m, d] 1 = d.toNat := rfl
  rw [Replies, exec_handling (c := .closeShift tag [m, d]) h rfl rfl, ownCloseShift, mode, digit, accepts, opened]
  dsimp only
  rw [giveReply_okay]
  simp only [decide_eq_true_eq]

end Sys2Proof.Machine

namespace Sys2Proof.Requests

open Sys2Proof.Machine

/-- The reference, the line and the heads after a shift has moved on are those before. -/
theorem moved_line {s v : State} (frame : SameBut { lp := true, tot := true, nv := true } s v) :
    v.lc = s.lc ∧ v.sru = s.sru ∧ v.hd = s.hd ∧ v.tableCount = s.tableCount :=
  ⟨kept_lc frame rfl rfl, kept_sru frame rfl rfl, kept_hd frame rfl, tableCount_of_trk (kept_trk frame rfl)⟩

/-- What DRAIN does to the line that a shift's end has left. -/
theorem drains_taken {s v : State} (lc : v.lc = s.lc) (sru : v.sru = s.sru) (hd : v.hd = s.hd)
    (count : v.tableCount = s.tableCount) : let u := drainForClose v
    (s.lc.state = .running ∨ (s.lc.state = .starting ∧ s.tableCount ≠ 0) →
      u.lc = { s.lc with state := .draining, cause := .shiftClose, startLimit := none, silence := none } ∧
        u.flag .lineState = true ∧ u.sru = s.sru ∧ u.hd = s.hd) ∧
    (s.lc.state = .starting → s.tableCount = 0 →
      u.lc.state = .ready ∧ u.lc.cause = .shiftClose ∧ u.lc.startLimit = none ∧ u.sru.state = .idle ∧
        u.flag .lineState = true ∧ ∀ l, LaneAtRest (s.lane l) (u.lane l)) ∧
    (s.lc.state ≠ .running → s.lc.state ≠ .starting → u.lc = s.lc ∧ u.sru = s.sru ∧ u.hd = s.hd) := by
  intro u
  refine ⟨fun moving => ?_, fun starting empty => ?_, fun running starting => ?_⟩
  · have drains : u = enterDraining .shiftClose v := drainForClose_drains (by rwa [lc, count])
    rw [drains, ← lc, ← sru, ← hd]
    exact ⟨rfl, enterDraining_flag .shiftClose v, rfl, rfl⟩
  · have readies : u = enterReady .shiftClose v := drainForClose_readies (by rwa [lc]) (by rwa [count])
    obtain ⟨-, state, cause, limit, -, -, idle, raised, rest⟩ := enterReady_taken .shiftClose v
    rw [readies]
    refine ⟨state, cause, limit, idle, raised, fun l => ?_⟩
    rw [← lane_of_hd hd l]
    exact (rest l).1
  · have still : u = v := drainForClose_still (by rwa [lc]) (by rwa [lc])
    rw [still]
    exact ⟨lc, sru, hd⟩

/-- Settles O60: the refusals in their order; the shift moved on, and DRAIN's request over the line it finds. -/
theorem closeShift : Obligations.CloseShift := by
  intro s tag m d h no okDigit okForm
  refine ⟨fun bad => closeShift_refused h (closeRefusal_badField bad), fun ok none => ?_, fun ok opened busy => ?_,
    fun ok opened free rolls clock => ?_, fun sh ok opened free clock => ?_⟩
  · exact closeShift_refused h ((closeRefusal_good ok).trans (if_pos (by rw [none]; rfl)))
  · refine closeShift_refused h ((closeRefusal_good ok).trans ?_)
    rw [if_neg (by simpa using opened), if_pos (by simpa [Option.isSome_iff_ne_none] using busy)]
  · refine closeShift_refused h ((closeRefusal_good ok).trans ?_)
    rw [if_neg (by simpa using opened), if_neg (by rw [free]; exact nofun), if_pos ⟨rolls, clock⟩]
  · have accepts : s.closeRefusal m.toNat d.toNat = none := by
      refine (closeRefusal_good ok).trans ?_
      rw [if_neg (by rw [opened]; exact nofun), if_neg (by rw [free]; exact nofun), if_neg]
      rintro ⟨rolls, invalid⟩
      rw [clock rolls] at invalid
      exact nomatch invalid
    have replies := closeShift_replies h accepts opened
    rw [closeShift_moves] at replies
    obtain ⟨closing, closed, opens, nv, flag⟩ := shiftMoved_tot (decide (m.toNat = 1)) d.toNat sh s
    have frame := shiftMoved_keeps (decide (m.toNat = 1)) d.toNat sh s
    generalize shiftMoved (decide (m.toNat = 1)) d.toNat sh s = v at *
    obtain ⟨lc, sru, hd, count⟩ := moved_line frame
    by_cases rolls : m.toNat = 1
    · rw [decide_eq_true rolls] at replies opens nv
      have drains : m.toNat ≠ 0 := by omega
      refine ⟨v, replies, frame.widen fun _ => rfl, kept_trk frame rfl, kept_pst frame rfl rfl, kept_bag frame rfl,
        kept_tie frame rfl, kept_crm frame rfl, closing, closed, flag, fun z => absurd z drains, fun z => absurd z drains,
        fun z => absurd z drains, fun z => absurd z drains, fun _ => ⟨lc, sru, hd, _, opens, rfl, rfl, rfl, rfl, ?_⟩⟩
      rw [nv]
      rfl
    · rw [decide_eq_false rolls] at replies opens nv
      have keep := drainForClose_keeps v
      have full : SameBut { lp := true, sru := true, lc := true, hd := true, tot := true, nv := true } s (drainForClose v) :=
        (keep.widen fun _ => rfl).trans (frame.widen fun _ => rfl)
      have tot : (drainForClose v).tot = v.tot := kept_tot keep rfl
      have cell : (drainForClose v).nv = v.nv := kept_nv keep rfl
      refine ⟨drainForClose v, replies, full, kept_trk full rfl, kept_pst full rfl rfl, kept_bag full rfl, kept_tie full rfl,
        kept_crm full rfl, by rw [tot]; exact closing, by rw [tot]; exact closed,
        fun empty => (drainForClose_lasts v).flags _ (flag empty), fun _ => ⟨by rw [tot]; exact opens, cell.trans nv⟩,
        fun _ moving => ?_, fun _ starting empty => ?_, fun _ running starting => ?_, fun z => absurd z rolls⟩
      · exact (drains_taken lc sru hd count).1 moving
      · exact (drains_taken lc sru hd count).2.1 starting empty
      · exact (drains_taken lc sru hd count).2.2 running starting

end Sys2Proof.Requests
end

section
/-! PROOFS. SRU's selection (R13, R14, R19 to R22), and SET_REFERENCE (R15). -/

namespace Sys2Proof.Machine

variable {s t u : State}

/-! ### The source that R13 chooses -/

theorem choose_chosen (x : Sru) :
    SourceChosen x.settings x.selected x.w.mon.qualified x.m.mon.qualified x.choose := by
  unfold SourceChosen Sru.choose
  refine ⟨fun fixed => ?_, fun auto => ?_⟩
  · simp only [fixed]
    cases x.settings.fixedSource <;> rfl
  · simp only [auto]
    refine ⟨fun ⟨keeps, selected, qualified⟩ => by simp [keeps, selected, qualified], fun leaves => ?_⟩
    have passes : (!x.settings.revertive && decide (x.selected = .encoder .m) && x.m.mon.qualified) = false := by
      rw [← Bool.not_eq_true]
      simpa [and_assoc] using leaves
    rw [passes]
    exact ⟨fun w => by simp [w], fun w m => by simp [w, m], fun w m => by simp [w, m]⟩

/-! ### A change of the reference (R24) -/

theorem setReferenceState_sru (st : RefState) (src : Source) (s : State) : ∃ e p, (setReferenceState st src s).sru =
    { s.sru with state := st, selected := src, estimate := e, pacerSpeed := p } := ⟨_, _, rfl⟩

theorem setReferenceState_lc (st : RefState) (src : Source) (s : State) : (setReferenceState st src s).lc = { s.lc with
    held := (if s.sru.state = st then s.lc.held else if st = .holdover then some s.lc.demand else none) } := by
  have lc : (setReferenceState st src s).lc = { s.lc with
      held := if decide (s.sru.state ≠ st) then (if st = .holdover then some s.lc.demand else none) else s.lc.held } := rfl
  rw [lc]
  by_cases same : s.sru.state = st
  · rw [if_neg (by simpa using same), if_pos same]
  · rw [if_pos (by simpa using same), if_neg same]

theorem setReferenceState_keeps (st : RefState) (src : Source) (s : State) :
    SameBut { lp := true, sru := true, lc := true } s (setReferenceState st src s) := by simp [SameBut]

theorem setReferenceState_flag (st : RefState) (src : Source) (s : State) :
    (setReferenceState st src s).flag .refState = true := by simp [setReferenceState]

/-- A change of the reference state, the source or the holdover timer, and what follows it at once. -/
structure Referred (st : RefState) (src : Source) (holdover : Timer) (frozen : Nat) (held : Option Nat) (s u : State) : Prop where
  sru : ∃ e p, u.sru = { s.sru with
    state := st, selected := src, holdover := holdover, frozen := frozen, estimate := e, pacerSpeed := p }
  lc : u.lc = { s.lc with held := held }
  flag : u.flag .refState = true

/-- A switch to an encoder source (R14). -/
theorem switchTo_referred (y : LineSource) (s : State) :
    Referred .track (.encoder y) none s.sru.frozen (if s.sru.state = .track then s.lc.held else none) s (switchTo y s) ∧
      SameBut { lp := true, sru := true, lc := true, trk := true } s (switchTo y s) ∧
      (if s.sru.settings.hitless = true ∧ s.flag .slip = false then (switchTo y s).trk = s.trk
        else SuspectMarked s (switchTo y s)) := by
  have taken : ∀ v : State, v.sru = s.sru → v.lc = s.lc →
      Referred .track (.encoder y) none s.sru.frozen (if s.sru.state = .track then s.lc.held else none) s
        (setReferenceState .track (.encoder y) (v.onSru fun x => { x with holdover := none })) := fun v sru lc => by
    refine ⟨?_, ?_, setReferenceState_flag _ _ _⟩
    · rw [← sru]
      exact setReferenceState_sru _ _ _
    · rw [setReferenceState_lc]
      simp [lc, sru]
  refine ⟨?_, by simp [SameBut], ?_⟩
  · by_cases quiet : s.sru.settings.hitless = true ∧ s.flag .slip = false
    · have same : switchTo y s = setReferenceState .track (.encoder y) (s.onSru fun x => { x with holdover := none }) := by
        unfold switchTo
        rw [if_pos quiet]
      rw [same]
      exact taken s rfl rfl
    · have same : switchTo y s =
          setReferenceState .track (.encoder y) ((markSuspect s).onSru fun x => { x with holdover := none }) := by
        unfold switchTo
        rw [if_neg quiet]
      rw [same]
      exact taken (markSuspect s) rfl rfl
  · unfold switchTo
    by_cases quiet : s.sru.settings.hitless = true ∧ s.flag .slip = false
    · rw [if_pos quiet, if_pos quiet]
      rfl
    · rw [if_neg quiet, if_neg quiet]
      exact (markSuspect_marked s).of_trk rfl

/-! ### A loss of track (R19 to R22) -/

theorem countLoss_counted (s : State) : LossCounted s (countLoss s) ∧ SameBut { tot := true, nv := true } s (countLoss s) :=
  ⟨⟨kept_nv (lineEvent_without (b := { tot := true }) _ _ rfl) rfl, lineEvent_counted _ _⟩, by simp [SameBut, countLoss]⟩

theorem LossCounted.congr (h : LossCounted s t) (nv : u.nv = t.nv) (tot : u.tot = t.tot) : LossCounted s u := by
  obtain ⟨cell, counted⟩ := h
  exact ⟨nv.trans cell, counted.of_tot rfl tot⟩

theorem lossOfTrack_crawls (est : Nat) (track : s.sru.state = .track) (limit : s.set.holdoverMs = 0) :
    Referred .crawl .pacer none s.sru.frozen none s (lossOfTrack est s) ∧ SuspectMarked s (lossOfTrack est s) ∧
      LossCounted s (lossOfTrack est s) := by
  obtain ⟨counted, frame⟩ := countLoss_counted s
  rw [lossOfTrack, if_pos limit, enterCrawl]
  have sru := kept_sru frame rfl rfl
  have lc := kept_lc frame rfl rfl
  have trk := kept_trk frame rfl
  generalize countLoss s = v at *
  have keep := setReferenceState_keeps .crawl .pacer ((markSuspect v).onSru fun x => { x with holdover := none })
  refine ⟨⟨?_, ?_, setReferenceState_flag _ _ _⟩, ?_, counted.congr ((kept_nv keep rfl).trans rfl) ((kept_tot keep rfl).trans rfl)⟩
  · rw [← sru]
    exact setReferenceState_sru _ _ _
  · rw [setReferenceState_lc]
    have mlc : (markSuspect v).lc = s.lc := lc
    have msru : (markSuspect v).sru = s.sru := sru
    simp [mlc, msru, track]
  · have marked := (markSuspect_marked v).of_trk (kept_trk keep rfl)
    unfold SuspectMarked State.queue at marked ⊢
    rwa [trk] at marked

theorem lossOfTrack_holds (est : Nat) (track : s.sru.state = .track) (limit : s.set.holdoverMs ≠ 0) :
    Referred .holdover .pacer (some s.set.holdoverMs) est (some s.lc.demand) s (lossOfTrack est s) ∧
      (lossOfTrack est s).trk = s.trk ∧ LossCounted s (lossOfTrack est s) := by
  obtain ⟨counted, frame⟩ := countLoss_counted s
  rw [lossOfTrack, if_neg limit, enterHoldover]
  have sru := kept_sru frame rfl rfl
  have lc := kept_lc frame rfl rfl
  have trk := kept_trk frame rfl
  have set : (countLoss s).set = s.set := congrArg Pst.settings (kept_pst frame rfl rfl)
  generalize countLoss s = v at *
  have keep := setReferenceState_keeps .holdover .pacer (v.onSru fun x =>
    { x with frozen := est, holdover := some v.set.holdoverMs })
  refine ⟨⟨?_, ?_, setReferenceState_flag _ _ _⟩, (kept_trk keep rfl).trans trk, counted.congr ((kept_nv keep rfl).trans rfl) ((kept_tot keep rfl).trans rfl)⟩
  · rw [← sru, ← set]
    exact setReferenceState_sru _ _ _
  · rw [setReferenceState_lc]
    simp [lc, sru, track]

/-! ### SRU evaluates its selection (R13) -/

theorem evaluateSelection_keeps {est : Nat} (kept : s.sru.state = .idle ∨ (∃ y, s.sru.choose = some y ∧ s.sru.selected = .encoder y) ∨
    (s.sru.choose = none ∧ s.sru.state ≠ .track)) : evaluateSelection est s = s := by
  unfold evaluateSelection
  split
  · rfl
  · next moving =>
    rcases kept with idle | ⟨y, chosen, selected⟩ | ⟨none, other⟩
    · exact absurd idle moving
    · rw [chosen]
      exact if_pos selected
    · rw [none]
      exact if_neg other

theorem evaluateSelection_switches {est : Nat} {y : LineSource} (moving : s.sru.state ≠ .idle) (chosen : s.sru.choose = some y)
    (other : s.sru.selected ≠ .encoder y) : evaluateSelection est s = switchTo y s := by
  unfold evaluateSelection
  split
  · next idle => exact absurd idle moving
  · rw [chosen]
    exact if_neg other

theorem evaluateSelection_loses {est : Nat} (track : s.sru.state = .track) (none : s.sru.choose = none) :
    evaluateSelection est s = lossOfTrack est s := by
  unfold evaluateSelection
  split
  · next idle => exact nomatch track.symm.trans idle
  · rw [none]
    exact if_pos track

/-- What a selection makes of the reference: nothing, a switch, or a loss of track. -/
theorem evaluateSelection_settings (est : Nat) (s : State) : (evaluateSelection est s).sru.settings = s.sru.settings := by
  have referred : ∀ {st src holdover frozen held u}, Referred st src holdover frozen held s u → u.sru.settings = s.sru.settings :=
    fun h => by
      obtain ⟨e, p, sru⟩ := h.sru
      rw [sru]
  by_cases kept : s.sru.state = .idle ∨ (∃ y, s.sru.choose = some y ∧ s.sru.selected = .encoder y) ∨
      (s.sru.choose = none ∧ s.sru.state ≠ .track)
  · rw [evaluateSelection_keeps kept]
  · simp only [not_or, not_exists, not_and, not_not] at kept
    obtain ⟨moving, other, loses⟩ := kept
    cases choice : s.sru.choose with
    | some y =>
      rw [evaluateSelection_switches moving choice (other y choice)]
      exact referred (switchTo_referred y s).1
    | none =>
      rw [evaluateSelection_loses (loses choice) choice]
      by_cases limit : s.set.holdoverMs = 0
      · exact referred (lossOfTrack_crawls est (loses choice) limit).1
      · exact referred (lossOfTrack_holds est (loses choice) limit).1

/-! ### SET_REFERENCE (R15) -/

/-- The reference settings put in force, before the selection is made anew. -/
def referenceSet (x : RefSettings) (s : State) : State := s.onSru fun r => { r with settings := x }

theorem byte_le_one (a : Byte) : a.toNat ≤ 1 ↔ a = 0 ∨ a = 1 := by
  revert a
  decide

theorem parseReference_iff (a b c d : Byte) : parseReference [a, b, c, d] =
    if a.toNat ≤ 1 ∧ b.toNat ≤ 1 ∧ c.toNat ≤ 1 ∧ d.toNat ≤ 1 then
      some ⟨if a = 0 then .auto else .fixed, if b = 0 then .w else .m, c = 1, d = 1⟩
    else none := by
  have read : ∀ x : Byte, asFlag x.toNat = if x.toNat ≤ 1 then some (decide (x = 1)) else none := by decide
  have other : ∀ x : Byte, x.toNat ≤ 1 → (decide (x = 1) = true ↔ ¬x = 0) := by decide
  have parsed : parseReference [a, b, c, d] = (asFlag a.toNat).bind fun fixed => (asFlag b.toNat).bind fun source =>
      (asFlag c.toNat).bind fun revertive => (asFlag d.toNat).bind fun hitless =>
        some ⟨if fixed then .fixed else .auto, if source then .m else .w, revertive, hitless⟩ := rfl
  rw [parsed, read, read, read, read]
  by_cases ha : a.toNat ≤ 1
  · by_cases hb : b.toNat ≤ 1
    · by_cases hc : c.toNat ≤ 1
      · by_cases hd : d.toNat ≤ 1
        · simp only [ha, hb, hc, hd, if_true, Option.bind_some, other a ha, other b hb, ite_not, and_self]
        · simp [ha, hb, hc, hd]
      · simp [ha, hb, hc]
    · simp [ha, hb]
  · simp [ha]

/-- The choice of R13 with the settings just put in force. -/
theorem referenceSet_chosen (x : RefSettings) (s : State) :
    SourceChosen x s.sru.selected s.sru.w.mon.qualified s.sru.m.mon.qualified (referenceSet x s).sru.choose :=
  choose_chosen (referenceSet x s).sru

theorem setReference_replies {tag a b c d : Byte} {x : RefSettings} (h : Handling ⟨0x26, tag, [a, b, c, d]⟩ s)
    (parsed : parseReference [a, b, c, d] = some x) :
    Replies (.setReference tag [a, b, c, d]) ⟨0x26, tag, [a, b, c, d]⟩ .ok (fun _ => []) s
      (evaluateSelection s.sru.estimate (referenceSet x s)) := by
  rw [Replies, exec_handling (c := .setReference tag [a, b, c, d]) h rfl rfl, ownSetReference, parsed]
  dsimp only
  rw [giveReply_okay, referenceSet]

end Sys2Proof.Machine

namespace Sys2Proof.Requests

open Sys2Proof.Machine

/-- Settles O42: the settings put in force, and then SRU's selection over them. -/
theorem setReference : Obligations.SetReference := by
  intro s tag a b c d h ok x cmd r wq mq chosen
  refine ⟨fun bad => ?_, fun good => ?_⟩
  · refine refused_of_owner (owner := ownSetReference) (len := 4) rfl rfl ?_ h
    rw [ownSetReference, parseReference_iff, if_neg bad]
  · have parsed : parseReference [a, b, c, d] = some x := (parseReference_iff a b c d).trans (if_pos good)
    have replies := setReference_replies h parsed
    obtain ⟨fixed, auto⟩ := referenceSet_chosen x s
    clear_value x
    refine ⟨(referenceSet x s).sru.choose, _, ⟨fun mode => ?_, fun mode => ?_⟩, replies, evaluateSelection_settings _ _,
      fun kept => evaluateSelection_keeps kept, fun y moving given other => ?_, fun track none => ?_⟩
    · rw [fixed mode]
      cases x.fixedSource <;> rfl
    · obtain ⟨keeps, leaves⟩ := auto mode
      refine ⟨keeps, fun left => ?_⟩
      obtain ⟨w, m, neither⟩ := leaves left
      exact ⟨w, fun w' => m (Bool.eq_false_iff.2 w'), fun w' m' => neither (Bool.eq_false_iff.2 w') (Bool.eq_false_iff.2 m')⟩
    · rw [evaluateSelection_switches (s := referenceSet x s) moving given other]
      obtain ⟨⟨⟨e, p, sru⟩, lc, flag⟩, frame, suspects⟩ := switchTo_referred y (referenceSet x s)
      have set : SameBut { sru := true } s (referenceSet x s) := by simp [SameBut, referenceSet]
      exact ⟨frame.trans (set.widen fun _ => rfl), by rw [sru], by rw [sru], by rw [sru], lc, flag, suspects⟩
    · rw [evaluateSelection_loses (s := referenceSet x s) track none]
      have set : SameBut { sru := true } s (referenceSet x s) := by simp [SameBut, referenceSet]
      have frame : SameBut { lp := true, sru := true, lc := true, trk := true, tot := true, nv := true } (referenceSet x s)
          (lossOfTrack s.sru.estimate (referenceSet x s)) := by simp [SameBut]
      by_cases limit : s.set.holdoverMs = 0
      · obtain ⟨⟨⟨e, p, sru⟩, lc, flag⟩, marked, counted⟩ :=
          lossOfTrack_crawls (s := referenceSet x s) s.sru.estimate track limit
        exact ⟨frame.trans (set.widen fun _ => rfl), counted, by rw [sru], flag, by rw [lc, if_pos limit]; rfl,
          fun other => absurd limit other, fun _ => ⟨by rw [sru], by rw [sru], marked⟩⟩
      · obtain ⟨⟨⟨e, p, sru⟩, lc, flag⟩, trk, counted⟩ :=
          lossOfTrack_holds (s := referenceSet x s) s.sru.estimate track limit
        exact ⟨frame.trans (set.widen fun _ => rfl), counted, by rw [sru], flag, by rw [lc, if_neg limit]; rfl,
          fun _ => ⟨by rw [sru], by rw [sru], by rw [sru]; rfl, trk⟩, fun zero => absurd zero limit⟩

end Sys2Proof.Requests
end

section
/-! PROOFS. CLEAR_TRACK: the table cleared record by record (R51, R153, R155). -/

namespace Sys2Proof.Machine

variable {s t u : State}

/-! ### The totals of a cleared table -/

/-- A shift when some records have retired CLEARED, each in the shift of its tag. -/
def clearedIn (rs : List Rec) (sh : Shift) : Shift :=
  rs.foldl (fun sh r => if r.tag = sh.seq then sh.retire r .cleared else sh) sh

/-- The totals when some records have retired CLEARED. -/
def clearedTot (rs : List Rec) (t : Tot) : Tot :=
  rs.foldl (fun t r => (onTagged r.tag (·.retire r .cleared) t).settle) t

theorem clearedIn_cons (r : Rec) (rs : List Rec) (sh : Shift) :
    clearedIn (r :: rs) sh = clearedIn rs (if r.tag = sh.seq then sh.retire r .cleared else sh) := rfl

theorem clearedTot_cons (r : Rec) (rs : List Rec) (t : Tot) :
    clearedTot (r :: rs) t = clearedTot rs (onTagged r.tag (·.retire r .cleared) t).settle := rfl

/-- What some records' retirements make of a shift's counts. -/
def Cleared (rs : List Rec) (sh sh' : Shift) : Prop :=
  sh'.seq = sh.seq ∧ sh'.closeTime = sh.closeTime ∧
    sh'.inTable = sh.inTable - (rs.filter fun r => r.tag == sh.seq).length ∧
    ∀ l : Lane, let n := (rs.filter fun r => r.tag == sh.seq && r.lane == l).length
      sh'.perLane[l].admitted = sh.perLane[l].admitted ∧
        (sh.perLane[l].cleared ≤ 4294967295 → sh'.perLane[l].cleared = min 4294967295 (sh.perLane[l].cleared + n))

theorem Counts.cleared_retire (c : Counts) (sliced thick : Bool) :
    (c.retire .cleared sliced thick).cleared = min 4294967295 (c.cleared + 1) := by
  unfold Counts.retire
  dsimp only
  cases sliced <;> cases thick <;> rfl

theorem clearedIn_cleared (rs : List Rec) (sh : Shift) : Cleared rs sh (clearedIn rs sh) := by
  induction rs generalizing sh with
  | nil => exact ⟨rfl, rfl, rfl, fun l => ⟨rfl, fun few => (min_eq_right few).symm⟩⟩
  | cons r rs ih =>
    rw [clearedIn_cons]
    by_cases tag : r.tag = sh.seq
    · rw [if_pos tag]
      obtain ⟨seq, closeTime, inTable, each⟩ := ih (sh.retire r .cleared)
      have taken : (sh.retire r .cleared).inTable = sh.inTable - 1 := rfl
      rw [Shift.retire_seq] at inTable each seq
      refine ⟨seq, closeTime, ?_, fun l => ?_⟩
      · rw [inTable, taken, List.filter_cons_of_pos (by simp [tag]), List.length_cons]
        omega
      · obtain ⟨sliced, thick, lanes⟩ := Shift.retire_perLane sh r .cleared
        obtain ⟨admitted, cleared⟩ := each l
        rw [lanes] at admitted cleared
        by_cases lane : l = r.lane
        · subst lane
          rw [if_pos rfl] at admitted cleared
          rw [List.filter_cons_of_pos (by simp [tag]), List.length_cons]
          refine ⟨admitted.trans (Counts.admitted_retire ..), fun few => ?_⟩
          rw [Counts.cleared_retire] at cleared
          rw [cleared (min_le_left _ _)]
          omega
        · rw [if_neg lane] at admitted cleared
          rw [List.filter_cons_of_neg (by simp [Ne.symm lane])]
          exact ⟨admitted, cleared⟩
    · rw [if_neg tag]
      obtain ⟨seq, closeTime, inTable, each⟩ := ih sh
      refine ⟨seq, closeTime, ?_, fun l => ?_⟩
      · rw [List.filter_cons_of_neg (by simp [tag])]
        exact inTable
      · rw [List.filter_cons_of_neg (by simp [tag])]
        exact each l

theorem clearedIn_untagged {rs : List Rec} {sh : Shift} (none : (rs.filter fun r => r.tag == sh.seq).length = 0) :
    clearedIn rs sh = sh := by
  induction rs with
  | nil => rfl
  | cons r rs ih =>
    by_cases tag : r.tag = sh.seq
    · rw [List.filter_cons_of_pos (by simp [tag])] at none
      exact nomatch none
    · rw [List.filter_cons_of_neg (by simp [tag])] at none
      rw [clearedIn_cons, if_neg tag, ih none]

theorem Tot.settle_opened (t : Tot) : t.settle.opened = t.opened := by
  unfold Tot.settle
  (repeat' split) <;> rfl

theorem onTagged_opened (r : Rec) (t : Tot) : (onTagged r.tag (·.retire r .cleared) t).opened =
    t.opened.map fun sh => if r.tag = sh.seq then sh.retire r .cleared else sh := by
  by_cases held : holdsSeq t.opened r.tag = true
  · obtain ⟨o, opened, tag⟩ := (holdsSeq_iff _ _).1 held
    rw [onTagged, if_pos held]
    simp [opened, tag]
  · have left : (onTagged r.tag (·.retire r .cleared) t).opened = t.opened := by
      rw [onTagged, if_neg held]
      split <;> rfl
    rw [left]
    cases opened : t.opened with
    | none => rfl
    | some o =>
      have other : r.tag ≠ o.seq := fun tag => held ((holdsSeq_iff _ _).2 ⟨o, opened, tag.symm⟩)
      rw [Option.map_some, if_neg other]

theorem clearedTot_opened (rs : List Rec) (t : Tot) : (clearedTot rs t).opened = t.opened.map (clearedIn rs) := by
  induction rs generalizing t with
  | nil => cases opened : t.opened <;> simp [clearedTot, clearedIn, opened]
  | cons r rs ih =>
    rw [clearedTot_cons, ih, Tot.settle_opened, onTagged_opened, Option.map_map]
    rfl

theorem clearedTot_unclosing {rs : List Rec} {t : Tot} (unclosing : t.closing = none) :
    (clearedTot rs t).closing = none ∧ (clearedTot rs t).closed = t.closed := by
  induction rs generalizing t with
  | nil => exact ⟨unclosing, rfl⟩
  | cons r rs ih =>
    have tagged : (onTagged r.tag (·.retire r .cleared) t).closing = .none ∧
        (onTagged r.tag (·.retire r .cleared) t).closed = t.closed := by
      unfold onTagged
      (repeat' split) <;> simp [unclosing]
    have settled : (onTagged r.tag (·.retire r .cleared) t).settle = onTagged r.tag (·.retire r .cleared) t := by
      unfold Tot.settle
      rw [tagged.1]
    rw [clearedTot_cons, settled]
    obtain ⟨closing, closed⟩ := ih tagged.1
    exact ⟨closing, closed.trans tagged.2⟩

/-- A CLOSING shift whose records all retire is CLOSED. -/
theorem clearedTot_closing {rs : List Rec} {t : Tot} {sh : Shift} (closing : t.closing = some sh)
    (differ : ∀ o, t.opened = some o → o.seq ≠ sh.seq) (waits : sh.inTable ≠ 0)
    (count : sh.inTable = (rs.filter fun r => r.tag == sh.seq).length) :
    (clearedTot rs t).closing = none ∧ (clearedTot rs t).closed = some (clearedIn rs sh) := by
  induction rs generalizing t sh with
  | nil => exact absurd count waits
  | cons r rs ih =>
    rw [clearedTot_cons, clearedIn_cons]
    have opened' : ∀ o, (onTagged r.tag (·.retire r .cleared) t).opened = some o → o.seq ≠ sh.seq := fun o found => by
      rw [onTagged_opened] at found
      obtain ⟨x, held, rfl⟩ := Option.map_eq_some_iff.1 found
      split
      · exact differ x held
      · exact differ x held
    by_cases tag : r.tag = sh.seq
    · have unheld : ¬holdsSeq t.opened r.tag = true := by
        rw [holdsSeq_iff]
        rintro ⟨o, held, same⟩
        exact differ o held (same.trans tag)
      have held : holdsSeq t.closing r.tag = true := (holdsSeq_iff _ _).2 ⟨sh, closing, tag.symm⟩
      have next : (onTagged r.tag (·.retire r .cleared) t).closing = some (sh.retire r .cleared) := by
        rw [onTagged, if_neg unheld, if_pos held]
        simp [closing]
      rw [List.filter_cons_of_pos (by simp [tag]), List.length_cons] at count
      have left : (sh.retire r .cleared).inTable = (rs.filter fun r => r.tag == sh.seq).length := by
        show sh.inTable - 1 = _
        omega
      rw [if_pos tag]
      by_cases last : (sh.retire r .cleared).inTable = 0
      · have settled : (onTagged r.tag (·.retire r .cleared) t).settle =
            { onTagged r.tag (·.retire r .cleared) t with closing := none, closed := some (sh.retire r .cleared) } := by
          rw [Tot.settle, next]
          exact if_pos last
        rw [settled, clearedIn_untagged (sh := sh.retire r .cleared) (left.symm.trans last)]
        exact clearedTot_unclosing rfl
      · have settled : (onTagged r.tag (·.retire r .cleared) t).settle = onTagged r.tag (·.retire r .cleared) t := by
          rw [Tot.settle, next]
          exact if_neg last
        rw [settled]
        exact ih next opened' last left
    · have unheld : ¬holdsSeq t.closing r.tag = true := by
        rw [holdsSeq_iff, closing]
        rintro ⟨o, held, same⟩
        obtain rfl := Option.some.inj held
        exact tag same.symm
      have next : (onTagged r.tag (·.retire r .cleared) t).closing = some sh := by
        rw [onTagged, if_neg unheld]
        split <;> exact closing
      rw [List.filter_cons_of_neg (by simp [tag])] at count
      have settled : (onTagged r.tag (·.retire r .cleared) t).settle = onTagged r.tag (·.retire r .cleared) t := by
        rw [Tot.settle, next]
        exact if_neg waits
      rw [if_neg tag, settled]
      exact ih next opened' waits count

/-! ### The table cleared -/

/-- Records retired CLEARED one after another. -/
def retireAll (rs : List Rec) (s : State) : State := rs.foldl (fun s r => retire r .cleared s) s

theorem retireAll_cons (r : Rec) (rs : List Rec) (s : State) : retireAll (r :: rs) s = retireAll rs (retire r .cleared s) := rfl

theorem clearTable_eq (s : State) : clearTable s = ((retireAll s.clearOrder s).onArb fun a =>
    { a with
      flight := none, spacing := none, bypass := Vector.replicate 4 0
      pushers := Vector.replicate 4 false }).onTrk fun t =>
    { t with rejectGate := .pass } := rfl

/-- An act keeps every flag that is set. -/
theorem flag_act {sure : Prop} {k : Kind} (s t : State) (act : Act sure s t) (set : s.flag k = true) : t.flag k = true := by
  cases act with
  | raise j x =>
    rw [raise_flag, set]
    rfl
  | gates => exact evaluateGates_flag set
  | retire r d held => rwa [State.flag, kept_lp (retireQuiet_keeps r d s) rfl rfl]
  | _ => exact set

theorem retire_flag (r : Rec) (d : Disposition) {k : Kind} (set : s.flag k = true) : (retire r d s).flag k = true :=
  (retire_acts (sure := False) (d := d) s nofun).keeps flag_act set

theorem retireAll_flag (rs : List Rec) {k : Kind} (set : s.flag k = true) : (retireAll rs s).flag k = true := by
  induction rs generalizing s with
  | nil => exact set
  | cons r rs ih => exact ih (retire_flag r .cleared set)

theorem retire_tot (r : Rec) (d : Disposition) (s : State) : (retire r d s).tot = (onTagged r.tag (·.retire r d) s.tot).settle := by
  obtain ⟨⟨-, tot, -⟩, -⟩ := retire_as r d s
  exact tot

theorem retireAll_tot (rs : List Rec) (s : State) : (retireAll rs s).tot = clearedTot rs s.tot := by
  induction rs generalizing s with
  | nil => rfl
  | cons r rs ih => rw [retireAll_cons, ih, retire_tot, clearedTot_cons]

theorem settle_closes {t : Tot} {sh : Shift} (closing : t.closing = some sh) (empty : t.settle.closing = none) :
    ∃ x, t.settle.closed = some x := by
  unfold Tot.settle at empty ⊢
  rw [closing] at empty ⊢
  dsimp only at empty ⊢
  split
  · exact ⟨sh, rfl⟩
  · next waits =>
    rw [if_neg waits] at empty
    exact nomatch closing.symm.trans empty

theorem onTagged_closing {n : Nat} {f : Shift → Shift} {t : Tot} {sh : Shift} (closing : t.closing = some sh) :
    ∃ x, (onTagged n f t).closing = some x := by
  unfold onTagged
  (repeat' split) <;> simp [closing]

/-- A retirement that empties the CLOSING place raises SHIFT_CLOSED (R153). -/
theorem retire_closes {r : Rec} {d : Disposition} {sh : Shift} (closing : s.tot.closing = some sh)
    (empty : (retire r d s).tot.closing = none) : (retire r d s).flag .shiftClosed = true := by
  obtain ⟨x, tagged⟩ := onTagged_closing (n := r.tag) (f := (·.retire r d)) closing
  rw [retire_tot] at empty
  obtain ⟨y, closed⟩ := settle_closes tagged empty
  have tot : (retireQuiet r d s).tot = (onTagged r.tag (·.retire r d) s.tot).settle := (retireQuiet_as r d s).1.2.1
  have raised : (retireRec r d s).flag .shiftClosed = true := by
    unfold retireRec raiseIfClosed
    rw [closing, tot, empty, closed]
    simp
  exact (offTrialList_acts (sure := False) _ _ _).keeps flag_act raised

theorem retireAll_closes {rs : List Rec} {sh : Shift} (closing : s.tot.closing = some sh)
    (empty : (retireAll rs s).tot.closing = none) : (retireAll rs s).flag .shiftClosed = true := by
  induction rs generalizing s sh with
  | nil => exact nomatch closing.symm.trans empty
  | cons r rs ih =>
    rw [retireAll_cons] at empty ⊢
    cases after : (retire r .cleared s).tot.closing with
    | none => exact retireAll_flag rs (retire_closes closing after)
    | some x => exact ih after empty

theorem retire_arb (r : Rec) (d : Disposition) (s : State) : ∃ f p, (retire r d s).arb = { s.arb with flight := f, pushers := p } := by
  have outer : (retire r d s).without { lp := true, hd := true } = (retireQuiet r d s).without { lp := true, hd := true } := by
    simp [retire, retireRec]
  rw [kept_arb outer rfl, retireQuiet_endsFlight]
  unfold endFlightOf
  (repeat' split) <;> exact ⟨_, _, rfl⟩

/-- What the retirements of a cleared table leave alone. -/
structure AllRetired (s u : State) : Prop where
  frame : SameBut { lp := true, trk := true, hd := true, arb := true, tie := true, tot := true, refs := true } s u
  nextLoaf : u.trk.nextLoaf = s.trk.nextLoaf
  nextSeq : u.trk.nextSeq = s.trk.nextSeq
  heads : u.hd.heads = s.hd.heads
  arb : ∃ f p, u.arb = { s.arb with flight := f, pushers := p }

theorem AllRetired.trans (h : AllRetired s t) (k : AllRetired t u) : AllRetired s u where
  frame := k.frame.trans h.frame
  nextLoaf := k.nextLoaf.trans h.nextLoaf
  nextSeq := k.nextSeq.trans h.nextSeq
  heads := k.heads.trans h.heads
  arb := by
    obtain ⟨f, p, first⟩ := h.arb
    obtain ⟨g, q, second⟩ := k.arb
    exact ⟨g, q, by rw [second, first]⟩

theorem retireAll_retired (rs : List Rec) (s : State) : AllRetired s (retireAll rs s) := by
  induction rs generalizing s with
  | nil => exact ⟨rfl, rfl, rfl, rfl, _, _, rfl⟩
  | cons r rs ih =>
    have retires := retire_retires r .cleared s
    obtain ⟨trk, -⟩ := retires.record
    exact AllRetired.trans ⟨retires.frame, by rw [trk], by rw [trk], retires.heads, retire_arb r .cleared s⟩ (ih _)

/-- The counts of a shift when the whole table has retired. -/
theorem cleared_table (s : State) (sh : Shift) : Cleared s.records sh (clearedIn s.clearOrder sh) := by
  obtain ⟨seq, closeTime, inTable, each⟩ := clearedIn_cleared s.clearOrder sh
  have perm : ∀ p : Rec → Bool, (s.clearOrder.filter p).length = (s.records.filter p).length := fun p =>
    ((clearOrder_perm s).filter p).length_eq
  refine ⟨seq, closeTime, by rw [← perm]; exact inTable, fun l => ?_⟩
  rw [← perm]
  exact each l

/-- A CLOSING shift of a table whose accounts hold is CLOSED as the table is cleared. -/
theorem cleared_closing {sh : Shift} (accounts : AccountsHold s) (closing : s.tot.closing = some sh) :
    (retireAll s.clearOrder s).tot.closing = none ∧
      (retireAll s.clearOrder s).tot.closed = some (clearedIn s.clearOrder sh) ∧ (clearedIn s.clearOrder sh).inTable = 0 := by
  obtain ⟨-, -, -, waits, -, -, both⟩ := accounts
  obtain ⟨⟨count, -⟩, some_left⟩ := waits sh closing
  have counted : sh.inTable = (s.clearOrder.filter fun r => r.tag == sh.seq).length :=
    count.trans (((clearOrder_perm s).filter _).length_eq).symm
  have differ : ∀ o, s.tot.opened = some o → o.seq ≠ sh.seq := fun o opened => by
    rw [both sh o closing opened]
    exact nextSeqAfter_ne _
  obtain ⟨emptied, closed⟩ := clearedTot_closing closing differ some_left counted
  rw [retireAll_tot]
  refine ⟨emptied, closed, ?_⟩
  obtain ⟨-, -, inTable, -⟩ := clearedIn_cleared s.clearOrder sh
  rw [inTable, counted, Nat.sub_self]

end Sys2Proof.Machine

namespace Sys2Proof.Requests

open Sys2Proof.Machine

/-- Settles O27: the retirements in their order, the shifts' counts by their records, the arbiter's and the gate's first
values. -/
theorem clearTrack : Obligations.ClearTrack := by
  intro s tag h
  refine ⟨fun ready halted => ?_, fun still => ?_⟩
  · refine refused_of_owner (owner := ownClearTrack) (len := 0) rfl rfl ?_ h
    rw [ownClearTrack, if_neg fun still => still.elim ready halted]
  · have replies : Replies (.clearTrack tag []) ⟨0x23, tag, []⟩ .ok (fun _ => [byteOf s.tableCount]) s (clearTable s) := by
      rw [Replies, exec_handling (c := .clearTrack tag []) h rfl rfl, ownClearTrack, if_pos still]
      dsimp only
      rw [giveReply_okay]
    have retired := retireAll_retired s.clearOrder s
    obtain ⟨f, p, arb⟩ := retired.arb
    have empty : (retireAll s.clearOrder s).records = [] :=
      foldl_records (fun t r => retire_records t r _) _ s fun _ hr => (clearOrder_perm s).mem_iff.2 hr
    have tot := retireAll_tot s.clearOrder s
    rw [clearTable_eq] at replies
    refine ⟨_, replies, ?_, congrArg List.length empty, retired.nextLoaf, retired.nextSeq, rfl, retired.heads, ?_,
      fun sh opened => ⟨_, ?_, cleared_table s sh⟩, fun accounts sh closing => ?_⟩
    · have last : ∀ (v : State) (g : Arb → Arb) (k : Trk → Trk), SameBut { trk := true, arb := true } v ((v.onArb g).onTrk k) :=
        fun v g k => by simp [SameBut]
      exact ((last _ _ _).widen fun _ => rfl).trans retired.frame
    · show { (retireAll s.clearOrder s).arb with
        flight := none, spacing := none, bypass := Vector.replicate 4 0, pushers := Vector.replicate 4 false } = _
      rw [arb]
    · show (retireAll s.clearOrder s).tot.opened = _
      rw [tot, clearedTot_opened, opened]
      rfl
    · obtain ⟨emptied, closed, none⟩ := cleared_closing accounts closing
      exact ⟨emptied, retireAll_closes closing emptied, _, closed, none, cleared_table s sh⟩

end Sys2Proof.Requests
end

section
/-! PROOFS. The bag station and the tie station (R103, R104, R112 to R117). -/

namespace Sys2Proof.Machine

variable {s t u : State}

/-! ### The supplies' low notices (R106, R113) -/

theorem beginAttempt_quiet (loaf number : Nat) (high : ¬(s.set.bagsLow ≤ s.bag.supply ∧ s.bag.supply - 1 < s.set.bagsLow)) :
    (beginAttempt loaf number s).lp = s.lp := by
  unfold beginAttempt
  dsimp only
  have kept : ∀ f g, SameBut { tot := true } (s.onBag g) (lineEvent f (s.onBag g)) := fun f g => lineEvent_without _ f rfl
  have set : ∀ f g, (lineEvent f (s.onBag g)).set = s.set := fun f g => (kept_settings (kept f g) rfl).trans rfl
  have bag : ∀ f g, (lineEvent f (s.onBag g)).bag = g s.bag := fun f g => (kept_bag (kept f g) rfl).trans rfl
  have lp : ∀ f g, (lineEvent f (s.onBag g)).lp = s.lp := fun f g => (kept_lp (kept f g) rfl rfl).trans rfl
  rw [raiseBagsLow, set, bag]
  rw [if_neg high]
  exact lp _ _

/-! ### The printed codes (R115 to R117) -/

theorem twoDigits_of_lt {n : Nat} (small : n < 100) : twoDigits n = [byteOf (0x30 + n / 10), byteOf (0x30 + n % 10)] := by
  rw [twoDigits, Nat.mod_eq_of_lt (by omega : n / 10 < 10)]

theorem dayOfCode_codeText {day : Nat} (small : day < 100) (month letter digit : Nat) :
    dayOfCode (codeText day month letter digit) = day := by
  have tens : (byteOf (0x30 + day / 10)).toNat = 0x30 + day / 10 := by simp [byteOf]; omega
  have units : (byteOf (0x30 + day % 10)).toNat = 0x30 + day % 10 := by simp [byteOf]; omega
  have first : byteAt (codeText day month letter digit) 0 = 0x30 + day / 10 := by
    rw [codeText, twoDigits_of_lt small]
    exact tens
  have second : byteAt (codeText day month letter digit) 1 = 0x30 + day % 10 := by
    rw [codeText, twoDigits_of_lt small]
    exact units
  rw [dayOfCode, first, second]
  omega

theorem challengeCode_codeText {day : Nat} (small : day < 100) (month letter digit : Nat) :
    challengeCode (codeText day month letter digit) = codeText (challengeDay day) month letter digit := by
  rw [challengeCode, dayOfCode_codeText small]
  rfl

theorem challengeDay_lt (day : Nat) : challengeDay day < 100 := by
  unfold challengeDay
  omega

theorem codeText_eq {day month : Nat} (d : day < 100) (m : month < 100) (letter digit : Nat) :
    codeText day month letter digit = [byteOf (0x30 + day / 10), byteOf (0x30 + day % 10)] ++
      (0x20 :: [byteOf (0x30 + month / 10), byteOf (0x30 + month % 10)] ++
        [0x20, byteOf letter, byteOf (0x30 + digit)]) := by
  rw [codeText, twoDigits_of_lt d, twoDigits_of_lt m]
  rfl

/-- The digit of a tag is that of the shift whose sequence it is, the OPEN one before the CLOSING one (R157). -/
theorem digitOf_eq {t : Tot} {sh : Shift} {tag : Nat}
    (stands : t.opened = some sh ∨ ((∀ o, t.opened = some o → o.seq ≠ tag) ∧ t.closing = some sh)) (seq : sh.seq = tag) :
    t.digitOf tag = sh.digit := by
  unfold Tot.digitOf
  obtain opened | ⟨other, closing⟩ := stands
  · rw [opened]
    cases t.closing <;> simp [seq]
  · rw [closing]
    cases opened : t.opened with
    | none => simp [seq]
    | some o => simp [seq, other o opened]

theorem isDate_small {y m d n : Nat} (h : IsDate y m d n) : m < 100 ∧ d < 100 := by
  obtain ⟨-, -, month, -, day, -⟩ := h
  rw [← monthDays_eq] at day
  have longest : ∀ x ∈ monthDays y, x ≤ 31 := by
    intro x hx
    simp only [monthDays, List.mem_cons, List.not_mem_nil, or_false] at hx
    have february : (if leap y then 29 else 28) ≤ 31 := by split <;> omega
    omega
  have bound : (monthDays y).getD (m - 1) 0 ≤ 31 := by
    rw [List.getD_eq_getElem?_getD]
    cases found : (monthDays y)[m - 1]? with
    | none => exact Nat.zero_le _
    | some x => exact longest x (List.mem_of_getElem? found)
  omega

theorem strokeCode_codes (r : Rec) (clock : s.pst.clock ≤ Config.clockMax) (shelf : (s.profile r.slot).shelf ≤ 60) :
    CodesOf s r (s.strokeCode r) (challengeCode (s.strokeCode r)) := by
  intro sh stands seq
  have top : s.pst.clock ≤ 3155759999 := clock
  have date := dateOf_isDate (d := (s.pst.clock - s.set.dayBoundary * 60) / 86400 + (s.profile r.slot).shelf) (by omega)
  obtain ⟨m, d⟩ := isDate_small date
  have code : s.strokeCode r = codeText (dateOf ((s.pst.clock - s.set.dayBoundary * 60) / 86400 + (s.profile r.slot).shelf)).day
      (dateOf ((s.pst.clock - s.set.dayBoundary * 60) / 86400 + (s.profile r.slot).shelf)).month s.set.letter sh.digit := by
    rw [State.strokeCode, digitOf_eq stands seq]
    rfl
  refine ⟨_, _, _, date, ?_, ?_⟩
  · rw [code, codeText_eq d m]
  · rw [code, challengeCode_codeText d, codeText_eq (challengeDay_lt _) m]
    rfl

/-! ### A stroke (R112, R113, R117, R124) -/

theorem countStroke_eq (n count : Nat) : countStroke n count =
    (if n = 0 ∨ decide (n ≠ 0 ∧ n ≤ count + 1) = true then 0 else count + 1, decide (n ≠ 0 ∧ n ≤ count + 1)) := by
  unfold countStroke
  by_cases off : n = 0
  · simp [off]
  · by_cases due : n ≤ count + 1 <;> simp [off, due]

/-- A tyer that ties loses its last clip to EMPTY, the reindex then owed where it was pending (R113). -/
theorem tyerAfterStroke_eq {st : TyerState} (ties : st = .ready ∨ st = .reindexPending) (supply : Nat) (owed : Bool) :
    tyerAfterStroke supply st owed =
      (if supply = 0 then .empty else st, owed || decide (supply = 0 ∧ st = .reindexPending)) := by
  unfold tyerAfterStroke
  by_cases last : supply = 0
  · obtain rfl | rfl := ties <;> simp [last]
  · simp [last]

theorem tied_loaf (r : Rec) (code : Option (List Byte)) (challenge : Bool) : (r.tied code challenge).loaf = r.loaf := by
  unfold Rec.tied
  dsimp only
  split
  · exact addReason_loaf r .challenge
  · rfl

/-- What a stroke does. -/
structure Stroked (r : Rec) (cc : Nat × Bool) (ts : TyerState × Bool) (s u : State) : Prop where
  frame : SameBut { lp := true, trk := true, tie := true, tot := true } s u
  record : RecordBecomes r (r.tied (some (s.strokeCode r)) cc.2) s u
  tie : u.tie = { s.tie with
    supply := s.tie.supply - 1, state := ts.1, owed := ts.2, challengeCount := cc.1
    burst := joinBurst s.set.burstWindow s.tie.burst r.loaf, tyerOut := .stroke
    printed := some (if cc.2 then challengeCode (s.strokeCode r) else s.strokeCode r) }
  low : s.set.clipsLow ≤ s.tie.supply ∧ s.tie.supply - 1 < s.set.clipsLow → u.flag .clipsLow = true
  quiet : ¬(s.set.clipsLow ≤ s.tie.supply ∧ s.tie.supply - 1 < s.set.clipsLow) → u.lp = s.lp
  counted : LineCounted (fun sh => { sh with clips := min 4294967295 (sh.clips + 1) }) s u

theorem stroke_stroked (r : Rec) (s : State) :
    Stroked r (countStroke s.set.challengeInterval s.tie.challengeCount)
      (tyerAfterStroke (s.tie.supply - 1) s.tie.state s.tie.owed) s (stroke r s) := by
  unfold stroke
  dsimp only
  generalize countStroke s.set.challengeInterval s.tie.challengeCount = cc
  generalize tyerAfterStroke (s.tie.supply - 1) s.tie.state s.tie.owed = ts
  generalize tying : ((onRec r.loaf (·.tied (some (s.strokeCode r)) cc.2) s).onTie fun t => { t with
    supply := s.tie.supply - 1, state := ts.1, owed := ts.2, challengeCount := cc.1
    burst := joinBurst s.set.burstWindow t.burst r.loaf, tyerOut := .stroke
    printed := some (if cc.2 then challengeCode (s.strokeCode r) else s.strokeCode r) }) = v
  have frame : SameBut { trk := true, tie := true } s v := by
    rw [← tying]
    exact (without_onTie _ _ rfl).trans (onRec_without s r.loaf _ rfl)
  have tie : v.tie = { s.tie with
      supply := s.tie.supply - 1, state := ts.1, owed := ts.2, challengeCount := cc.1
      burst := joinBurst s.set.burstWindow s.tie.burst r.loaf, tyerOut := .stroke
      printed := some (if cc.2 then challengeCode (s.strokeCode r) else s.strokeCode r) } := by rw [← tying]; rfl
  have trk : v.trk = (onRec r.loaf (·.tied (some (s.strokeCode r)) cc.2) s).trk := by rw [← tying]; rfl
  have tot : v.tot = s.tot := kept_tot frame rfl
  have counting := lineEvent_without v (fun sh => { sh with clips := bump32 sh.clips }) (b := { tot := true }) rfl
  have set : (lineEvent (fun sh => { sh with clips := bump32 sh.clips }) v).set = s.set :=
    (kept_settings counting rfl).trans (kept_settings frame rfl)
  have supply : (lineEvent (fun sh => { sh with clips := bump32 sh.clips }) v).tie.supply = s.tie.supply - 1 := by
    rw [kept_tie counting rfl, tie]
  have lp : (lineEvent (fun sh => { sh with clips := bump32 sh.clips }) v).lp = s.lp :=
    (kept_lp counting rfl rfl).trans (kept_lp frame rfl rfl)
  refine ⟨?_, ?_, ?_, fun crossed => ?_, fun high => ?_, ?_⟩
  · exact (raiseClipsLow_without _ _ rfl).trans ((lineEvent_without v _ rfl).trans (frame.widen fun _ => rfl))
  · refine (onRec_becomes r (·.tied (some (s.strokeCode r)) cc.2) (fun x => tied_loaf x _ _) s).of_trk ?_
    exact (kept_trk (raiseClipsLow_keeps _ _) rfl).trans ((kept_trk counting rfl).trans trk)
  · rw [raised_tie, kept_tie counting rfl, tie]
  · exact raiseClipsLow_flag (by rw [set]; exact crossed.1) (by rw [set, supply]; exact crossed.2)
  · rw [raiseClipsLow, set, supply, if_neg high, lp]
  · refine (lineEvent_counted _ v).of_tot tot.symm ?_
    exact kept_tot (raiseClipsLow_keeps _ _) rfl

theorem bagTies_iff (x : Option BagResult) : bagTies x = true ↔ x = some .bagged ∨ x = some .baggedOnRetry := by
  rcases x with - | (_ | _ | _) <;> simp [bagTies]

theorem ties_iff (st : TyerState) : st.ties = true ↔ st = .ready ∨ st = .reindexPending := by
  cases st <;> simp [TyerState.ties]

theorem bagStation_missed {r : Rec} (other : s.bag.state ≠ .ready) : bagStation r s = onRec r.loaf (·.bagDone .notBagged) s := by
  unfold bagStation
  split
  · next ready => exact absurd ready other
  · rfl

theorem postStation_merged {r : Rec} (merged : r.state = .merged) (noGrant : ∀ g, s.arb.flight = some g → g.loaf ≠ r.loaf) :
    s.postStation r = if s.bag.attempt.any fun a => a.loaf == r.loaf then
      some (r.mergeLead.getD 0 + s.set.dTie * 65536, .tie r) else some (r.mergeLead.getD 0 + s.set.dBag * 65536, .bag r) := by
  have free : (s.arb.flight.any fun g => g.loaf == r.loaf) = false := by
    cases flying : s.arb.flight with
    | none => rfl
    | some g => simpa using noGrant g flying
  unfold State.postStation
  dsimp only
  rw [merged]
  dsimp only
  rw [if_neg (by rw [free]; exact Bool.false_ne_true)]
  rfl

/-- Settles O28: the record's next station by its state, and each station by the block that acts at it. -/
theorem bagAndTieStations : Obligations.BagAndTieStations := by
  intro s r found
  dsimp only
  refine ⟨fun merged noGrant => ⟨fun idle => ?_, fun a running same => ?_⟩, fun bagged => ?_, ⟨fun ready => ?_, fun other merged => ?_⟩,
    fun ⟨bagged, ties⟩ => ?_, fun passes => ?_⟩
  · rw [postStation_merged merged noGrant, if_neg]
    cases on : s.bag.attempt with
    | none => simp
    | some a => simpa using idle a on
  · rw [postStation_merged merged noGrant, if_pos]
    simpa [running] using same
  · unfold State.postStation
    rw [bagged]
    rfl
  · have begins : takeStation (.bag r) s = beginAttempt r.loaf 1 s := by
      show bagStation r s = _
      rw [bagStation, ready]
    obtain ⟨frame, bag, low, counted⟩ := beginAttempt_begun r.loaf 1 s
    rw [begins]
    refine ⟨frame, bag, ?_, counted⟩
    split
    · next crossed => exact low crossed.1 crossed.2
    · next high => exact beginAttempt_quiet _ _ high
  · have missed : takeStation (.bag r) s = onRec r.loaf (·.bagDone .notBagged) s := bagStation_missed other
    rw [missed]
    refine ⟨onRec_without s r.loaf _ rfl, ?_⟩
    have becomes := onRec_becomes r (·.bagDone .notBagged) (fun x => bagDone_loaf x _) s
    have done : r.bagDone .notBagged = { r.addReason .bagMiss with bagResult := some .notBagged, state := .bagged } := by
      simp [Rec.bagDone, merged]
    rwa [done] at becomes
  · have strokes : takeStation (.tie r) s = stroke r s := by
      show tieStation r s = _
      rw [tieStation, if_pos ⟨(bagTies_iff _).2 bagged, (ties_iff _).2 ties⟩]
    obtain ⟨frame, record, tie, low, quiet, counted⟩ := stroke_stroked r s
    rw [countStroke_eq] at record tie
    rw [tyerAfterStroke_eq ties] at tie
    rw [strokes]
    refine ⟨frame, record, tie, ?_, strokeCode_codes r, counted⟩
    split
    · next crossed => exact low crossed
    · next high => exact quiet high
  · have passing : takeStation (.tie r) s = onRec r.loaf (fun r => { r with state := .tied }) s := by
      show tieStation r s = _
      rw [tieStation, if_neg]
      rw [bagTies_iff, ties_iff]
      rintro ⟨bagged, ties⟩
      obtain ⟨first, second⟩ | ⟨first, second⟩ := passes
      · exact bagged.elim first second
      · exact ties.elim first second
    rw [passing]
    exact ⟨onRec_without s r.loaf _ rfl, onRec_becomes r (fun r => { r with state := .tied }) (fun _ => rfl) s⟩

end Sys2Proof.Machine
end

section
/-! PROOFS. SET_LANES, and the drain of a RUNNING line left without lanes (R85, R86). -/

namespace Sys2Proof.Machine

variable {s t u : State}

/-! ### No lane in service (R85) -/

theorem noLanes_of_out (out : ∀ k, s.isConfigured k = true → (s.lane k).state = .idle ∨ (s.lane k).state = .parked) :
    s.noLanes = true := by
  rw [State.noLanes, List.all_eq_true]
  intro k _
  cases configured : s.isConfigured k with
  | false => rfl
  | true =>
    have unserved : (s.lane k).inService = false := by
      unfold LaneCtl.inService
      rcases out k configured with idle | parked
      · rw [idle]
      · rw [parked]
    rw [unserved]
    rfl

theorem lanesChanged_of_ne {before : State} {l : Lane} (changed : (before.lane l).state ≠ (s.lane l).state) :
    lanesChanged before s = true :=
  List.any_eq_true.2 ⟨l, mem_lanes l, decide_eq_true changed⟩

theorem checkNoLanes_drains {before : State} {l : Lane} (running : s.lc.state = .running)
    (changed : (before.lane l).state ≠ (s.lane l).state)
    (out : ∀ k, s.isConfigured k = true → (s.lane k).state = .idle ∨ (s.lane k).state = .parked) :
    checkNoLanes before s = enterDraining .noLanes s := by
  rw [checkNoLanes, if_pos ⟨running, lanesChanged_of_ne changed, noLanes_of_out out⟩, requestDrain_drains (.inl running)]

theorem settleStart_draining_line (draining : s.lc.state = .draining) : settleStart s = s := by
  rcases settleStart_cases s with same | ⟨starting, -⟩
  · exact same
  · exact absurd (draining.symm.trans starting) nofun

/-- The end of a drain: READY over an empty table, DRAINING over a record. -/
structure DrainSettled (s u : State) : Prop where
  state : u.lc.state = if s.tableCount = 0 then .ready else .draining
  cause : u.lc.cause = s.lc.cause
  silence : s.lc.silence = none → u.lc.silence = none
  flags : s.flag .lineState = true → u.flag .lineState = true

theorem settleDrain_settled (draining : s.lc.state = .draining) : DrainSettled s (settleDrain s) := by
  unfold settleDrain
  by_cases empty : s.tableCount = 0
  · rw [if_pos ⟨draining, empty⟩]
    obtain ⟨-, ready, cause, -, silence, -⟩ := enterReady_taken s.lc.cause s
    exact ⟨ready.trans (if_pos empty).symm, cause, fun _ => silence, (lasts_enterReady s s.lc.cause).flags .lineState⟩
  · rw [if_neg fun both => empty both.2]
    exact ⟨draining.trans (if_neg empty).symm, rfl, id, id⟩

theorem drainEntered_settled (cause : StopCause) (v : State) :
    (settleDrain (enterDraining cause v)).lc.cause = cause ∧
      (settleDrain (enterDraining cause v)).flag .lineState = true ∧
      (settleDrain (enterDraining cause v)).lc.silence = none ∧
      (settleDrain (enterDraining cause v)).lc.state = (if v.tableCount = 0 then .ready else .draining) := by
  obtain ⟨state, ended, silence, flags⟩ := settleDrain_settled (s := enterDraining cause v) rfl
  exact ⟨ended, flags (enterDraining_flag cause v), silence rfl, state⟩

theorem lasts_afterLine (before : State) (h : Nat) (u : State) : Lasts (settleLine before u) (settle before h u) := by
  rw [settle_eq]
  generalize settleLine before u = v
  refine Lasts.trans ?_ (lasts_evaluateGates _)
  refine Lasts.trans ?_ (lasts_refresh _)
  refine Lasts.trans ?_ (lasts_settleGrants _ h)
  exact lasts_settleBlocks v h

/-- The line after a settling whose own checks end a drain entered there. -/
theorem settle_drained {before v : State} {cause : StopCause} (h : Nat)
    (line : settleLine before u = settleDrain (enterDraining cause v)) (table : v.tableCount = u.tableCount) :
    (settle before h u).lc.cause = cause ∧ (settle before h u).flag .lineState = true ∧
      (settle before h u).lc.silence = none ∧
      (settle before h u).lc.state = (if u.tableCount = 0 then .ready else .draining) := by
  have standing := settle_lc_standing before h u
  obtain ⟨state', cause', -, silence'⟩ := standing_parts standing
  have later := (lasts_afterLine before h u).flags .lineState
  obtain ⟨ended, flag, silence, state⟩ := drainEntered_settled cause v
  rw [line] at state' cause' silence' later
  rw [← table]
  exact ⟨cause'.trans ended, later flag, silence'.trans silence, state'.trans state⟩

/-- The line after the settling of an event that leaves a RUNNING line without lanes. -/
theorem settle_noLanes {before : State} {l : Lane} (h : Nat) (running : u.lc.state = .running)
    (changed : (before.lane l).state ≠ (u.lane l).state)
    (out : ∀ k, u.isConfigured k = true → (u.lane k).state = .idle ∨ (u.lane k).state = .parked) :
    (settle before h u).lc.cause = .noLanes ∧ (settle before h u).flag .lineState = true ∧
      (settle before h u).lc.silence = none ∧
      (settle before h u).lc.state = (if u.tableCount = 0 then .ready else .draining) := by
  have idled := idleBlades_keep u
  have lc := kept_lc idled rfl rfl
  have lane : ∀ k, (forLanes stopIdleBlade u).lane k = u.lane k := fun k => by simp
  have configured : ∀ k, (forLanes stopIdleBlade u).isConfigured k = u.isConfigured k := fun k => by
    rw [State.isConfigured, State.set, kept_settings idled rfl]
    rfl
  have drains : checkNoLanes before (forLanes stopIdleBlade u) = enterDraining .noLanes (forLanes stopIdleBlade u) := by
    refine checkNoLanes_drains (l := l) (by rw [lc, running]) (by rwa [lane]) fun k hk => ?_
    rw [lane]
    exact out k (configured k ▸ hk)
  have table := tableCount_of_trk (kept_trk idled rfl)
  have line : settleLine before u = settleDrain (enterDraining .noLanes (forLanes stopIdleBlade u)) := by
    rw [settleLine, drains, settleStart_draining_line rfl]
  exact settle_drained h line table

/-! ### One lane of a lane set (R86) -/

/-- A lane and its head. -/
def State.laneAndHead (s : State) (l : Lane) : LaneCtl × Head := (s.lane l, s.head l)

/-- What SET_LANES makes of a lane and its head. -/
structure LaneSet (wanted : Bool) (spins : Prop) (spinupS : Nat) (a b : LaneCtl × Head) : Prop where
  target : b.1.target = wanted
  trialFails : b.1.trialFails = a.1.trialFails
  same : wanted = a.1.target → b = a
  starts : wanted = true → a.1.target = false → a.1.state = .idle → spins →
    (a.2.blade = .running → b.1.state = .running ∧ b.2 = a.2) ∧
    (a.2.blade = .parked → b.1.state = .idle ∧ b.2 = a.2) ∧
    (a.2.blade ≠ .running → a.2.blade ≠ .parked → b.1.state = .idle ∧
      b.2.blade = .spinup ∧ b.2.spinup = some (1000 * spinupS))
  waits : wanted = true → a.1.target = false → ¬(a.1.state = .idle ∧ spins) → b.1.state = a.1.state ∧ b.2 = a.2
  leaves : wanted = false → a.1.target = true →
    b.2.blade = (if a.2.blade = .spinup ∧ a.1.state ≠ .parked then .stopped else a.2.blade) ∧
    ((a.1.state = .running ∨ a.1.state = .trial ∨ a.1.state = .down) →
      b.1.state = .idle ∧ b.1.trialList = [] ∧ b.1.trialLeft = 0 ∧ b.1.retrial = none) ∧
    (¬(a.1.state = .running ∨ a.1.state = .trial ∨ a.1.state = .down) → b.1 = { a.1 with target := false })

theorem laneSet_same {wanted : Bool} {spins : Prop} {spinupS : Nat} {a : LaneCtl × Head} (stands : a.1.target = wanted) :
    LaneSet wanted spins spinupS a a where
  target := stands
  trialFails := rfl
  same _ := rfl
  starts joins out := absurd (joins.symm.trans (stands.symm.trans out)) nofun
  waits joins out := absurd (joins.symm.trans (stands.symm.trans out)) nofun
  leaves dropped stood := absurd (dropped.symm.trans (stands.symm.trans stood)) nofun

/-- A lane that joins the target set. -/
theorem laneSet_joins {spins : Prop} {spinupS : Nat} {a b : LaneCtl × Head} (out : a.1.target = false)
    (target : b.1.target = true) (fails : b.1.trialFails = a.1.trialFails)
    (starts : a.1.state = .idle → spins →
      (a.2.blade = .running → b.1.state = .running ∧ b.2 = a.2) ∧
      (a.2.blade = .parked → b.1.state = .idle ∧ b.2 = a.2) ∧
      (a.2.blade ≠ .running → a.2.blade ≠ .parked → b.1.state = .idle ∧
        b.2.blade = .spinup ∧ b.2.spinup = some (1000 * spinupS)))
    (waits : ¬(a.1.state = .idle ∧ spins) → b.1.state = a.1.state ∧ b.2 = a.2) : LaneSet true spins spinupS a b where
  target := target
  trialFails := fails
  same stood := absurd (stood.trans out) nofun
  starts _ _ := starts
  waits _ _ := waits
  leaves dropped := nomatch dropped

/-- A lane that leaves the target set. -/
theorem laneSet_leaves {spins : Prop} {spinupS : Nat} {a b : LaneCtl × Head} (stood : a.1.target = true)
    (target : b.1.target = false) (fails : b.1.trialFails = a.1.trialFails)
    (blade : b.2.blade = if a.2.blade = .spinup ∧ a.1.state ≠ .parked then .stopped else a.2.blade)
    (serving : (a.1.state = .running ∨ a.1.state = .trial ∨ a.1.state = .down) →
      b.1.state = .idle ∧ b.1.trialList = [] ∧ b.1.trialLeft = 0 ∧ b.1.retrial = none)
    (apart : ¬(a.1.state = .running ∨ a.1.state = .trial ∨ a.1.state = .down) → b.1 = { a.1 with target := false }) :
    LaneSet false spins spinupS a b where
  target := target
  trialFails := fails
  same dropped := absurd (dropped.trans stood) nofun
  starts wanted := nomatch wanted
  waits wanted := nomatch wanted
  leaves _ _ := ⟨blade, serving, apart⟩

theorem addTarget_set {l : Lane} (out : (s.lane l).target = false) :
    LaneSet true (s.lc.state = .starting ∨ s.lc.state = .running) s.set.spinupS (s.laneAndHead l)
      ((addTarget l s).laneAndHead l) := by
  have marked : (onLane l (fun c => { c with target := true }) s).lane l = { s.lane l with target := true } := lane_onLane_self ..
  unfold addTarget
  dsimp only
  split
  · next due =>
    obtain ⟨idle, spins⟩ := due
    have spinning := (spinsUp_iff _).1 spins
    split
    · next running =>
      refine laneSet_joins out (by simp [State.laneAndHead, marked]) (by simp [State.laneAndHead, marked]) (fun _ _ => ?_)
        fun still => absurd ⟨idle, spinning⟩ still
      exact ⟨fun _ => by simp [State.laneAndHead, marked], fun parked => absurd (running.symm.trans parked) nofun,
        fun other => absurd running other⟩
    · next other =>
      refine laneSet_joins out (by simp [State.laneAndHead, marked, spinUpUnlessParked_lane])
        (by simp [State.laneAndHead, marked, spinUpUnlessParked_lane]) (fun _ _ => ?_) fun still => absurd ⟨idle, spinning⟩ still
      refine ⟨fun running => absurd running other, fun parked => ?_, fun _ unparked => ?_⟩
      · have stays : (s.head l).blade = .parked := parked
        simp [State.laneAndHead, marked, idle, spinUpUnlessParked_lane, spinUpUnlessParked_head, stays]
      · have turns : (s.head l).blade ≠ .parked := unparked
        simp [State.laneAndHead, marked, idle, spinUpUnlessParked_lane, spinUpUnlessParked_head, turns]
        rfl
  · next still =>
    refine laneSet_joins out (by simp [State.laneAndHead, marked]) (by simp [State.laneAndHead, marked])
      (fun idle spins => absurd ⟨idle, (spinsUp_iff _).2 spins⟩ still) fun _ => ?_
    simp [State.laneAndHead, marked]

theorem removeTarget_set {l : Lane} (stood : (s.lane l).target = true) :
    LaneSet false (s.lc.state = .starting ∨ s.lc.state = .running) s.set.spinupS (s.laneAndHead l)
      ((removeTarget l s).laneAndHead l) := by
  have marked : (onLane l (fun c => { c with target := false }) s).lane l = { s.lane l with target := false } := lane_onLane_self ..
  have blade : ((stopBladeIf (fun b => b == .spinup) l (onLane l (fun c => { c with target := false }) s)).head l).blade =
      if (s.head l).blade = .spinup then .stopped else (s.head l).blade := by
    rw [stopBladeIf_head_self]
    simp
  have serves : ∀ x, (s.lane l).state = x → x = .running ∨ x = .trial ∨ x = .down →
      LaneSet false (s.lc.state = .starting ∨ s.lc.state = .running) s.set.spinupS (s.laneAndHead l)
        ((setLaneState .idle l (endTrial l (stopBladeIf (fun b => b == .spinup) l
          (onLane l (fun c => { c with target := false }) s)))).laneAndHead l) := by
    intro x state serving
    refine laneSet_leaves stood ?_ ?_ ?_ (fun _ => ?_) fun apart => absurd (by rwa [← state] at serving) apart
    · simp [State.laneAndHead, endTrial_lane, marked]
    · simp [State.laneAndHead, endTrial_lane, marked]
    · have unparked : (s.lane l).state ≠ .parked := by
        rw [state]
        rintro rfl
        simp at serving
      simp [State.laneAndHead, blade, unparked]
    · simp [State.laneAndHead, endTrial_lane]
  unfold removeTarget
  dsimp only
  cases state : (s.lane l).state with
  | idle =>
    refine laneSet_leaves stood (by simp [State.laneAndHead, marked]) (by simp [State.laneAndHead, marked]) ?_ ?_ fun _ => ?_
    · simp [State.laneAndHead, blade, state]
    · simp [State.laneAndHead, state]
    · simp [State.laneAndHead, marked]
  | parked =>
    refine laneSet_leaves stood (by simp [State.laneAndHead, marked]) (by simp [State.laneAndHead, marked]) ?_ ?_ fun _ => marked
    · simp [State.laneAndHead, state]
    · simp [State.laneAndHead, state]
  | running => exact serves _ state (.inl rfl)
  | trial => exact serves _ state (.inr (.inl rfl))
  | down => exact serves _ state (.inr (.inr rfl))

theorem setTarget_set (n : Nat) (l : Lane) (s : State) :
    LaneSet (n.testBit l.val) (s.lc.state = .starting ∨ s.lc.state = .running) s.set.spinupS (s.laneAndHead l)
      ((setTarget n l s).laneAndHead l) := by
  unfold setTarget inLaneSet
  cases wanted : n.testBit l.val <;> cases target : (s.lane l).target
  · exact laneSet_same target
  · exact removeTarget_set target
  · exact addTarget_set target
  · exact laneSet_same target

theorem addTarget_other {k l : Lane} (other : l ≠ k) (s : State) : (addTarget k s).laneAndHead l = s.laneAndHead l := by
  unfold addTarget
  (repeat' split) <;>
    simp [State.laneAndHead, setLaneState_lane_ne, spinUpUnlessParked_lane, spinUpUnlessParked_head, lane_onLane, other]

theorem removeTarget_other {k l : Lane} (other : l ≠ k) (s : State) : (removeTarget k s).laneAndHead l = s.laneAndHead l := by
  unfold removeTarget
  dsimp only
  split <;> simp [State.laneAndHead, setLaneState_lane_ne, endTrial_lane, stopBladeIf_head_ne, lane_onLane, other]

theorem setTarget_other (n : Nat) {k l : Lane} (other : l ≠ k) (s : State) :
    (setTarget n k s).laneAndHead l = s.laneAndHead l := by
  unfold setTarget
  split
  · exact addTarget_other other s
  · exact removeTarget_other other s
  · rfl

theorem setTarget_frame (n : Nat) (l : Lane) (s : State) : SameBut { lp := true, hd := true } s (setTarget n l s) :=
  setTarget_without s n l rfl rfl

theorem setTargets_set (n : Nat) (l : Lane) (s : State) :
    LaneSet (n.testBit l.val) (s.lc.state = .starting ∨ s.lc.state = .running) s.set.spinupS (s.laneAndHead l)
      ((forLanes (setTarget n) s).laneAndHead l) := by
  have kept : ∀ k t, (setTarget n k t).lc.state = t.lc.state ∧ (setTarget n k t).set.spinupS = t.set.spinupS := fun k t =>
    ⟨congrArg Lc.state (kept_lc (setTarget_frame n k t) rfl rfl),
      congrArg LineSettings.spinupS (kept_settings (setTarget_frame n k t) rfl)⟩
  refine forLanes_own (l := l) (read := fun t : State => (t.laneAndHead l, t.lc.state, t.set.spinupS))
    (Made := fun a b => LaneSet (n.testBit l.val) (a.2.1 = .starting ∨ a.2.1 = .running) a.2.2 a.1 b.1)
    (fun t => setTarget_set n l t) (fun k t other => ?_) s
  obtain ⟨line, spinup⟩ := kept k t
  rw [setTarget_other n other, line, spinup]

/-! ### The request (R86) -/

theorem laneSetRefused_iff (s : State) (n : Nat) : s.laneSetRefused n = true ↔
    16 ≤ n ∨ ∃ l : Lane, n.testBit l.val = true ∧ (s.isConfigured l = false ∨ s.pst.assign[l] = none) := by
  simp [State.laneSetRefused, inLaneSet, mem_lanes]

theorem setLanes_replies {tag n : Byte} (h : Handling ⟨0x30, tag, [n]⟩ s) (taken : ¬ s.laneSetRefused n.toNat = true) :
    Replies (.setLanes tag [n]) ⟨0x30, tag, [n]⟩ .ok (fun v => lanes.map fun l => byteOf (v.lane l).state.code) s
      (forLanes (setTarget n.toNat) s) := by
  have byte : byteAt [n] 0 = n.toNat := rfl
  rw [Replies, exec_handling (c := .setLanes tag [n]) h rfl rfl, ownSetLanes]
  dsimp only
  rw [byte, if_neg taken, giveReply_okay]

/-- Settles O46: the check of R85 at the event's end, and each lane of the set by its own row. -/
theorem setLanes : Obligations.SetLanes := by
  refine ⟨fun before h u l running changed out => settle_noLanes h running changed out, fun s tag n h => ?_⟩
  dsimp only
  rw [← laneSetRefused_iff]
  refine ⟨fun bad => ?_, fun good => ⟨_, setLanes_replies h good, ?_, fun l => ?_⟩⟩
  · refine refused_of_owner (owner := ownSetLanes) (len := 1) rfl rfl ?_ h
    have byte : byteAt [n] 0 = n.toNat := rfl
    rw [ownSetLanes]
    dsimp only
    rw [byte, if_pos bad]
  · exact without_forLanes s _ fun l t => setTarget_frame n.toNat l t
  · obtain ⟨target, fails, same, starts, waits, leaves⟩ := setTargets_set n.toNat l s
    exact ⟨target, fails, fun stood => (Prod.mk.injEq ..).mp (same stood), starts, waits, leaves⟩

end Sys2Proof.Machine
end

section
/-! PROOFS. The receiver: frames taken and frames discarded (R187, R188, R190). -/

namespace Sys2Proof.Machine

variable {s t u : State}

/-! ### The CRC is a number of 16 bits (R187) -/

theorem crcBits_lt (n : Nat) {c : Nat} (h : c < 65536) : crcBits n c < 65536 := by
  induction n generalizing c with
  | zero => exact h
  | succ n ih =>
    refine ih ?_
    split
    · omega
    · exact Nat.xor_lt_two_pow (n := 16) (by omega) (by decide)

theorem crcFrom_lt (bs : List Byte) {c : Nat} (h : c < 65536) : crcFrom c bs < 65536 := by
  induction bs generalizing c with
  | nil => exact h
  | cons b bs ih =>
    have high : b.toNat * 256 < 65536 := by have := b.isLt; omega
    rw [crcFrom]
    exact ih (crcBits_lt 8 (Nat.xor_lt_two_pow (n := 16) h high))

theorem crc16_lt (bs : List Byte) : crc16 bs < 65536 := by
  rw [crc16]
  exact crcFrom_lt bs (by omega)

/-- The two CRC bytes of a frame carry its CRC, the high one first. -/
theorem crc_of_bytes {c : Nat} (h : c < 65536) : (BitVec.ofNat 8 (c / 256)).toNat * 256 + (BitVec.ofNat 8 c).toNat = c := by
  simp only [BitVec.toNat_ofNat]
  omega

/-! ### Bytes of one frame (R188) -/

theorem setReceiver_twice (x y : Receiver) (s : State) : setReceiver x (setReceiver y s) = setReceiver x s := rfl

theorem setReceiver_receiver (x : Receiver) (s : State) : (setReceiver x s).lp.receiver = x := rfl

/-- The bytes after the start byte, up to the one that completes the frame. -/
theorem receiveBytes_completes {full : List Byte} {n : Nat} (field : leNat (full.take 2) = n) (range : 2 ≤ n ∧ n ≤ 252)
    (length : full.length = n + 4) (s : State) (b : Byte) (rest got : List Byte) (split : got ++ b :: rest = full) :
    receiveBytes (b :: rest) (setReceiver (.receiving got) s) = endFrame n full (setReceiver .hunt s) := by
  have total : got.length + rest.length + 1 = n + 4 := by
    rw [← length, ← split, List.length_append, List.length_cons, Nat.add_assoc]
  induction rest generalizing b got with
  | nil =>
    have inside : ¬(n < 2 ∨ 252 < n) := by omega
    have one : receiveBytes [b] (setReceiver (.receiving got) s) = receiveByte b (setReceiver (.receiving got) s) := rfl
    rw [one, receiveByte, setReceiver_receiver]
    dsimp only
    rw [split, field, if_neg (by omega), if_neg inside, if_pos (by omega), setReceiver_twice]
  | cons c rest ih =>
    have joined : (got ++ [b]) ++ c :: rest = full := by rw [← split]; simp
    have more : receiveByte b (setReceiver (.receiving got) s) = setReceiver (.receiving (got ++ [b])) s := by
      rw [receiveByte, setReceiver_receiver]
      dsimp only
      rw [setReceiver_twice]
      by_cases short : (got ++ [b]).length < 2
      · rw [if_pos short]
      · have taken : (got ++ [b]).take 2 = full.take 2 := by
          rw [← joined]
          exact (List.take_append_of_le_length (Nat.le_of_not_lt short)).symm
        rw [List.length_cons] at total
        have inside : ¬(n < 2 ∨ 252 < n) := by omega
        have partly : ¬ n + 4 ≤ (got ++ [b]).length := by rw [List.length_append, List.length_singleton]; omega
        rw [if_neg short, taken, field, if_neg inside, if_neg partly]
    rw [receiveBytes, more]
    refine ih c (got ++ [b]) joined ?_
    simp only [List.length_append, List.length_cons, List.length_nil] at total ⊢
    omega

theorem receiveBytes_start (hunting : s.lp.receiver = .hunt) (bs : List Byte) :
    receiveBytes (0x7E :: bs) s = receiveBytes bs (setReceiver (.receiving []) s) := by
  rw [receiveBytes, receiveByte, hunting]
  rfl

theorem setReceiver_hunting (hunting : s.lp.receiver = .hunt) : setReceiver .hunt s = s := by
  unfold setReceiver State.onLp
  rw [← hunting]

/-- The bytes of a frame between its start byte and its CRC (R187). -/
def frameBody (k tag : Byte) (p : List Byte) : List Byte := leBytes 2 (p.length + 2) ++ k :: tag :: p

/-- A frame of a payload's length from HUNT, with any two bytes for its CRC. -/
theorem receiveBytes_frame (hunting : s.lp.receiver = .hunt) {p : List Byte} (fits : p.length ≤ 250) (k tag x y : Byte) :
    receiveBytes (0x7E :: frameBody k tag p ++ [x, y]) s =
      if crc16 (frameBody k tag p) = x.toNat * 256 + y.toNat then takeFrame ⟨k, tag, p⟩ s
      else onLink (fun c => { c with badCrc := bump32 c.badCrc }) s := by
  have length : (frameBody k tag p ++ [x, y]).length = p.length + 2 + 4 := by simp [frameBody, leBytes]
  have field : leNat ((frameBody k tag p ++ [x, y]).take 2) = p.length + 2 := leNat_leBytes 2 _ (by omega)
  have body : (frameBody k tag p ++ [x, y]).take (p.length + 2 + 2) = frameBody k tag p := by
    rw [List.take_left' (by simp [frameBody, leBytes])]
  have first : byteAt (frameBody k tag p ++ [x, y]) (p.length + 2 + 2) = x.toNat := by
    simp [byteAt, frameBody, leBytes, List.getD_eq_getElem?_getD]
  have second : byteAt (frameBody k tag p ++ [x, y]) (p.length + 2 + 3) = y.toNat := by
    simp [byteAt, frameBody, leBytes, List.getD_eq_getElem?_getD]
  have completes := receiveBytes_completes field (by omega) length s _ _ [] rfl
  rw [List.cons_append, receiveBytes_start hunting]
  refine completes.trans ?_
  rw [setReceiver_hunting hunting, endFrame, body, first, second]
  rfl

theorem frameReceived_effect (on : s.powered = true) (bs : List Byte) :
    exec (.frameReceived bs) s = .next (receiveBytes bs s) := by
  have served : exec (.frameReceived bs) s = execFrameReceived bs s := rfl
  rw [served, execFrameReceived, whenPowered_event on]

theorem interbyteTimeout_effect (on : s.powered = true) : exec .interbyteTimeout s = .next (truncate s) := by
  have served : exec .interbyteTimeout s = execInterbyteTimeout s := rfl
  rw [served, execInterbyteTimeout, whenPowered_event on]

/-! ### A valid frame (R184, R190) -/

/-- A valid frame heard: counted, the silence timer of a RUNNING line at its full timeout. -/
def heard (s : State) : State :=
  { s with
    lp := { s.lp with counters := { s.lp.counters with framesTaken := min 4294967295 (s.lp.counters.framesTaken + 1) } }
    lc := { s.lc with silence :=
      (if s.lc.state = .running ∧ s.set.linkTimeoutS ≠ 0 then some (1000 * s.set.linkTimeoutS) else s.lc.silence) } }

theorem takeFrame_eq (r : Req) (s : State) : takeFrame r s = placeRequest r (heard s) := by
  unfold takeFrame heard
  dsimp only
  by_cases due : s.lc.state = .running ∧ s.set.linkTimeoutS ≠ 0
  · obtain ⟨-, timeout⟩ := id due
    have full : s.fullSilence = some (1000 * s.set.linkTimeoutS) := if_neg timeout
    rw [if_pos due]
    refine congrArg (placeRequest r) ?_
    exact (if_pos due).trans (by rw [← full]; rfl)
  · rw [if_neg due]
    exact congrArg (placeRequest r) (if_neg due)

theorem frame_taken (on : s.powered = true) (hunting : s.lp.receiver = .hunt) {p : List Byte} (fits : p.length ≤ 250)
    (k tag : Byte) : exec (.frameReceived (frameBytes k tag p)) s = .next (placeRequest ⟨k, tag, p⟩ (heard s)) := by
  have sent := crc_of_bytes (crc16_lt (frameBody k tag p))
  have received := receiveBytes_frame hunting fits k tag (BitVec.ofNat 8 (crc16 (frameBody k tag p) / 256))
    (BitVec.ofNat 8 (crc16 (frameBody k tag p)))
  rw [if_pos sent.symm, takeFrame_eq] at received
  rw [frameReceived_effect on]
  exact congrArg _ received

/-- Settles O49: the bytes up to the frame's last by induction, and then the CRC; the other damages by their first bytes. -/
theorem framesAreTaken : Obligations.FramesAreTaken := by
  intro s k tag p on fits hunting
  have taken := frame_taken on hunting fits k tag
  dsimp only
  refine ⟨fun free empty => ?_, fun held empty => ?_, fun full => ?_, fun x y differ => ?_, fun x y bad => ?_, ?_, fun bs => ?_⟩
  · have hand : (heard s).lp.hand = none := free
    have waiting : (heard s).lp.waiting = none := empty
    rw [taken, placeRequest, hand, waiting]
    rfl
  · obtain ⟨r, hand⟩ := Option.isSome_iff_exists.1 held
    have hand : (heard s).lp.hand = some r := hand
    have waiting : (heard s).lp.waiting = none := empty
    rw [taken, placeRequest, hand, waiting]
    rfl
  · obtain ⟨r, waiting⟩ := Option.isSome_iff_exists.1 full
    have waiting : (heard s).lp.waiting = some r := waiting
    rw [taken, placeRequest, waiting]
    cases (heard s).lp.hand <;> rfl
  · rw [frameReceived_effect on]
    have received := receiveBytes_frame hunting fits k tag x y
    rw [if_neg fun same => differ same.symm] at received
    refine congrArg _ (received.trans ?_)
    rw [← hunting]
    rfl
  · rw [frameReceived_effect on, receiveBytes_start hunting]
    have field : leNat [x, y] = x.toNat + 256 * y.toNat := by simp [leNat]
    have bad : leNat [x, y] < 2 ∨ 252 < leNat [x, y] := by rwa [field]
    have first : receiveByte x (setReceiver (.receiving []) s) = setReceiver (.receiving [x]) s := rfl
    have second : receiveByte y (setReceiver (.receiving [x]) s) =
        setReceiver .hunt (onLink (fun c => { c with badLength := bump32 c.badLength }) s) := by
      rw [receiveByte, setReceiver_receiver]
      dsimp only
      rw [if_neg (by simp)]
      exact if_pos bad
    rw [receiveBytes, receiveBytes, first, second]
    rfl
  · rw [interbyteTimeout_effect on, truncate, hunting]
  · exact interbyteTimeout_effect (s := setReceiver (.receiving bs) s) on

end Sys2Proof.Machine
end

section
/-! PROOFS. Pulses and the pacer: how the line position advances (R2, R8, R9, R10). -/

namespace Sys2Proof.Machine

variable {s t u : State}

/-- The position put at a value, as an advance does it. -/
def atPosition (p : Nat) (u : State) : State := u.onSru fun x => { x with pos := p }

/-- The parts that the events at the stations touch. -/
def stationParts : Parts :=
  { lp := true, sru := true, lc := true, trk := true, hd := true, arb := true, bag := true, tie := true, crm := true, tot := true, refs := true }

theorem atPosition_still (u : State) : atPosition u.pos u = u := rfl

/-! ### The values reached (R8) -/

theorem takeReached_nothing {fuel h : Nat} (quiet : s.sru.state = .idle ∨ ∀ e ∈ s.stations h, s.pos < e.1) :
    takeReached fuel h s = s := by
  cases fuel with
  | zero => rfl
  | succ fuel =>
    rw [takeReached]
    rcases quiet with idle | ahead
    · rw [if_pos idle]
    · split
      · rfl
      · split
        · next first => rw [if_neg (Nat.not_le.2 (ahead _ (firstStation_mem first)))]
        · rfl

theorem takeReached_first {fuel h v : Nat} {e : Station} (turns : s.sru.state ≠ .idle)
    (first : firstStation (s.stations h) = some (v, e)) (reached : v ≤ s.pos) :
    takeReached (fuel + 1) h s = takeReached fuel (max h v) (settle s (max h v) (takeStation e s)) := by
  rw [takeReached, if_neg turns, first]
  exact if_pos reached

/-! ### An advance (R8, R9) -/

theorem advance_none {d : Nat} (still : s.sru.state = .idle ∨ min Config.posMax (s.pos + d) ≤ s.pos) : advance d s = s :=
  if_pos still

theorem advance_on {d : Nat} (turns : s.sru.state ≠ .idle) (forward : s.pos < min Config.posMax (s.pos + d))
    (before : min Config.posMax (s.pos + d) < Config.posMax) :
    advance d s = takeReached stationFuel s.pos (atPosition (min Config.posMax (s.pos + d)) s) := by
  unfold advance
  dsimp only
  rw [if_neg (not_or.2 ⟨turns, Nat.not_le.2 forward⟩), if_neg before.ne]
  rfl

theorem advance_last {d : Nat} (turns : s.sru.state ≠ .idle) (forward : s.pos < min Config.posMax (s.pos + d))
    (last : min Config.posMax (s.pos + d) = Config.posMax) {m : State}
    (reached : takeReached stationFuel s.pos (atPosition (min Config.posMax (s.pos + d)) s) = m) :
    advance d s = settle m (min Config.posMax (s.pos + d)) (haltLine .positionLimit m) := by
  unfold advance
  dsimp only
  rw [if_neg (not_or.2 ⟨turns, Nat.not_le.2 forward⟩), if_pos last]
  rw [← reached]
  rfl

theorem takeReached_frame (fuel h : Nat) (s : State) : SameBut stationParts s (takeReached fuel h s) :=
  takeReached_without s fuel h rfl rfl rfl rfl rfl rfl rfl rfl rfl rfl rfl

theorem haltedSettled_frame (cause : StopCause) (h : Nat) (s : State) :
    SameBut stationParts s (settle s h (haltLine cause s)) :=
  ((settle_frame s h (haltLine cause s)).widen fun _ => rfl).trans
    (haltLine_without s cause rfl rfl rfl rfl rfl rfl rfl rfl rfl)

/-- What an advance leaves of the position, and where it stops. -/
theorem advance_moves (d : Nat) (turns : s.sru.state ≠ .idle) (range : s.pos ≤ Config.posMax) :
    SameBut stationParts (atPosition (min Config.posMax (s.pos + d)) s) (advance d s) := by
  by_cases forward : s.pos < min Config.posMax (s.pos + d)
  · have reached := takeReached_frame stationFuel s.pos (atPosition (min Config.posMax (s.pos + d)) s)
    rcases Nat.lt_or_eq_of_le (Nat.min_le_left Config.posMax (s.pos + d)) with before | last
    · rw [advance_on turns forward before]
      exact reached
    · rw [advance_last turns forward last rfl]
      exact (haltedSettled_frame _ _ _).trans reached
  · have same : min Config.posMax (s.pos + d) = s.pos := by omega
    rw [advance_none (.inr (Nat.not_lt.1 forward)), same]
    rfl

/-! ### The events that advance the position -/

theorem countPulse_as (src : LineSource) (s : State) : countPulse src s = s.onSru fun x => x.onLine src fun m =>
    { m with mon := { m.mon with count := min Config.pulseMax (m.mon.count + 1) } } := rfl

theorem pulse_effect (on : s.powered = true) (src : LineSource) : exec (.lineEncoderPulse src) s =
    .next (if s.sru.selected = .encoder src then advance (s.sru.inc src) (countPulse src s) else countPulse src s) := by
  have served : exec (.lineEncoderPulse src) s = execLineEncoderPulse src s := rfl
  rw [served, execLineEncoderPulse, whenPowered_event on]

theorem pacer_effect (on : s.powered = true) (ms : Nat) : exec (.pacerAdvance ms) s =
    .next (if s.sru.selected = .pacer ∧ s.sru.state ≠ .idle then
      advance ((s.sru.pacerSpeed * Config.tu * ms + s.sru.pacerCarry) / 1000)
        (s.onSru fun x => { x with pacerCarry := (s.sru.pacerSpeed * Config.tu * ms + s.sru.pacerCarry) % 1000 }) else s) := by
  have served : exec (.pacerAdvance ms) s = execPacerAdvance ms s := rfl
  rw [served, execPacerAdvance, whenPowered_event on]

/-- What a command does that takes the position of a state to a value. -/
def Moved (p : Nat) (s u : State) (c : Instr) : Prop :=
  (∃ t, exec c s = .next t ∧ t.pos = p ∧
    SameBut { lp := true, sru := true, pos := true, lc := true, trk := true, hd := true, arb := true, bag := true, tie := true, crm := true, tot := true, refs := true } s t) ∧
  ((∀ e ∈ (atPosition p u).stations s.pos, p < e.1) → p < Config.posMax → exec c s = .next (atPosition p u)) ∧
  (∀ v e, s.pos < p → p < Config.posMax → firstStation ((atPosition p u).stations s.pos) = some (v, e) → v ≤ p →
    let n := settle (atPosition p u) (max s.pos v) (takeStation e (atPosition p u))
    (n.sru.state = .idle ∨ ∀ e ∈ n.stations (max s.pos v), n.pos < e.1) → exec c s = .next n) ∧
  (s.pos < p → p = Config.posMax → (∀ e ∈ (atPosition p u).stations s.pos, p < e.1) →
    s.lc.state = .starting ∨ s.lc.state = .running ∨ s.lc.state = .draining →
    ∃ w, HaltTaken .positionLimit (atPosition p u) w ∧ exec c s = .next (settle (atPosition p u) p w))

theorem atPosition_same {p : Nat} (same : p = u.pos) : atPosition p u = u := by
  subst same
  rfl

theorem moved_of_advance {d p : Nat} {c : Instr} (range : s.pos ≤ Config.posMax) (turns : s.sru.state ≠ .idle)
    (value : min Config.posMax (s.pos + d) = p)
    (frame : SameBut { sru := true } s u) (state : u.sru.state = s.sru.state) (served : exec c s = .next (advance d u)) :
    Moved p s u c := by
  have pos : u.pos = s.pos := kept_pos frame rfl
  have turning : u.sru.state ≠ .idle := by rwa [state]
  have line : u.lc = s.lc := kept_lc frame rfl rfl
  have moves := advance_moves d turning (by rwa [pos])
  have before := advance_on (d := d) turning
  have last := advance_last (d := d) turning
  have stays := advance_none (d := d) (s := u)
  have least : ¬ s.pos < p → p = s.pos := by omega
  rw [pos, value] at moves before last stays
  refine ⟨⟨_, served, ?_, ?_⟩, fun ahead under => ?_, fun v e forward under first reached quiet => ?_,
    fun forward top ahead moving => ?_⟩
  · exact (kept_pos moves rfl).trans rfl
  · have put : SameBut { sru := true, pos := true } u (atPosition p u) := by
      simp [SameBut, State.without, atPosition, State.onSru]
    exact (moves.widen fun _ => rfl).trans ((put.widen fun _ => rfl).trans (frame.widen fun _ => rfl))
  · rw [served]
    by_cases forward : s.pos < p
    · rw [before forward under, takeReached_nothing (.inr ahead)]
    · have same := least forward
      rw [stays (.inr same.le), atPosition_same (same.trans pos.symm)]
  · rw [served, before forward under]
    have step : stationFuel = 9999 + 1 := rfl
    have reached : v ≤ (atPosition p u).pos := reached
    have turning : (atPosition p u).sru.state ≠ .idle := turning
    rw [step, takeReached_first turning first reached, takeReached_nothing quiet]
  · refine ⟨_, enterHalted_taken _ _, ?_⟩
    rw [served, last forward top (takeReached_nothing (.inr ahead)), haltLine_moving]
    show u.lc.state = _ ∨ u.lc.state = _ ∨ u.lc.state = _
    rwa [line]

theorem pulse_moves (on : s.powered = true) (range : s.pos ≤ Config.posMax) {src : LineSource}
    (selected : s.sru.selected = .encoder src) (turns : s.sru.state ≠ .idle) :
    Moved (min Config.posMax (s.pos + s.sru.inc src)) s (countPulse src s) (.lineEncoderPulse src) := by
  have served := pulse_effect on src
  rw [if_pos selected] at served
  have state : (countPulse src s).sru.state = s.sru.state := by cases src <;> rfl
  exact moved_of_advance range turns rfl (countPulse_without s src rfl) state served

theorem pulse_counted (on : s.powered = true) {src : LineSource}
    (other : s.sru.selected ≠ .encoder src ∨ s.sru.state = .idle) :
    exec (.lineEncoderPulse src) s = .next (countPulse src s) := by
  rw [pulse_effect on src]
  split
  · next selected =>
    have idle : (countPulse src s).sru.state = .idle := by
      rcases other with unselected | idle
      · exact absurd selected unselected
      · rw [← idle]
        cases src <;> rfl
    rw [advance_none (.inl idle)]
  · rfl

theorem pacer_moves (on : s.powered = true) (range : s.pos ≤ Config.posMax) {n ms : Nat}
    (selected : s.sru.selected = .pacer) (turns : s.sru.state ≠ .idle)
    (total : s.sru.pacerSpeed * 65536 * ms + s.sru.pacerCarry = n) :
    Moved (min Config.posMax (s.pos + n / 1000)) s (s.onSru fun x => { x with pacerCarry := n % 1000 }) (.pacerAdvance ms) := by
  have unit : Config.tu = 65536 := rfl
  have served := pacer_effect on ms
  rw [if_pos ⟨selected, turns⟩, unit, total] at served
  exact moved_of_advance range turns rfl (without_onSru s _ rfl fun _ => rfl) rfl served

theorem pacer_idle (on : s.powered = true) {ms : Nat} (other : s.sru.selected ≠ .pacer ∨ s.sru.state = .idle) :
    exec (.pacerAdvance ms) s = .next s := by
  rw [pacer_effect on, if_neg]
  rintro ⟨selected, turns⟩
  exact other.elim (absurd selected) fun idle => turns idle

/-- Settles O15: each event by whether its source is selected, and an advance by the first of the stations it reaches. -/
theorem pulsesMoveThePosition : Obligations.PulsesMoveThePosition := by
  intro s on range
  refine ⟨fun src selected turns => ?_, fun src other => ?_, fun ms =>
    ⟨fun selected turns => ?_, fun other => pacer_idle on other⟩⟩
  · have moves := pulse_moves on range selected turns
    rw [countPulse_as] at moves
    unfold Moved atPosition at moves
    dsimp only at moves ⊢
    exact moves
  · rw [pulse_counted on other, countPulse_as]
  · have moves := pacer_moves (ms := ms) on range selected turns rfl
    unfold Moved atPosition at moves
    dsimp only at moves ⊢
    exact moves

end Sys2Proof.Machine
end

section
/-! PROOFS. The verify station, the code reader's answers and the burst (R118 to R125). -/

namespace Sys2Proof.Machine

variable {s t u : State}

/-! ### A burst (R124, R125) -/

/-- The values of the tyer that a burst leaves. -/
structure ReadsKept (s u : State) : Prop where
  openReads : u.tie.openReads = s.tie.openReads
  counters : u.tie.counters = s.tie.counters
  capture : u.tie.capture = s.tie.capture

/-- What finding a burst makes of the tyer (R125). -/
structure BurstFound (s u : State) : Prop where
  frame : SameBut { lp := true, tie := true } s u
  lasts : ∀ k, s.flag k = true → u.flag k = true
  reads : ReadsKept s u
  burst : u.tie.burst = s.tie.burst
  ready : s.tie.state = .ready → u.tie.state = .reindexPending ∧ u.tie.owed = s.tie.owed ∧ u.flag .tyerReindex = true
  empty : s.tie.state = .empty → u.tie.state = .empty ∧ u.tie.owed = true ∧ (s.tie.owed = false → u.flag .tyerReindex = true)
  pending : s.tie.state = .reindexPending ∨ s.tie.state = .reindex → u.tie.state = s.tie.state ∧ u.tie.owed = s.tie.owed

theorem raise_keepsFlag {k j : Kind} {x : List Byte} (set : s.flag k = true) : (raise j x s).flag k = true := by
  rw [raise_flag, set]
  rfl

theorem raise_setsFlag (k : Kind) (x : List Byte) (s : State) : (raise k x s).flag k = true := by simp

theorem burstFound_found (s : State) : BurstFound s (burstFound s) := by
  unfold burstFound
  split
  · next ready =>
    refine ⟨(raise_without _ _ _ rfl).trans (without_onTie _ _ rfl), fun k set => raise_keepsFlag set, ⟨rfl, rfl, rfl⟩, rfl,
      fun _ => ⟨rfl, rfl, raise_setsFlag ..⟩, fun empty => absurd (ready.symm.trans empty) nofun, fun pending => ?_⟩
    rw [ready] at pending
    exact absurd pending (by simp)
  · next empty =>
    split
    · next owed =>
      refine ⟨rfl, fun k set => set, ⟨rfl, rfl, rfl⟩, rfl, fun ready => absurd (empty.symm.trans ready) nofun,
        fun _ => ⟨empty, owed, fun clear => absurd (owed.symm.trans clear) nofun⟩, fun _ => ⟨rfl, rfl⟩⟩
    · next clear =>
      refine ⟨(raise_without _ _ _ rfl).trans (without_onTie _ _ rfl), fun k set => raise_keepsFlag set, ⟨rfl, rfl, rfl⟩, rfl,
        fun ready => absurd (empty.symm.trans ready) nofun, fun _ => ⟨empty, rfl, fun _ => raise_setsFlag ..⟩, fun pending => ?_⟩
      rw [empty] at pending
      exact absurd pending (by simp)
  · next notReady notEmpty =>
    exact ⟨rfl, fun k set => set, ⟨rfl, rfl, rfl⟩, rfl, fun ready => absurd ready notReady, fun empty => absurd empty notEmpty,
      fun _ => ⟨rfl, rfl⟩⟩

/-- The burst window with a loaf's entry marked bad. -/
def badMarked (loaf : Nat) (w : List BurstEntry) : List BurstEntry :=
  w.map fun e => if e.loaf = loaf then { e with bad := true } else e

/-- A burst is found at a bad read of a loaf (R124). -/
def BurstDue (loaf : Nat) (s : State) : Prop :=
  (∃ e ∈ s.tie.burst, e.loaf = loaf) ∧ s.set.burstLimit ≤ ((badMarked loaf s.tie.burst).filter (·.bad)).length

theorem badMarked_absent {loaf : Nat} {w : List BurstEntry} (absent : ¬∃ e ∈ w, e.loaf = loaf) : badMarked loaf w = w := by
  have each : ∀ e ∈ w, (if e.loaf = loaf then { e with bad := true } else e) = e := fun e he =>
    if_neg fun same => absent ⟨e, he, same⟩
  rw [badMarked, List.map_congr_left each, List.map_id']

/-- What a bad read makes of the burst window and the tyer. -/
structure BadMarked (loaf : Nat) (s u : State) : Prop where
  frame : SameBut { lp := true, tie := true } s u
  lasts : ∀ k, s.flag k = true → u.flag k = true
  reads : ReadsKept s u
  burst : u.tie.burst = badMarked loaf s.tie.burst
  ready : BurstDue loaf s → s.tie.state = .ready →
    u.tie.state = .reindexPending ∧ u.tie.owed = s.tie.owed ∧ u.flag .tyerReindex = true
  empty : BurstDue loaf s → s.tie.state = .empty →
    u.tie.state = .empty ∧ u.tie.owed = true ∧ (s.tie.owed = false → u.flag .tyerReindex = true)
  still : ¬BurstDue loaf s ∨ s.tie.state = .reindexPending ∨ s.tie.state = .reindex →
    u.tie.state = s.tie.state ∧ u.tie.owed = s.tie.owed

theorem markBad_marked (loaf : Nat) (s : State) : BadMarked loaf s (markBad loaf s) := by
  unfold markBad
  by_cases stands : ∃ e ∈ s.tie.burst, e.loaf = loaf
  · have any : (s.tie.burst.any fun e => e.loaf == loaf) = true := by
      obtain ⟨e, he, same⟩ := stands
      exact List.any_eq_true.2 ⟨e, he, beq_iff_eq.2 same⟩
    rw [if_pos any]
    dsimp only
    split
    · next reached =>
      have due : BurstDue loaf s := ⟨stands, reached⟩
      obtain ⟨frame, lasts, ⟨reads, counters, capture⟩, burst, ready, empty, pending⟩ := burstFound_found (s.onTie fun t => { t with burst := badMarked loaf t.burst })
      exact ⟨frame.trans (without_onTie _ _ rfl), lasts, ⟨reads, counters, capture⟩, burst, fun _ => ready, fun _ => empty,
        fun still => still.elim (absurd due) pending⟩
    · next under =>
      have quiet : ¬BurstDue loaf s := fun due => under due.2
      exact ⟨without_onTie _ _ rfl, fun k set => set, ⟨rfl, rfl, rfl⟩, rfl, fun due => absurd due quiet, fun due => absurd due quiet,
        fun _ => ⟨rfl, rfl⟩⟩
  · have none : ¬(s.tie.burst.any fun e => e.loaf == loaf) = true := fun any => by
      obtain ⟨e, he, same⟩ := List.any_eq_true.1 any
      exact stands ⟨e, he, beq_iff_eq.1 same⟩
    have quiet : ¬BurstDue loaf s := fun due => stands due.1
    rw [if_neg none]
    exact ⟨rfl, fun k set => set, ⟨rfl, rfl, rfl⟩, (badMarked_absent stands).symm, fun due => absurd due quiet,
      fun due => absurd due quiet, fun _ => ⟨rfl, rfl⟩⟩

/-- The values of the tyer that a burst is found by. -/
structure BurstAlike (s t : State) : Prop where
  burst : t.tie.burst = s.tie.burst
  state : t.tie.state = s.tie.state
  owed : t.tie.owed = s.tie.owed
  set : t.set = s.set

/-- A bad read of a record without the challenge mark, from the state in which the read is resolved. -/
theorem burstTaken_of_marked {r : Rec} (plain : r.challenge = false) (alike : BurstAlike s t) (marked : BadMarked r.loaf t u) :
    BurstTaken r s u := by
  obtain ⟨burst, state, owed, set⟩ := alike
  obtain ⟨-, -, -, window, ready, empty, still⟩ := marked
  have same : MarkedBurst s r = badMarked r.loaf s.tie.burst := by
    rw [MarkedBurst, plain]
    rfl
  rw [burst] at window
  rw [state, owed] at ready empty still
  unfold BurstDue at ready empty still
  rw [burst, set] at ready empty still
  unfold BurstTaken
  dsimp only
  rw [same, plain]
  refine ⟨window, fun due => ready due.2, fun due => empty due.2, fun quiet => still ?_⟩
  exact quiet.imp_left fun none due => none ⟨rfl, due⟩

/-- A bad read of a challenge record marks nothing. -/
theorem burstTaken_of_challenge {r : Rec} (test : r.challenge = true) (burst : u.tie.burst = s.tie.burst)
    (state : u.tie.state = s.tie.state) (owed : u.tie.owed = s.tie.owed) : BurstTaken r s u := by
  unfold BurstTaken MarkedBurst
  dsimp only
  rw [test]
  refine ⟨burst, fun ⟨plain, _⟩ => absurd plain nofun, fun ⟨plain, _⟩ => absurd plain nofun, fun _ => ⟨state, owed⟩⟩

/-! ### A read is resolved (R118, R120, R121) -/

/-- The open read leaves the open reads. -/
def readLeft (o : OpenRead) (s : State) : State :=
  s.onTie fun t => { t with openReads := t.openReads.filter fun x => x.trigger != o.trigger }

theorem resolveRead_of {o : OpenRead} {r : Rec} (found : s.find o.loaf = some r) (a : Option Answered) :
    resolveRead o a s = if r.challenge then resolveChallenge r a (readLeft o s) else resolvePlain r a (readLeft o s) := by
  rw [resolveRead, found]
  rfl

theorem readDone_loaf (r : Rec) (x : ReadResult) (reason : Option Reason) : (r.readDone x reason).loaf = r.loaf := by
  cases reason with
  | none => rfl
  | some y => exact addReason_loaf r y

theorem readDone_tied {r : Rec} (tied : r.state = .tied) (x : ReadResult) :
    r.readDone x none = { r with read := some x, state := .checked } := by
  simp [Rec.readDone, tied]

theorem readDone_tied_reason {r : Rec} (tied : r.state = .tied) (x : ReadResult) (y : Reason) :
    r.readDone x (some y) = { r.addReason y with read := some x, state := .checked } := by
  simp [Rec.readDone, tied]

/-- The read result written into the record, its open read having left. -/
def readWritten (o : OpenRead) (r : Rec) (x : ReadResult) (reason : Option Reason) (s : State) : State :=
  onRec r.loaf (·.readDone x reason) (readLeft o s)

theorem readWritten_becomes (o : OpenRead) (r : Rec) (x : ReadResult) (reason : Option Reason) (s : State) :
    RecordBecomes r (r.readDone x reason) s (readWritten o r x reason s) :=
  onRec_becomes r (·.readDone x reason) (fun y => readDone_loaf y x reason) (readLeft o s)

theorem readWritten_frame (o : OpenRead) (r : Rec) (x : ReadResult) (reason : Option Reason) (s : State) :
    SameBut { trk := true, tie := true } s (readWritten o r x reason s) :=
  (onRec_without (readLeft o s) r.loaf _ rfl).trans (without_onTie s _ rfl)

theorem readWritten_tie (o : OpenRead) (r : Rec) (x : ReadResult) (reason : Option Reason) (s : State) :
    (readWritten o r x reason s).tie =
      { s.tie with openReads := s.tie.openReads.filter fun y => y.trigger != o.trigger } := rfl

theorem onCounters_frame (f : CodeCounters → CodeCounters) (s : State) : SameBut { trk := true, tie := true } s (onCounters f s) :=
  without_onTie s _ rfl

/-- A read that ends without an answer (R120, R121, R124). -/
structure ReadMissed (o : OpenRead) (r : Rec) (s u : State) : Prop where
  frame : SameBut { lp := true, trk := true, tie := true } s u
  record : RecordBecomes r { r.addReason .noRead with read := some .noRead, state := .checked } s u
  openReads : u.tie.openReads = s.tie.openReads.filter fun x => x.trigger != o.trigger
  counters : u.tie.counters = { s.tie.counters with noReads := min 4294967295 (s.tie.counters.noReads + 1) }
  capture : u.tie.capture = s.tie.capture
  burst : BurstTaken r s u

/-- The record of a missed read and the counter, before the burst window is looked at. -/
def readUnanswered (o : OpenRead) (r : Rec) (s : State) : State :=
  onCounters (fun c => { c with noReads := bump32 c.noReads }) (readWritten o r .noRead (some .noRead) s)

theorem readUnanswered_frame (o : OpenRead) (r : Rec) (s : State) :
    SameBut { lp := true, trk := true, tie := true } s (readUnanswered o r s) := by
  have frame : SameBut { trk := true, tie := true } s (readUnanswered o r s) := (onCounters_frame _ _).trans (readWritten_frame ..)
  exact frame.widen fun _ => rfl

theorem resolveRead_missed {o : OpenRead} {r : Rec} (found : s.find o.loaf = some r) (tied : r.state = .tied) :
    ReadMissed o r s (resolveRead o none s) := by
  have becomes : RecordBecomes r { r.addReason .noRead with read := some .noRead, state := .checked } s (readUnanswered o r s) := by
    rw [← readDone_tied_reason tied]
    exact (readWritten_becomes o r .noRead (some .noRead) s).of_trk rfl
  rw [resolveRead_of found]
  cases test : r.challenge with
  | true =>
    have same : resolveChallenge r none (readLeft o s) = readUnanswered o r s := rfl
    rw [if_pos rfl, same]
    exact ⟨readUnanswered_frame o r s, becomes, rfl, rfl, rfl, burstTaken_of_challenge test rfl rfl rfl⟩
  | false =>
    have same : resolvePlain r none (readLeft o s) = markBad r.loaf (readUnanswered o r s) := rfl
    rw [if_neg nofun, same]
    have marked := markBad_marked r.loaf (readUnanswered o r s)
    obtain ⟨frame, -, ⟨openReads, counters, capture⟩, -⟩ := id marked
    refine ⟨(frame.widen fun _ => rfl).trans (readUnanswered_frame o r s), becomes.of_trk (kept_trk frame rfl), openReads, counters,
      capture, burstTaken_of_marked (t := readUnanswered o r s) test ⟨rfl, rfl, rfl, rfl⟩ marked⟩

/-! ### An answer (R118) -/

theorem parseAnswer_text {trig : Byte} {text : List Byte} (length : text.length = 8)
    (printable : ∀ b ∈ text, 0x20 ≤ b.toNat ∧ b.toNat ≤ 0x7E) :
    parseAnswer (0x52 :: trig :: text) = some (trig.toNat, .text text) := by
  have shown : text.all (fun b => decide (0x20 ≤ b.toNat ∧ b.toNat ≤ 0x7E)) = true :=
    List.all_eq_true.2 fun b hb => decide_eq_true (printable b hb)
  have zeros : ¬ text.all (· == 0) = true := fun all => by
    match text, length with
    | b :: rest, _ =>
      obtain ⟨low, -⟩ := printable b List.mem_cons_self
      have zero := beq_iff_eq.1 (List.all_eq_true.1 all b List.mem_cons_self)
      rw [zero] at low
      exact absurd low (by decide)
  rw [parseAnswer, if_pos ⟨rfl, length⟩, if_neg zeros, if_pos shown]

theorem parseAnswer_noClip (trig : Byte) : parseAnswer (0x52 :: trig :: List.replicate 8 0) = some (trig.toNat, .noClip) := by
  rw [parseAnswer, if_pos ⟨rfl, List.length_replicate⟩]
  rfl

theorem answer_effect (on : s.powered = true) {bytes : List Byte} {n : Nat} {a : Answered} {o : OpenRead}
    (parsed : parseAnswer bytes = some (n, a))
    (waits : s.tie.openReads.find? (fun x => x.trigger == n && decide (s.pos ≤ x.windowEnd)) = some o) :
    Effect (.codeReaderAnswer bytes) s (resolveRead o (some a) s) := by
  have served : exec (.codeReaderAnswer bytes) s = execCodeReaderAnswer bytes s := rfl
  rw [Effect, served, execCodeReaderAnswer, whenPowered_event on, parsed]
  dsimp only
  rw [waits]

theorem answer_stray (on : s.powered = true) {bytes : List Byte} (stray : parseAnswer bytes = none ∨
    ∃ n a, parseAnswer bytes = some (n, a) ∧ ∀ o ∈ s.tie.openReads, o.trigger = n → o.windowEnd < s.pos) :
    exec (.codeReaderAnswer bytes) s = .next (strayAnswer s) := by
  have served : exec (.codeReaderAnswer bytes) s = execCodeReaderAnswer bytes s := rfl
  rw [served, execCodeReaderAnswer, whenPowered_event on]
  obtain unread | ⟨n, a, parsed, passed⟩ := stray
  · rw [unread]
  · have none : s.tie.openReads.find? (fun x => x.trigger == n && decide (s.pos ≤ x.windowEnd)) = none := by
      rw [List.find?_eq_none]
      intro o ho both
      simp only [Bool.and_eq_true, beq_iff_eq, decide_eq_true_eq] at both
      exact absurd (passed o ho both.1) (Nat.not_lt.2 both.2)
    rw [parsed]
    dsimp only
    rw [none]

/-! ### The answers of a record without the challenge mark (R120) -/

/-- A resolved read that is counted. -/
def readCounted (o : OpenRead) (r : Rec) (x : ReadResult) (reason : Option Reason) (s : State) : State :=
  onCounters (fun c => { c with reads := bump32 c.reads }) (readWritten o r x reason s)

theorem readCounted_frame (o : OpenRead) (r : Rec) (x : ReadResult) (reason : Option Reason) (s : State) :
    SameBut { trk := true, tie := true } s (readCounted o r x reason s) :=
  (onCounters_frame _ _).trans (readWritten_frame ..)

theorem readCounted_becomes (o : OpenRead) (r : Rec) (x : ReadResult) (reason : Option Reason) (s : State) :
    RecordBecomes r (r.readDone x reason) s (readCounted o r x reason s) :=
  (readWritten_becomes o r x reason s).of_trk rfl

theorem readCounted_tie (o : OpenRead) (r : Rec) (x : ReadResult) (reason : Option Reason) (s : State) :
    (readCounted o r x reason s).tie = { s.tie with
      openReads := s.tie.openReads.filter fun y => y.trigger != o.trigger
      counters := { s.tie.counters with reads := min 4294967295 (s.tie.counters.reads + 1) } } := rfl

theorem resolvePlain_match {o : OpenRead} {r : Rec} {code : List Byte} (expected : r.expected = some code) :
    resolvePlain r (some (.text code)) (readLeft o s) = readCounted o r .match none s := by
  rw [resolvePlain, expected]
  exact if_pos rfl

theorem resolve_noClip {o : OpenRead} {r : Rec} (found : s.find o.loaf = some r) :
    resolveRead o (some .noClip) s = readCounted o r .noClip (some .noClip) s := by
  rw [resolveRead_of found]
  split <;> rfl

/-- A mismatch written, counted and captured, with its notice (R120, R194). -/
def mismatched (o : OpenRead) (r : Rec) (code text : List Byte) (s : State) : State :=
  let v := (onCounters (fun c => { c with reads := bump32 c.reads, mismatches := satAdd 255 c.mismatches 1 })
    (readWritten o r (.mismatch text) (some .mismatch) s)).onTie fun x => { x with capture := some ⟨r.loaf, code, text⟩ }
  raise .codeMismatch (leBytes 4 r.loaf ++ padTo 8 code ++ padTo 8 text ++ [byteOf v.tie.counters.mismatches]) v

theorem resolvePlain_mismatch {o : OpenRead} {r : Rec} {code text : List Byte} (expected : r.expected = some code)
    (differs : text ≠ code) :
    resolvePlain r (some (.text text)) (readLeft o s) = markBad r.loaf (mismatched o r code text s) := by
  rw [resolvePlain, expected]
  exact if_neg differs

theorem mismatched_frame (o : OpenRead) (r : Rec) (code text : List Byte) (s : State) :
    SameBut { lp := true, trk := true, tie := true } s (mismatched o r code text s) := by
  unfold mismatched
  have counted : ∀ f, SameBut { trk := true, tie := true } s (onCounters f (readWritten o r (.mismatch text) (some .mismatch) s)) :=
    fun f => (onCounters_frame f _).trans (readWritten_frame ..)
  exact (raise_without _ _ _ rfl).trans ((without_onTie _ _ rfl).trans ((counted _).widen fun _ => rfl))

/-! ### The answers of a challenge record (R121, R122) -/

theorem resolveChallenge_other {o : OpenRead} {r : Rec} {code text : List Byte} (expected : r.expected = some code)
    (uncaught : text ≠ challengeCode code) (differs : text ≠ code) :
    resolveChallenge r (some (.text text)) (readLeft o s) = readCounted o r (.mismatch text) none s := by
  rw [resolveChallenge, expected]
  exact (if_neg uncaught).trans (if_neg differs)

theorem resolveChallenge_caught {o : OpenRead} {r : Rec} {code : List Byte} (expected : r.expected = some code) :
    resolveChallenge r (some (.text (challengeCode code))) (readLeft o s) =
      lineEvent (fun sh => { sh with caught := bump32 sh.caught })
        (onCounters (fun c => { c with caught := bump32 c.caught })
          (readCounted o r (.mismatch (challengeCode code)) none s)) := by
  rw [resolveChallenge, expected]
  exact if_pos rfl

theorem resolveChallenge_blind {o : OpenRead} {r : Rec} {code : List Byte} (expected : r.expected = some code)
    (uncaught : code ≠ challengeCode code) :
    resolveChallenge r (some (.text code)) (readLeft o s) = blindRead r (readCounted o r .match none s) := by
  rw [resolveChallenge, expected]
  exact (if_neg uncaught).trans (if_pos rfl)

/-- The verifier found blind: the latch, the notice, and the drain of a line that can drain (R122, R179). -/
structure BlindTaken (s u : State) : Prop where
  frame : SameBut { lp := true, lc := true, tie := true } s u
  tie : u.tie = { s.tie with blind := true }
  flag : u.flag .verifierBlind = true
  drains : s.lc.state = .running ∨ s.lc.state = .starting → u.flag .lineState = true ∧ u.lc = { s.lc with
    state := .draining, cause := .verifierBlind, startLimit := none, silence := none }
  stays : s.lc.state ≠ .running → s.lc.state ≠ .starting → u.lc = s.lc

theorem blindRead_taken {r : Rec} (records : s.tableCount ≠ 0) : BlindTaken s (blindRead r s) := by
  unfold blindRead
  dsimp only
  generalize raised : raise .verifierBlind (leBytes 4 r.loaf ++ padTo 8 (r.expected.getD []) ++
    padTo 8 (challengeCode (r.expected.getD []))) (s.onTie fun t => { t with blind := true }) = v
  have frame : SameBut { lp := true, tie := true } s v := by
    rw [← raised]
    exact (raise_without _ _ _ rfl).trans (without_onTie s _ rfl)
  have tie : v.tie = { s.tie with blind := true } := by rw [← raised]; rfl
  have flag : v.flag .verifierBlind = true := by rw [← raised]; exact raise_setsFlag ..
  have lc : v.lc = s.lc := kept_lc frame rfl rfl
  have table : v.tableCount ≠ 0 := by rwa [tableCount_of_trk (kept_trk frame rfl)]
  by_cases moving : s.lc.state = .running ∨ s.lc.state = .starting
  · rw [requestDrain_drains (moving.imp (by rw [lc]; exact id) fun starting => ⟨by rw [lc]; exact starting, table⟩)]
    have drains : SameBut { lp := true, lc := true, tie := true } v (enterDraining .verifierBlind v) := by
      simp [SameBut, enterDraining, setLine]
    refine ⟨drains.trans (frame.widen fun _ => rfl), tie, (lasts_enterDraining v _).flags _ flag,
      fun _ => ⟨enterDraining_flag _ _, by rw [enterDraining_lc, lc]⟩, fun notRunning notStarting => ?_⟩
    exact absurd moving (not_or.2 ⟨notRunning, notStarting⟩)
  · obtain ⟨notRunning, notStarting⟩ := not_or.1 moving
    rw [requestDrain_idle ⟨by rw [lc]; exact notStarting, by rw [lc]; exact notRunning⟩]
    exact ⟨frame.widen fun _ => rfl, tie, flag, fun moves => absurd moves moving, fun _ _ => lc⟩

/-! ### The verify station (R118, R119) -/

theorem postStation_verify {r : Rec} (tied : r.state = .tied) (none : ∀ o ∈ s.tie.openReads, o.loaf ≠ r.loaf) :
    s.postStation r = some (r.mergeLead.getD 0 + s.set.dVerify * 65536, .verify r) := by
  have absent : s.tie.openReads.find? (fun o => o.loaf == r.loaf) = Option.none := by
    rw [List.find?_eq_none]
    intro o ho same
    exact none o ho (beq_iff_eq.1 same)
  unfold State.postStation
  dsimp only
  rw [tied]
  dsimp only
  rw [absent]
  rfl

theorem postStation_readEnd {r : Rec} {o : OpenRead} (tied : r.state = .tied)
    (waits : s.tie.openReads.find? (fun o => o.loaf == r.loaf) = some o) :
    s.postStation r = some (o.windowEnd + 1, .readEnd o) := by
  unfold State.postStation
  dsimp only
  rw [tied]
  dsimp only
  rw [waits]
  rfl

theorem nextTrigger_eq (n : Nat) : (n + 1) % 256 = if n = 255 then 0 else (n + 1) % 256 := by
  split
  · next last => rw [last]
  · rfl

/-- A verify station with an expected code triggers the read (R118). -/
theorem verifyStation_triggers {r : Rec} {code : List Byte} (expected : r.expected = some code) :
    takeStation (.verify r) s = { s with tie := { s.tie with
      openReads := s.tie.openReads ++
        [⟨s.tie.nextTrigger, r.loaf, r.mergeLead.getD 0 + (s.set.dVerify + s.set.readWindow) * 65536⟩]
      nextTrigger := if s.tie.nextTrigger = 255 then 0 else (s.tie.nextTrigger + 1) % 256
      readerTrigger := some [0x54, byteOf s.tie.nextTrigger] } } := by
  rw [← nextTrigger_eq]
  show verifyStation r s = _
  rw [verifyStation, expected]
  rfl

/-- What a verify station makes of a record without an expected code (R119). -/
def unreadRec (r : Rec) : Rec :=
  if r.bagResult = some .notBagged then { r with state := .checked }
  else { r.addReason .noClip with read := some .noClip, state := .checked }

theorem verifyStation_unread {r : Rec} (none : r.expected = none) :
    SameBut { trk := true } s (takeStation (.verify r) s) ∧ RecordBecomes r (unreadRec r) s (takeStation (.verify r) s) := by
  have loaf : ∀ x : Rec, (unreadRec x).loaf = x.loaf := fun x => by
    unfold unreadRec
    split
    · rfl
    · exact addReason_loaf x .noClip
  have passes : takeStation (.verify r) s = onRec r.loaf unreadRec s := by
    show verifyStation r s = _
    rw [verifyStation, none]
    rfl
  rw [passes]
  exact ⟨onRec_without s r.loaf _ rfl, onRec_becomes r unreadRec loaf s⟩

/-! ### The claim -/

theorem tableCount_of_find {n : Nat} {r : Rec} (found : s.find n = some r) : s.tableCount ≠ 0 := fun empty => by
  have none : s.records = [] := List.eq_nil_of_length_eq_zero empty
  rw [State.find, none] at found
  exact nomatch found

/-- Settles O34: the verify station by the record's code, a read by its answer and the record's challenge mark. -/
theorem codeReaderAnswers : Obligations.CodeReaderAnswers := by
  refine ⟨fun s r tied found => ⟨fun none => ⟨postStation_verify tied none, fun code => verifyStation_triggers,
    verifyStation_unread⟩, fun o waits => ⟨postStation_readEnd tied waits, ?_⟩⟩, fun s on => ⟨fun bytes => answer_stray on, ?_⟩⟩
  · have same : o.loaf = r.loaf := beq_iff_eq.1 (List.find?_some (p := fun o : OpenRead => o.loaf == r.loaf) waits)
    obtain ⟨frame, record, openReads, counters, capture, burst⟩ := resolveRead_missed (same.symm ▸ found) tied
    exact ⟨_, rfl, frame, record, openReads, counters, capture, burst⟩
  · intro o r code trig text waits found expected tied length printable
    have effect := answer_effect on (parseAnswer_text length printable) waits
    have clipless := answer_effect on (parseAnswer_noClip trig) waits
    have loaf : r.loaf = o.loaf := loaf_of_find found
    rw [resolve_noClip found] at clipless
    rw [resolveRead_of found] at effect
    dsimp only
    refine ⟨fun plain same => ?_, fun plain differs => ?_, fun test caught => ?_, fun test differs uncaught => ?_,
      ⟨_, clipless, readCounted_frame .., ?_, readCounted_tie ..⟩, fun test same uncaught => ?_⟩
    · subst same
      rw [plain, if_neg nofun, resolvePlain_match expected] at effect
      refine ⟨_, effect, readCounted_frame .., ?_, readCounted_tie ..⟩
      rw [← readDone_tied tied]
      exact readCounted_becomes _ _ _ _ _
    · rw [plain, if_neg nofun, resolvePlain_mismatch expected differs] at effect
      have marked := markBad_marked r.loaf (mismatched o r code text s)
      obtain ⟨frame, flags, ⟨openReads, counters, capture⟩, -⟩ := id marked
      refine ⟨_, effect, (frame.widen fun _ => rfl).trans (mismatched_frame o r code text s), flags _ (raise_setsFlag ..), ?_,
        openReads, ?_, counters, burstTaken_of_marked (t := mismatched o r code text s) plain ⟨rfl, rfl, rfl, rfl⟩ marked⟩
      · rw [← readDone_tied_reason tied]
        exact (readWritten_becomes o r (.mismatch text) (some .mismatch) s).of_trk ((kept_trk frame rfl).trans rfl)
      · rw [capture, ← loaf]
        rfl
    · subst caught
      rw [test, if_pos rfl, resolveChallenge_caught expected] at effect
      refine ⟨_, effect, ?_, ?_, ?_, ?_⟩
      · refine (lineEvent_without _ _ rfl).trans ?_
        have frame : SameBut { trk := true, tie := true } s (onCounters (fun c => { c with caught := bump32 c.caught })
            (readCounted o r (.mismatch (challengeCode code)) none s)) := (onCounters_frame _ _).trans (readCounted_frame ..)
        exact frame.widen fun _ => rfl
      · rw [← readDone_tied tied]
        refine (readCounted_becomes o r (.mismatch (challengeCode code)) none s).of_trk ?_
        exact (kept_trk (lineEvent_without (b := { tot := true }) _ _ rfl) rfl).trans rfl
      · exact (kept_tie (lineEvent_without (b := { tot := true }) _ _ rfl) rfl).trans rfl
      · exact (lineEvent_counted _ _).of_tot rfl rfl
    · rw [test, if_pos rfl, resolveChallenge_other expected uncaught differs] at effect
      refine ⟨_, effect, readCounted_frame .., ?_, readCounted_tie ..⟩
      rw [← readDone_tied tied]
      exact readCounted_becomes _ _ _ _ _
    · rw [← readDone_tied_reason tied]
      exact readCounted_becomes _ _ _ _ _
    · subst same
      rw [test, if_pos rfl, resolveChallenge_blind expected uncaught] at effect
      have table : (readCounted o r .match none s).tableCount ≠ 0 :=
        tableCount_of_find (readCounted_becomes o r .match none s (loaf ▸ found)).1
      obtain ⟨frame, tie, flag, drains, stays⟩ := blindRead_taken (r := r) table
      have counted : SameBut { lp := true, lc := true, trk := true, tie := true } s (readCounted o r .match none s) :=
        (readCounted_frame o r .match none s).widen fun _ => rfl
      refine ⟨_, effect, (frame.widen fun _ => rfl).trans counted, ?_, tie, flag, drains, stays⟩
      rw [← readDone_tied tied]
      exact (readCounted_becomes o r .match none s).of_trk (kept_trk frame rfl)

end Sys2Proof.Machine
end

section
/-! PROOFS. The completion of a purge (R76, R80, R133, R142, R143). -/

namespace Sys2Proof.Machine

variable {s t u : State}

/-! ### Flags that a lane fault and a drain leave -/

/-- A flag that reads in one state as in another. -/
def FlagStays (k : Kind) (s t : State) : Prop := t.flag k = s.flag k

theorem FlagStays.trans {k : Kind} (h : FlagStays k s t) (j : FlagStays k t u) : FlagStays k s u := Eq.trans j h

theorem raise_stays {k j : Kind} (other : k ≠ j) (x : List Byte) (s : State) : FlagStays k s (raise j x s) := by
  rw [FlagStays, raise_flag, decide_eq_false other, Bool.or_false]

theorem setLine_stays {k : Kind} (other : k ≠ .lineState) (st : LineState) (s : State) : FlagStays k s (setLine st s) :=
  (raise_stays other _ _).trans rfl

theorem setLaneState_stays {k : Kind} (other : k ≠ .laneChange) (st : LaneState) (l : Lane) (s : State) :
    FlagStays k s (setLaneState st l s) := by
  unfold setLaneState
  split
  · rfl
  · exact FlagStays.trans (t := onLane l (fun c => { c with state := st }) s) rfl (raise_stays other _ _)

theorem stopBladeIf_stays (k : Kind) (p : BladeState → Bool) (l : Lane) (s : State) : FlagStays k s (stopBladeIf p l s) := by
  unfold stopBladeIf
  split <;> rfl

theorem laneOutOfMotion_stays {k : Kind} (other : k ≠ .laneChange) (l : Lane) (s : State) :
    FlagStays k s (laneOutOfMotion l s) := by
  have ended : FlagStays k s (endTrial l s) := rfl
  unfold laneOutOfMotion
  dsimp only
  split
  · exact ended.trans (setLaneState_stays other _ _ _)
  · exact ended.trans (setLaneState_stays other _ _ _)
  · exact ended.trans (setLaneState_stays other _ _ _)
  · exact ended

theorem enterIdle_stays {k : Kind} (other : k ≠ .refState) (s : State) : FlagStays k s (enterIdle s) := by
  unfold enterIdle
  split
  · rfl
  · unfold setReferenceState
    exact (raise_stays other _ _).trans rfl

/-- The kinds that a drain request and a lane fault raise. -/
def motionKinds : List Kind := [.laneChange, .refState, .lineState]

theorem enterReady_stays {k : Kind} (other : k ∉ motionKinds) (cause : StopCause) (s : State) :
    FlagStays k s (enterReady cause s) := by
  simp only [motionKinds, List.mem_cons, List.not_mem_nil, or_false, not_or] at other
  obtain ⟨lane, ref, line⟩ := other
  have first : FlagStays k s (enterIdle (setLine .ready (s.onLc fun lc =>
      { lc with cause := cause, startLimit := none, silence := none }))) :=
    FlagStays.trans (t := setLine .ready _) (FlagStays.trans (t := s.onLc _) rfl (setLine_stays line _ _)) (enterIdle_stays ref _)
  unfold enterReady headsAtReady
  refine forLanes_induction (P := fun t => FlagStays k s t) (fun l t h => ?_) first
  exact (h.trans (stopBladeIf_stays k _ l t)).trans (laneOutOfMotion_stays lane l _)

theorem requestDrain_stays {k : Kind} (other : k ∉ motionKinds) (cause : StopCause) (s : State) :
    FlagStays k s (requestDrain cause s) := by
  have line : k ≠ .lineState := fun same => other (by simp [motionKinds, same])
  have drains : FlagStays k s (enterDraining cause s) := FlagStays.trans (t := s.onLc _) rfl (setLine_stays line _ _)
  unfold requestDrain
  split
  · exact drains
  · split
    · exact enterReady_stays other cause s
    · exact drains
  · rfl

theorem askNarrowing_stays {k : Kind} (other : k ∉ motionKinds) (s : State) : FlagStays k s (askNarrowing s) := by
  unfold askNarrowing
  split
  · rfl
  · exact requestDrain_stays other _ s

theorem faultTo_stays {k : Kind} (other : k ∉ motionKinds) (st : LaneState) (l : Lane) (s : State) :
    FlagStays k s (faultTo st l s) := by
  have lane : k ≠ .laneChange := fun same => other (by simp [motionKinds, same])
  exact (FlagStays.trans (t := onLane l (fun c => { c with state := st }) s) rfl (raise_stays lane _ _)).trans
    (askNarrowing_stays other _)

theorem laneFault_stays {k : Kind} (other : k ∉ motionKinds) (f : LaneFault) (sp : Bool) (l : Lane) (s : State) :
    FlagStays k s (laneFault f sp l s) := by
  have lane : k ≠ .laneChange := fun same => other (by simp [motionKinds, same])
  have raised : ∀ v : State, v.flag k = s.flag k → FlagStays k s (raiseLane l v) := fun v kept =>
    FlagStays.trans (t := v) kept (raise_stays lane _ v)
  have faulted : ∀ st (v : State), v.flag k = s.flag k → FlagStays k s (faultTo st l v) := fun st v kept =>
    FlagStays.trans (t := v) kept (faultTo_stays other st l v)
  unfold laneFault
  dsimp only
  split
  · exact faulted _ _ rfl
  · exact faulted _ _ rfl
  · exact raised _ rfl
  · exact raised _ rfl
  · split
    · exact faulted _ _ rfl
    · exact raised _ rfl

/-! ### An evaluation for a target without an entry (R133) -/

/-- An evaluation of a target without an entry, no cycle running: its entry joins where its triggers are due. -/
structure Evaluated (t : Target) (s u : State) : Prop where
  crm : u.crm = { s.crm with queue := u.crm.queue, state := if u.crm.queue = [] then .idle else .wait }
  others : u.crm.queue.filter (fun e => e.target != t) = s.crm.queue
  joins : (∃ e ∈ u.crm.queue, e.target = t) ↔ s.targetConfigured t = true ∧ (s.forcedDue t = true ∨ s.softDue t = true)
  forced : ∀ e ∈ u.crm.queue, e.target = t → (e.group = .forced ↔ s.forcedDue t = true)

theorem evalTriggers_evaluated {t : Target} (absent : ∀ e ∈ s.crm.queue, e.target ≠ t)
    (state : s.crm.state = if s.crm.queue = [] then .idle else .wait) : Evaluated t s (evalTriggers t s) := by
  have entry : entryOf s.crm.queue t = none := entryOf_none.2 absent
  have still : s.crm.running = false := by
    unfold Crm.running
    rw [state]
    split
    · next h => split at h <;> exact nomatch h
    · next h => split at h <;> exact nomatch h
    · rfl
  have idle : s.crm.cycleTarget = none := by rw [Crm.cycleTarget, still]; rfl
  have kept : s.crm.queue.filter (fun e => e.target != t) = s.crm.queue :=
    List.filter_eq_self.2 fun e he => by simpa using absent e he
  have awake : (if s.crm.state = .idle then .wait else s.crm.state) = PurgeState.wait := by
    rw [state]
    by_cases empty : s.crm.queue = [] <;> simp [empty]
  have same : s.crm = { s.crm with queue := s.crm.queue, state := if s.crm.queue = [] then .idle else .wait } := by rw [← state]
  have stays : ¬(s.targetConfigured t = true ∧ (s.forcedDue t = true ∨ s.softDue t = true)) → Evaluated t s s := fun none =>
    ⟨same, kept, ⟨fun ⟨e, he, target⟩ => absurd target (absent e he), fun due => absurd due none⟩,
      fun e he target => absurd target (absent e he)⟩
  unfold evalTriggers
  rw [idle]
  by_cases configured : s.targetConfigured t = true
  · rw [if_neg (by simp [configured])]
    by_cases hard : s.forcedDue t = true
    · rw [if_pos hard]
      obtain ⟨-, joined⟩ := forcedRequest_takes t s
      obtain ⟨-, crm⟩ := joined (by rw [entry]; exact nofun)
      obtain ⟨a, b, queue, split, -⟩ := joinForced_spec s.crm.running (s.crm.queue.filter fun e => e.target != t) t
      rw [queue, awake] at crm
      rw [kept] at split
      have crmQueue : (forcedRequest t s).crm.queue = a ++ ⟨t, .forced⟩ :: b := by rw [crm]
      have others : ∀ e ∈ a ++ b, e.target ≠ t := by rw [split]; exact absent
      refine ⟨?_, ?_, ⟨fun _ => ⟨configured, .inl hard⟩, fun _ => ⟨⟨t, .forced⟩, by simp [crmQueue], rfl⟩⟩, fun e he target => ?_⟩
      · rw [crm]
        simp
      · rw [crmQueue, List.filter_append, List.filter_cons]
        simp only [bne_self_eq_false, Bool.false_eq_true, if_false]
        rw [← List.filter_append, List.filter_eq_self.2 fun e he => by simpa using others e he, split]
      · rw [crmQueue] at he
        have forced : e.group = .forced := by
          rcases List.mem_append.1 he with first | rest
          · exact absurd target (others e (List.mem_append_left _ first))
          · rcases List.mem_cons.1 rest with same | last
            · rw [same]
            · exact absurd target (others e (List.mem_append_right _ last))
        exact iff_of_true forced hard
    · rw [if_neg hard]
      by_cases soft : s.softDue t = true
      · rw [if_pos soft]
        obtain ⟨crm, -⟩ := softRequest_takes t s
        have crm := crm entry
        rw [awake] at crm
        have crmQueue : (softRequest t s).crm.queue = s.crm.queue ++ [⟨t, .soft⟩] := by rw [crm]
        refine ⟨?_, ?_, ⟨fun _ => ⟨configured, .inr soft⟩, fun _ => ⟨⟨t, .soft⟩, by simp [crmQueue], rfl⟩⟩, fun e he target => ?_⟩
        · rw [crm]
          simp
        · rw [crmQueue, List.filter_append, kept]
          simp
        · rw [crmQueue] at he
          have group : e.group = .soft := by
            rcases List.mem_append.1 he with first | last
            · exact absurd target (absent e first)
            · rw [List.mem_singleton.1 last]
          rw [group]
          exact iff_of_false nofun hard
      · rw [if_neg soft]
        exact stays fun due => due.2.elim hard soft
  · rw [if_pos (.inr (by simpa using configured))]
    exact stays fun due => configured due.1

theorem evalTriggers_frame (t : Target) (s : State) : SameBut { lp := true, crm := true } s (evalTriggers t s) :=
  evalTriggers_without s t rfl rfl

theorem evalTriggers_stays {k : Kind} (other : k ≠ .crumbForced) (t : Target) (s : State) : FlagStays k s (evalTriggers t s) := by
  have forced : FlagStays k s (forcedRequest t s) := by
    unfold forcedRequest
    split
    · rfl
    · exact (raise_stays other _ _).trans rfl
  have soft : FlagStays k s (softRequest t s) := rfl
  unfold evalTriggers
  (repeat' split)
  · rfl
  · exact forced
  · exact soft
  · rfl

theorem lasts_evalTriggers_flag {k : Kind} (t : Target) (set : s.flag k = true) : (evalTriggers t s).flag k = true :=
  (evalTriggers_acts (sure := False) s t).keeps flag_act set

/-! ### The blade leaves PARKED (R76) -/

/-- A lane whose blade spins up when it leaves PARKED: in service, or IDLE in the target set of a line that spins blades up. -/
def SpinsOn (l : Lane) (s : State) : Prop :=
  (s.lane l).state = .running ∨ (s.lane l).state = .trial ∨
    ((s.lane l).state = .idle ∧ (s.lane l).target = true ∧ (s.lc.state = .starting ∨ s.lc.state = .running))

/-- What leaving PARKED makes of the heads. -/
structure Unparked (l : Lane) (s u : State) : Prop where
  frame : SameBut { hd := true } s u
  lanes : u.hd.lanes = s.hd.lanes
  others : ∀ k, k ≠ l → u.head k = s.head k
  spins : (s.head l).blade = .parked → SpinsOn l s →
    (u.head l).blade = .spinup ∧ (u.head l).spinup = some (1000 * s.set.spinupS)
  stops : (s.head l).blade = .parked → ¬SpinsOn l s → (u.head l).blade = .stopped

theorem unpark_unparked (l : Lane) (s : State) : Unparked l s (unpark l s) := by
  have frame : SameBut { hd := true } s (unpark l s) := unpark_without s l rfl
  have spun : SpinsOn l s → Unparked l s (spinUp l s) := fun on =>
    ⟨rfl, rfl, fun k other => head_onHead_ne _ _ other, fun _ _ => by simp [spinUp], fun _ off => absurd on off⟩
  have stopped : ¬SpinsOn l s → Unparked l s (setBlade .stopped l s) := fun off =>
    ⟨rfl, rfl, fun k other => head_onHead_ne _ _ other, fun _ on => absurd on off, fun _ _ => by simp [setBlade]⟩
  unfold unpark
  dsimp only
  split
  · cases state : (s.lane l).state with
    | running => exact spun (.inl state)
    | trial => exact spun (.inr (.inl state))
    | idle =>
      dsimp only
      split
      · next on => exact spun (.inr (.inr ⟨state, on.1, (spinsUp_iff _).1 on.2⟩))
      · next off =>
        refine stopped fun on => off ?_
        rcases on with running | trial | ⟨-, target, line⟩
        · exact nomatch state.symm.trans running
        · exact nomatch state.symm.trans trial
        · exact ⟨target, (spinsUp_iff _).2 line⟩
    | down => exact stopped fun on => by simp [SpinsOn, state] at on
    | parked => exact stopped fun on => by simp [SpinsOn, state] at on
  · next unparked =>
    exact ⟨rfl, rfl, fun _ _ => rfl, fun parked => absurd parked unparked, fun parked => absurd parked unparked⟩

/-! ### The end of a completed cycle (R143) -/

/-- The queue of a running cycle: its entry in front, none other of its target. -/
theorem purges_front (purges : PurgesHold s) (running : s.crm.running = true) {y : Cycle} (cycle : s.crm.cycle = some y) :
    s.crm.queue ≠ [] ∧ ∀ e ∈ s.crm.queue.tail, e.target ≠ y.target := by
  obtain ⟨nodup, -, front, -⟩ := purges
  obtain ⟨z, same, head⟩ := front running
  obtain rfl := Option.some.inj (cycle.symm.trans same)
  cases queue : s.crm.queue with
  | nil => rw [queue] at head; exact nomatch head
  | cons e rest =>
    rw [queue] at head nodup
    have target : e.target = y.target := Option.some.inj head
    rw [List.map_cons, List.nodup_cons] at nodup
    obtain ⟨absent, -⟩ := nodup
    refine ⟨nofun, fun x hx same => absent ?_⟩
    rw [target, ← same]
    exact List.mem_map_of_mem hx

/-- CRM with a completed cycle's entry gone. -/
structure CycleGone (y : Cycle) (s u : State) : Prop where
  flag : u.flag .purgeDone = true
  flags : ∀ k, s.flag k = true → u.flag k = true
  model : FlagStays .crumbModel s u
  crm : u.crm = { s.crm with
    queue := u.crm.queue, state := if u.crm.queue = [] then .idle else .wait
    cycle := none, purge := none, settle := none, weigh := none, air := none }
  others : u.crm.queue.filter (fun e => e.target != y.target) = s.crm.queue.tail
  joins : (∃ e ∈ u.crm.queue, e.target = y.target) ↔
    s.targetConfigured y.target = true ∧ (s.forcedDue y.target = true ∨ s.softDue y.target = true)
  forced : ∀ e ∈ u.crm.queue, e.target = y.target → (e.group = .forced ↔ s.forcedDue y.target = true)

theorem endCycle_state (c : Crm) : c.endCycle.state = if c.endCycle.queue = [] then .idle else .wait := by
  unfold Crm.endCycle
  dsimp only
  cases c.queue.tail <;> rfl

/-- The evaluation of a target whose triggers read as in a state with the same settings and estimates. -/
theorem due_congr {w : State} (target : Target) (crm : w.crm = s.crm.endCycle) (pst : w.pst = s.pst) :
    w.targetConfigured target = s.targetConfigured target ∧ w.forcedDue target = s.forcedDue target ∧
      w.softDue target = s.softDue target := by
  refine ⟨?_, ?_, ?_⟩ <;> cases target <;>
    simp only [State.targetConfigured, State.isConfigured, State.forcedDue, State.softDue, State.set, pst, crm] <;> rfl

/-- The end of a cycle on a state that has taken the entry out and raised PURGE_DONE. -/
theorem cycleGone {y : Cycle} {w : State} (absent : ∀ e ∈ s.crm.queue.tail, e.target ≠ y.target)
    (crm : w.crm = s.crm.endCycle) (pst : w.pst = s.pst) (flag : w.flag .purgeDone = true)
    (flags : ∀ k, s.flag k = true → w.flag k = true) (model : FlagStays .crumbModel s w) :
    CycleGone y s (evalTriggers y.target w) := by
  obtain ⟨after, others, joins, forced⟩ := evalTriggers_evaluated (s := w) (t := y.target)
    (by rw [crm]; exact absent) (by rw [crm]; exact endCycle_state _)
  obtain ⟨configured, forcedDue, softDue⟩ := due_congr y.target crm pst
  rw [configured, forcedDue, softDue] at joins
  rw [forcedDue] at forced
  refine ⟨lasts_evalTriggers_flag _ flag, fun k set => lasts_evalTriggers_flag _ (flags k set),
    model.trans (evalTriggers_stays (by decide) _ _), ?_, ?_, joins, forced⟩
  · rw [crm] at after
    exact after
  · rw [others, crm]
    rfl

end Sys2Proof.Machine
end

section
/-! PROOFS. A reading in SETTLE completes the cycle, for a head and for the belt (R141 to R143). -/

namespace Sys2Proof.Machine

variable {s t u : State}

/-! ### What the cycle updates (R142) -/

/-- An event counted in the shift that stands, OPEN before CLOSING. -/
def CountedIn (f : Shift → Shift) (s u : State) : Prop :=
  (∀ sh, s.tot.opened = some sh → u.tot = { s.tot with opened := some (f sh) }) ∧
    (s.tot.opened = none → u.tot = { s.tot with closing := s.tot.closing.map f })

theorem countedIn_of_tot {f : Shift → Shift} (left : t.tot = s.tot) (right : u.tot = (lineEvent f t).tot) : CountedIn f s u := by
  have event : u.tot = (match s.tot.opened with
      | some sh => { s.tot with opened := some (f sh) }
      | none => { s.tot with closing := s.tot.closing.map f }) := by
    rw [right, ← left]
    rfl
  refine ⟨fun sh opened => ?_, fun none => ?_⟩
  · rw [event, opened]
  · rw [event, none]

/-- The last purge of a head. -/
def headPurged (y : Cycle) (correction : Nat) : LastPurge :=
  ⟨y.before, y.after, removedMass y.before y.after, y.start, corrected correction y.start (removedMass y.before y.after)⟩

/-- CRM after a head's cycle. -/
def crmOfHead (y : Cycle) (l : Lane) (c : Crm) : Crm :=
  { c with
    heads := putAt c.heads l
      ⟨c.heads[l].estimate - y.start, corrected c.heads[l].correction y.start (removedMass y.before y.after), 0⟩
    last := putAt c.last l (some (headPurged y c.heads[l].correction)) }

/-- CRM after the belt's cycle. -/
def crmOfBelt (y : Cycle) (c : Crm) : Crm :=
  { c with belt := c.belt - y.start
           lastBelt := some ⟨y.before, y.after, removedMass y.before y.after, y.start, 0⟩ }

/-- What a completed cycle makes of CRM. -/
def crmSettled (y : Cycle) (c : Crm) : Crm :=
  match y.target with
  | .head l => crmOfHead y l c
  | .belt => crmOfBelt y c

theorem settleCycle_crm (y : Cycle) (s : State) : (settleCycle y s).1.crm = crmSettled y s.crm := by
  unfold settleCycle crmSettled
  cases y.target <;> exact (kept_crm (lineEvent_without (b := { tot := true }) _ _ rfl) rfl).trans rfl

theorem crmSettled_queue (y : Cycle) (c : Crm) : (crmSettled y c).queue = c.queue := by
  unfold crmSettled
  cases y.target <;> rfl

theorem settleCycle_frame (y : Cycle) (s : State) : SameBut { crm := true, tot := true } s (settleCycle y s).1 :=
  settleCycle_fst_without s y rfl rfl

theorem settleCycle_counts_head {y : Cycle} {l : Lane} (head : y.target = .head l) (s : State) :
    CountedIn (fun sh => { sh with
      purges := putAt sh.purges l (min 4294967295 (sh.purges[l] + 1))
      crumb := putAt sh.crumb l (min 4294967295 (sh.crumb[l] + (removedMass y.before y.after).getD 0)) })
      s (settleCycle y s).1 := by
  unfold settleCycle
  rw [head]
  exact countedIn_of_tot (t := (onCrumb l _ s).onCrm _) rfl rfl

theorem settleCycle_counts_belt {y : Cycle} (belt : y.target = .belt) (s : State) :
    CountedIn (fun sh => { sh with beltPurges := min 4294967295 (sh.beltPurges + 1) }) s (settleCycle y s).1 := by
  unfold settleCycle
  rw [belt]
  exact countedIn_of_tot (t := s.onCrm _) rfl rfl

/-! ### The model check (R143) -/

/-- The model disagrees with a cycle that was begun on an estimate. -/
def Disagrees (pct : Nat) (y : Cycle) : Prop :=
  0 < y.start ∧ match removedMass y.before y.after with
    | some m => pct * y.start < ((m - y.start) + (y.start - m)) * 100
    | none => True

theorem disagrees_iff (pct : Nat) (y : Cycle) :
    (0 < y.start ∧ modelDisagrees pct y.start (removedMass y.before y.after) = true) ↔ Disagrees pct y := by
  unfold Disagrees modelDisagrees
  cases removedMass y.before y.after with
  | none => simp
  | some m =>
    exact and_congr_right fun _ => decide_eq_true_iff

/-- A cycle's updates and its model check. -/
def checked (y : Cycle) (s : State) : State := checkModel y (settleCycle y s).1

theorem checkModel_frame (y : Cycle) (s : State) : SameBut { lp := true } s (checkModel y s) := checkModel_without s y rfl

theorem checked_frame (y : Cycle) (s : State) : SameBut { lp := true, crm := true, tot := true } s (checked y s) :=
  ((checkModel_frame y _).widen fun _ => rfl).trans ((settleCycle_frame y s).widen fun _ => rfl)

theorem checked_crm (y : Cycle) (s : State) : (checked y s).crm = crmSettled y s.crm :=
  (kept_crm (checkModel_frame y _) rfl).trans (settleCycle_crm y s)

theorem checked_tot (y : Cycle) (s : State) : (checked y s).tot = (settleCycle y s).1.tot :=
  kept_tot (checkModel_frame y _) rfl

theorem checked_flag (y : Cycle) (s : State) :
    (checked y s).flag .crumbModel = true ↔ s.flag .crumbModel = true ∨ Disagrees s.set.mismatchPct y := by
  have frame := settleCycle_frame y s
  have flag : (settleCycle y s).1.flag .crumbModel = s.flag .crumbModel := by
    rw [State.flag, kept_lp frame rfl rfl]
    rfl
  have set : (settleCycle y s).1.set = s.set := kept_settings frame rfl
  unfold checked checkModel
  rw [set, ← disagrees_iff]
  split
  · next due =>
    rw [raise_flag, flag]
    simp [due]
  · next agrees =>
    rw [flag]
    simp only [agrees, or_false]

/-! ### The residual check (R143) -/

/-- The residual of a cycle is above the limit. -/
def Heavy (y : Cycle) (limit : Nat) : Prop := ∃ a, y.after = some a ∧ limit < a

theorem checkResidual_light {y : Cycle} (light : ¬Heavy y s.set.residual) : checkResidual y s = s := by
  unfold checkResidual
  split
  · next l a _ after =>
    rw [if_neg fun above => light ⟨a, after, above⟩]
  · rfl

theorem checkResidual_heavy {y : Cycle} {l : Lane} (head : y.target = .head l) (heavy : Heavy y s.set.residual) :
    checkResidual y s = laneFault .crumbOverflow false l s := by
  obtain ⟨a, after, above⟩ := heavy
  unfold checkResidual
  rw [head, after]
  exact if_pos above

theorem checkResidual_belt {y : Cycle} (belt : y.target = .belt) : checkResidual y s = s := by
  unfold checkResidual
  rw [belt]

theorem checkResidual_frame (y : Cycle) (s : State) :
    SameBut { lp := true, sru := true, lc := true, hd := true } s (checkResidual y s) :=
  checkResidual_without s y rfl rfl rfl rfl

theorem checkResidual_stays (y : Cycle) (s : State) : FlagStays .crumbModel s (checkResidual y s) := by
  unfold checkResidual
  split
  · split
    · exact laneFault_stays (by decide) _ _ _ s
    · rfl
  · rfl

theorem checkResidual_flags (y : Cycle) {k : Kind} (set : s.flag k = true) : (checkResidual y s).flag k = true := by
  unfold checkResidual
  split
  · split
    · exact laneFault_flag _ _ _ set
    · exact set
  · exact set

/-- A cycle's updates with both checks, before its entry leaves. -/
def weighed (y : Cycle) (s : State) : State := checkResidual y (checked y s)

theorem weighed_frame (y : Cycle) (s : State) :
    SameBut { lp := true, sru := true, lc := true, hd := true, crm := true, tot := true } s (weighed y s) :=
  ((checkResidual_frame y _).widen fun _ => rfl).trans ((checked_frame y s).widen fun _ => rfl)

theorem weighed_crm (y : Cycle) (s : State) : (weighed y s).crm = crmSettled y s.crm :=
  (kept_crm (checkResidual_frame y _) rfl).trans (checked_crm y s)

theorem weighed_tot (y : Cycle) (s : State) : (weighed y s).tot = (settleCycle y s).1.tot :=
  (kept_tot (checkResidual_frame y _) rfl).trans (checked_tot y s)

theorem weighed_flag (y : Cycle) (s : State) :
    (weighed y s).flag .crumbModel = true ↔ s.flag .crumbModel = true ∨ Disagrees s.set.mismatchPct y := by
  rw [weighed, checkResidual_stays, checked_flag]

/-- What the residual check leaves of a head's lane. -/
structure Weighed (y : Cycle) (l : Lane) (s u : State) : Prop where
  light : ¬Heavy y s.set.residual → u.hd = s.hd ∧ u.lc = s.lc ∧ u.sru = s.sru
  narrow : Heavy y s.set.residual → s.set.narrowing = true →
    FaultTaken .crumbOverflow false l s u ∧ u.lc = s.lc ∧ u.sru = s.sru ∧ OtherLanesKept l s u
  wide : Heavy y s.set.residual → s.set.narrowing = false → FaultDrains .crumbOverflow false l s u
  blade : (s.head l).blade = .parked → (u.head l).blade = .parked

theorem weighed_head {y : Cycle} {l : Lane} (head : y.target = .head l) (s : State) : Weighed y l s (weighed y s) := by
  have frame := checked_frame y s
  have set : (checked y s).set = s.set := kept_settings frame rfl
  have hd : (checked y s).hd = s.hd := kept_hd frame rfl
  have lc : (checked y s).lc = s.lc := kept_lc frame rfl rfl
  have sru : (checked y s).sru = s.sru := kept_sru frame rfl rfl
  have pos : (checked y s).pos = s.pos := kept_pos frame rfl
  have lane := lane_of_hd hd
  unfold weighed
  by_cases heavy : Heavy y (checked y s).set.residual
  · rw [checkResidual_heavy head heavy]
    rw [set] at heavy
    refine ⟨fun light => absurd heavy light, fun _ on => ?_, fun _ off => ?_, fun parked => ?_⟩
    · obtain ⟨taken, heads, others, held, -⟩ := laneFault_taken .crumbOverflow false l (checked y s) (by rwa [set])
      refine ⟨taken.congr_left (lane l) lc pos set, (kept_lc held rfl rfl).trans lc, (kept_sru held rfl rfl).trans sru,
        fun k other => ?_⟩
      obtain ⟨sameHead, sameLane⟩ := others k other
      exact ⟨sameHead.trans (head_of_hd hd k), sameLane.trans (lane k)⟩
    · obtain ⟨drains, -⟩ := laneFault_drains .crumbOverflow false l (s := checked y s) (by rwa [set])
      exact drains.congr (lane l) lc pos set (tableCount_of_trk (kept_trk frame rfl))
    · have parked : ((checked y s).head l).blade = .parked := by rw [head_of_hd hd l]; exact parked
      rw [laneFault_head (by rw [parked]; exact ⟨nofun, nofun⟩), parked]
  · rw [checkResidual_light heavy]
    rw [set] at heavy
    exact ⟨fun _ => ⟨hd, lc, sru⟩, fun above => absurd above heavy, fun above => absurd above heavy,
      fun parked => by rw [head_of_hd hd l]; exact parked⟩

/-! ### The completion (R143) -/

/-- The entry gone and the blade out of PARKED. -/
def entryGone (y : Cycle) (v : State) : State :=
  match y.target with
  | .head l => unpark l (v.onCrm Crm.endCycle)
  | .belt => v.onCrm Crm.endCycle

theorem completeCycle_eq (y : Cycle) (s : State) : completeCycle y s =
    evalTriggers y.target (raise .purgeDone (purgeSnapshot y.target (settleCycle y s).2) (entryGone y (weighed y s))) := rfl

theorem entryGone_frame (y : Cycle) (v : State) : SameBut { hd := true, crm := true } v (entryGone y v) := by
  unfold entryGone
  split
  · exact (unpark_without _ _ rfl).trans (without_onCrm v _ rfl)
  · exact without_onCrm v _ rfl

theorem entryGone_crm (y : Cycle) (v : State) : (entryGone y v).crm = v.crm.endCycle := by
  unfold entryGone
  split
  · exact (kept_crm (unpark_without (b := { hd := true }) _ _ rfl) rfl).trans rfl
  · rfl

/-- A completed cycle's entry is gone, on the state that its updates and checks leave. -/
theorem completeCycle_gone {y : Cycle} (absent : ∀ e ∈ s.crm.queue.tail, e.target ≠ y.target) :
    CycleGone y (weighed y s) (completeCycle y s) := by
  have queue : (weighed y s).crm.queue = s.crm.queue := by rw [weighed_crm, crmSettled_queue]
  have gone := entryGone_frame y (weighed y s)
  have crm := entryGone_crm y (weighed y s)
  have lp := kept_lp gone rfl rfl
  have pst := kept_pst gone rfl rfl
  rw [completeCycle_eq]
  generalize entryGone y (weighed y s) = v at *
  generalize weighed y s = c at *
  have flag : v.flag .crumbModel = c.flag .crumbModel := by rw [State.flag, lp]; rfl
  refine cycleGone (by rw [queue]; exact absent) crm pst (raise_setsFlag ..) (fun k set => ?_) ?_
  · refine raise_keepsFlag ?_
    rwa [State.flag, lp]
  · exact FlagStays.trans (t := v) flag (raise_stays (by decide) _ _)

theorem completeCycle_frame (y : Cycle) (s : State) :
    SameBut { lp := true, sru := true, lc := true, hd := true, crm := true, tot := true } s (completeCycle y s) :=
  completeCycle_without s y rfl rfl rfl rfl rfl rfl

/-- What a completed cycle leaves outside its own entry. -/
theorem completeCycle_after (y : Cycle) (s : State) :
    SameBut { lp := true, hd := true, crm := true } (weighed y s) (completeCycle y s) := by
  rw [completeCycle_eq]
  exact ((evalTriggers_frame y.target _).widen fun _ => rfl).trans
    ((raise_without _ _ _ rfl).trans ((entryGone_frame y _).widen fun _ => rfl))

theorem completeCycle_hd (y : Cycle) (s : State) : (completeCycle y s).hd = (entryGone y (weighed y s)).hd := by
  rw [completeCycle_eq]
  exact (kept_hd (evalTriggers_frame y.target _) rfl).trans rfl

theorem CountedIn.congr {f : Shift → Shift} {c : State} (h : CountedIn f s c) (tot : u.tot = c.tot) : CountedIn f s u := by
  unfold CountedIn
  rw [tot]
  exact h

/-- What a completed cycle of a head leaves in CRM, the totals and the purge queue. -/
structure HeadCompleted (y : Cycle) (l : Lane) (s u : State) : Prop where
  heads : u.crm.heads = putAt s.crm.heads l ⟨s.crm.heads[l].estimate - y.start,
    corrected s.crm.heads[l].correction y.start (removedMass y.before y.after), 0⟩
  belt : u.crm.belt = s.crm.belt
  last : u.crm.last = putAt s.crm.last l (some (headPurged y s.crm.heads[l].correction))
  lastBelt : u.crm.lastBelt = s.crm.lastBelt
  counted : CountedIn (fun sh => { sh with
    purges := putAt sh.purges l (min 4294967295 (sh.purges[l] + 1))
    crumb := putAt sh.crumb l (min 4294967295 (sh.crumb[l] + (removedMass y.before y.after).getD 0)) }) s u
  joins : (∃ e ∈ u.crm.queue, e.target = .head l) ↔ s.isConfigured l = true ∧
    (s.set.headHard ≤ s.crm.heads[l].estimate - y.start ∨ s.set.headPurge ≤ s.crm.heads[l].estimate - y.start)
  forced : ∀ e ∈ u.crm.queue, e.target = .head l → (e.group = .forced ↔ s.set.headHard ≤ s.crm.heads[l].estimate - y.start)

theorem crmOfHead_head (y : Cycle) (l : Lane) (c : Crm) : (crmOfHead y l c).heads[l] =
    ⟨c.heads[l].estimate - y.start, corrected c.heads[l].correction y.start (removedMass y.before y.after), 0⟩ :=
  getElem_putAt_self ..

theorem weighed_due_head {y : Cycle} {l : Lane} (head : y.target = .head l) (s : State) :
    (weighed y s).targetConfigured (.head l) = s.isConfigured l ∧
      ((weighed y s).forcedDue (.head l) = true ↔ s.set.headHard ≤ s.crm.heads[l].estimate - y.start) ∧
      ((weighed y s).softDue (.head l) = true ↔ s.set.headPurge ≤ s.crm.heads[l].estimate - y.start) := by
  have set : (weighed y s).set = s.set := kept_settings (weighed_frame y s) rfl
  have crm : (weighed y s).crm = crmOfHead y l s.crm := by
    rw [weighed_crm, crmSettled, head]
  have own := crmOfHead_head y l s.crm
  refine ⟨?_, ?_, ?_⟩
  · rw [State.targetConfigured, State.isConfigured, set]
    rfl
  · rw [forcedDue_iff]
    dsimp only
    rw [set, crm, own]
  · rw [softDue_iff]
    dsimp only
    rw [set, crm, own]
    refine ⟨fun due => due.elim id fun skip => absurd skip.2 (by dsimp only; omega), .inl⟩

theorem completeCycle_head {y : Cycle} {l : Lane} (head : y.target = .head l)
    (gone : CycleGone y (weighed y s) (completeCycle y s)) : HeadCompleted y l s (completeCycle y s) := by
  have crm : (weighed y s).crm = crmOfHead y l s.crm := by
    rw [weighed_crm, crmSettled, head]
  have tot : (completeCycle y s).tot = (settleCycle y s).1.tot := (kept_tot (completeCycle_after y s) rfl).trans (weighed_tot y s)
  obtain ⟨configured, hard, soft⟩ := weighed_due_head head s
  obtain ⟨-, -, -, after, -, joins, forced⟩ := gone
  rw [head, configured, hard, soft] at joins
  rw [head, hard] at forced
  rw [crm] at after
  exact ⟨congrArg Crm.heads after, (congrArg Crm.belt after).trans rfl, congrArg Crm.last after, (congrArg Crm.lastBelt after).trans rfl,
    (settleCycle_counts_head head s).congr tot, joins, forced⟩

/-- The lane of a completed head, and its blade. -/
structure HeadFreed (y : Cycle) (l : Lane) (s u : State) : Prop where
  light : ¬Heavy y s.set.residual → u.lane l = s.lane l ∧ u.lc = s.lc ∧ u.sru = s.sru ∧ OtherLanesKept l s u
  narrow : Heavy y s.set.residual → s.set.narrowing = true →
    FaultTaken .crumbOverflow false l s u ∧ u.lc = s.lc ∧ u.sru = s.sru ∧ OtherLanesKept l s u
  wide : Heavy y s.set.residual → s.set.narrowing = false → FaultDrains .crumbOverflow false l s u
  spins : (s.head l).blade = .parked → SpinsOn l u →
    (u.head l).blade = .spinup ∧ (u.head l).spinup = some (1000 * s.set.spinupS)
  stops : (s.head l).blade = .parked → ¬SpinsOn l u → (u.head l).blade = .stopped

/-- What a lane fault while narrowing is off leaves is read from the lane, the line, the reference and the flags. -/
theorem FaultDrains.congr_right {f : LaneFault} {sp : Bool} {l : Lane} (h : FaultDrains f sp l s t) (lane : u.lane l = t.lane l)
    (lc : u.lc = t.lc) (sru : u.sru = t.sru) (flags : ∀ k, t.flag k = true → u.flag k = true) : FaultDrains f sp l s u := by
  obtain ⟨change, fault, target, stays, drains, readies⟩ := h
  unfold FaultDrains
  dsimp only
  rw [lane, lc, sru]
  refine ⟨flags _ change, fault, target, fun still => ?_, fun out line => ?_, fun out starting empty => ?_⟩
  · obtain ⟨kept, taken⟩ := stays still
    exact ⟨kept, taken.congr lane (flags _ change)⟩
  · obtain ⟨taken, flag, state⟩ := drains out line
    exact ⟨taken.congr lane (flags _ change), flags _ flag, state⟩
  · obtain ⟨ready, cause, limit, idle, flag, rest⟩ := readies out starting empty
    exact ⟨ready, cause, limit, idle, flags _ flag, rest⟩

theorem completeCycle_freed {y : Cycle} {l : Lane} (head : y.target = .head l)
    (gone : CycleGone y (weighed y s) (completeCycle y s)) : HeadFreed y l s (completeCycle y s) := by
  have after := completeCycle_after y s
  have lc : (completeCycle y s).lc = (weighed y s).lc := kept_lc after rfl rfl
  have sru : (completeCycle y s).sru = (weighed y s).sru := kept_sru after rfl rfl
  have set : (weighed y s).set = s.set := kept_settings (weighed_frame y s) rfl
  have hd := completeCycle_hd y s
  have entry : entryGone y (weighed y s) = unpark l ((weighed y s).onCrm Crm.endCycle) := by
    rw [entryGone, head]
  obtain ⟨-, lanes, others, spins, stops⟩ := unpark_unparked l ((weighed y s).onCrm Crm.endCycle)
  obtain ⟨light, narrow, wide, blade⟩ := weighed_head head s
  obtain ⟨-, flags, -⟩ := gone
  rw [entry] at hd
  generalize completeCycle y s = u at *
  generalize unpark l ((weighed y s).onCrm Crm.endCycle) = v at *
  generalize weighed y s = c at *
  have lane : ∀ k, u.lane k = c.lane k := fun k => (lane_of_hd hd k).trans (congrArg (fun x : PerLane LaneCtl => x[k]) lanes)
  have heads : ∀ k, k ≠ l → u.head k = c.head k := fun k other => (head_of_hd hd k).trans (others k other)
  have spinning : SpinsOn l u ↔ SpinsOn l (c.onCrm Crm.endCycle) := by
    unfold SpinsOn
    rw [lane, lc]
    exact Iff.rfl
  refine ⟨fun fits => ?_, fun heavy on => ?_, fun heavy off => (wide heavy off).congr_right (lane l) lc sru flags,
    fun parked on => ?_, fun parked off => ?_⟩
  · obtain ⟨kept, line, reference⟩ := light fits
    exact ⟨(lane l).trans (lane_of_hd kept l), lc.trans line, sru.trans reference,
      fun k other => ⟨(heads k other).trans (head_of_hd kept k), (lane k).trans (lane_of_hd kept k)⟩⟩
  · obtain ⟨taken, line, reference, rest⟩ := narrow heavy on
    obtain ⟨-, -, change, -⟩ := id taken
    exact ⟨taken.congr (lane l) (flags _ change), lc.trans line, sru.trans reference,
      fun k other => ⟨(heads k other).trans (rest k other).1, (lane k).trans (rest k other).2⟩⟩
  · rw [head_of_hd hd l, ← set]
    exact spins (blade parked) (spinning.1 on)
  · rw [head_of_hd hd l]
    exact stops (blade parked) (mt spinning.2 off)

/-- What a completed cycle of the belt leaves. -/
structure BeltCompleted (y : Cycle) (s u : State) : Prop where
  heads : u.crm.heads = s.crm.heads
  belt : u.crm.belt = s.crm.belt - y.start
  lastBelt : u.crm.lastBelt = some ⟨y.before, y.after, removedMass y.before y.after, y.start, 0⟩
  last : u.crm.last = s.crm.last
  counted : CountedIn (fun sh => { sh with beltPurges := min 4294967295 (sh.beltPurges + 1) }) s u
  joins : (∃ e ∈ u.crm.queue, e.target = .belt) ↔ s.set.beltHard ≤ u.crm.belt ∨ s.set.beltPurge ≤ u.crm.belt
  forced : ∀ e ∈ u.crm.queue, e.target = .belt → (e.group = .forced ↔ s.set.beltHard ≤ u.crm.belt)
  frame : SameBut { lp := true, crm := true, tot := true } s u

theorem completeCycle_belt {y : Cycle} (belt : y.target = .belt)
    (gone : CycleGone y (weighed y s) (completeCycle y s)) : BeltCompleted y s (completeCycle y s) := by
  have crm : (weighed y s).crm = crmOfBelt y s.crm := by
    rw [weighed_crm, crmSettled, belt]
  have tot : (completeCycle y s).tot = (settleCycle y s).1.tot := (kept_tot (completeCycle_after y s) rfl).trans (weighed_tot y s)
  have set : (weighed y s).set = s.set := kept_settings (weighed_frame y s) rfl
  have same : weighed y s = checked y s := checkResidual_belt belt
  have frame : SameBut { lp := true, crm := true, tot := true } s (completeCycle y s) := by
    have entry : SameBut { crm := true } (weighed y s) (entryGone y (weighed y s)) := by
      rw [entryGone, belt]
      exact without_onCrm _ _ rfl
    rw [completeCycle_eq]
    refine ((evalTriggers_frame y.target _).widen fun _ => rfl).trans ((raise_without _ _ _ rfl).trans ?_)
    refine (entry.widen fun _ => rfl).trans ?_
    rw [same]
    exact checked_frame y s
  obtain ⟨-, -, -, after, -, joins, forced⟩ := gone
  have hard := forcedDue_iff (weighed y s) .belt
  have soft := softDue_iff (weighed y s) .belt
  have configured : (weighed y s).targetConfigured .belt = true := rfl
  dsimp only at hard soft
  rw [belt, configured, hard, soft] at joins
  rw [belt, hard] at forced
  rw [crm] at after joins forced
  rw [set] at joins forced
  have left : (completeCycle y s).crm.belt = (crmOfBelt y s.crm).belt := (congrArg Crm.belt after).trans rfl
  rw [← left] at joins forced
  exact ⟨(congrArg Crm.heads after).trans rfl, left, (congrArg Crm.lastBelt after).trans rfl, (congrArg Crm.last after).trans rfl,
    (settleCycle_counts_belt belt s).congr tot, joins.trans (and_iff_right rfl), forced, frame⟩

/-! ### The claim -/

theorem takeReading_completes {y : Cycle} (x : Option Nat) (state : s.crm.state = .settle) (cycle : s.crm.cycle = some y) :
    takeReading x s = completeCycle { y with after := x } s := by
  unfold takeReading
  rw [state, cycle]

/-- Settles O37: the reading completes the cycle, whose updates, checks and end are each read off. -/
theorem purgeCompletes : Obligations.PurgeCompletes := by
  intro s y c x on state cycle asked purges reading
  have running : s.crm.running = true := (running_iff _).2 (.inr state)
  obtain ⟨-, absent⟩ := purges_front purges running cycle
  have effect : Effect c s (completeCycle { y with after := x } s) := by
    rw [← takeReading_completes x state cycle]
    rcases reading with ⟨load, rfl, rfl⟩ | ⟨rfl, rfl⟩
    · exact weighAnswer_effect on load cycle asked
    · exact weighTimer_effect on asked
  have gone := completeCycle_gone (y := { y with after := x }) absent
  have queue : (weighed { y with after := x } s).crm.queue = s.crm.queue := by rw [weighed_crm, crmSettled_queue]
  obtain ⟨flag, -, model, crm, others, -, -⟩ := id gone
  rw [queue] at others
  refine ⟨_, effect, completeCycle_frame _ s, flag, congrArg Crm.cycle crm, congrArg Crm.air crm, congrArg Crm.purge crm,
    congrArg Crm.settle crm, congrArg Crm.weigh crm, others, congrArg Crm.state crm, ?_, fun l head => ?_, fun belt => ?_⟩
  · rw [model, weighed_flag]
    exact Iff.rfl
  · obtain ⟨heads, belt, last, lastBelt, counted, joins, forced⟩ := completeCycle_head (y := { y with after := x }) head gone
    obtain ⟨light, narrow, wide, spins, stops⟩ := completeCycle_freed (y := { y with after := x }) head gone
    exact ⟨heads, belt, last, lastBelt, counted, light, narrow, wide, joins, forced, fun parked => ⟨spins parked, stops parked⟩⟩
  · obtain ⟨heads, left, lastBelt, last, counted, joins, forced, frame⟩ :=
      completeCycle_belt (y := { y with after := x }) belt gone
    exact ⟨heads, left, lastBelt, last, counted, joins, forced, frame⟩

end Sys2Proof.Machine
end

section
/-! PROOFS. Cut positions, the end of slicing, and the entry to QUEUED (R61 to R63, R74, R75, R82, R131, R133). -/

namespace Sys2Proof.Machine

variable {s t u : State}

/-! ### Successive writes of one record -/

theorem RecordsBut.trans {n : Nat} (h : RecordsBut n s t) (k : RecordsBut n t u) : RecordsBut n s u := by
  obtain ⟨others, queues, post⟩ := h
  obtain ⟨others', queues', post'⟩ := k
  exact ⟨fun j other => (others' j other).trans (others j other), fun l => (queues' l).trans (queues l), post'.trans post⟩

theorem RecordBecomes.trans {r r' r'' : Rec} (h : RecordBecomes r r' s t) (same : r'.loaf = r.loaf)
    (k : RecordBecomes r' r'' t u) : RecordBecomes r r'' s u := by
  intro found
  obtain ⟨held, others⟩ := h found
  obtain ⟨held', others'⟩ := k (same.symm ▸ held)
  rw [same] at held' others'
  exact ⟨held', others.trans others'⟩

/-! ### The shares of an ended slicing (R63, R131, R133) -/

theorem evalTriggers_estimates (t : Target) (s : State) :
    (evalTriggers t s).crm.heads = s.crm.heads ∧ (evalTriggers t s).crm.belt = s.crm.belt := by
  obtain ⟨stands, joins⟩ := forcedRequest_takes t s
  obtain ⟨asks, keeps⟩ := softRequest_takes t s
  unfold evalTriggers
  split
  · exact ⟨rfl, rfl⟩
  · split
    · by_cases entry : entryOf s.crm.queue t = some ⟨t, .forced⟩
      · rw [stands entry]
        exact ⟨rfl, rfl⟩
      · obtain ⟨-, crm⟩ := joins entry
        rw [crm]
        exact ⟨rfl, rfl⟩
    · split
      · by_cases entry : entryOf s.crm.queue t = none
        · rw [asks entry]
          exact ⟨rfl, rfl⟩
        · rw [keeps entry]
          exact ⟨rfl, rfl⟩
      · exact ⟨rfl, rfl⟩

/-- FORCED entries that come of two evaluations in turn are raised. -/
theorem ForcedRaised.trans (h : ForcedRaised s t) (k : ForcedRaised t u) (flags : t.flag .crumbForced = true → u.flag .crumbForced = true) :
    ForcedRaised s u := fun e he forced new => by
  by_cases stood : e ∈ t.crm.queue
  · exact flags (h e stood forced new)
  · exact k e he forced stood

theorem ForcedRaised.congr {v w : State} (h : ForcedRaised s t) (left : v.crm = s.crm) (right : w.crm = t.crm)
    (flags : t.flag .crumbForced = true → w.flag .crumbForced = true) : ForcedRaised v w := by
  unfold ForcedRaised
  rw [left, right]
  exact fun e he forced new => flags (h e he forced new)

/-- The crumb share of a record's head for some cuts. -/
def shareOf (s : State) (r : Rec) (cuts : Nat) : Nat :=
  cuts * (s.profile r.slot).crumb * s.crm.heads[r.lane].correction / 64

/-- What the end of a slicing hands to CRM: the shares, the loaf, the triggers of the head and of the belt. -/
structure SharesHanded (r : Rec) (cuts : Nat) (s u : State) : Prop where
  frame : SameBut { lp := true, crm := true } s u
  heads : u.crm.heads = putAt s.crm.heads r.lane { s.crm.heads[r.lane] with
    estimate := min 4000000 (s.crm.heads[r.lane].estimate + shareOf s r cuts)
    loaves := min 65535 (s.crm.heads[r.lane].loaves + 1) }
  belt : u.crm.belt = min 4000000 (s.crm.belt + shareOf s r cuts / 8)
  ends : SlicingEnds s r cuts s.crm u.crm
  forced : ForcedRaised s u
  flags : ∀ k, s.flag k = true → u.flag k = true

theorem endSlicing_handed (r : Rec) (s : State) : SharesHanded r r.cutsDone s (endSlicing r s) := by
  have ends := endSlicing_ends r s
  unfold endSlicing at ends ⊢
  dsimp only at ends ⊢
  generalize shared : ((onCrumb r.lane (fun h => { h with
      estimate := satAdd Config.crumbMax h.estimate (headShare r.cutsDone (s.profile r.slot).crumb s.crm.heads[r.lane].correction)
      loaves := satAdd Config.loavesMax h.loaves 1 }) s).onCrm fun c => { c with
        belt := satAdd Config.crumbMax c.belt
          (mergeShare (headShare r.cutsDone (s.profile r.slot).crumb s.crm.heads[r.lane].correction)) }) = v at ends ⊢
  have frame : SameBut { crm := true } s v := by
    rw [← shared]
    exact (without_onCrm _ _ rfl).trans (without_onCrm s _ rfl)
  have heads : v.crm.heads = putAt s.crm.heads r.lane { s.crm.heads[r.lane] with
      estimate := min 4000000 (s.crm.heads[r.lane].estimate + shareOf s r r.cutsDone)
      loaves := min 65535 (s.crm.heads[r.lane].loaves + 1) } := by rw [← shared]; rfl
  have belt : v.crm.belt = min 4000000 (s.crm.belt + shareOf s r r.cutsDone / 8) := by rw [← shared]; rfl
  have queue : v.crm.queue = s.crm.queue := by rw [← shared]; rfl
  have flag : ∀ k, v.flag k = s.flag k := fun k => by rw [State.flag, kept_lp frame rfl rfl]; rfl
  obtain ⟨heads1, belt1⟩ := evalTriggers_estimates (.head r.lane) v
  obtain ⟨heads2, belt2⟩ := evalTriggers_estimates .belt (evalTriggers (.head r.lane) v)
  obtain ⟨-, forced1⟩ := evalTriggers_taken (.head r.lane) v
  obtain ⟨-, forced2⟩ := evalTriggers_taken .belt (evalTriggers (.head r.lane) v)
  refine ⟨?_, heads2.trans (heads1.trans heads), belt2.trans (belt1.trans belt), ends, ?_, fun k set => ?_⟩
  · exact (evalTriggers_frame .belt _).trans ((evalTriggers_frame (.head r.lane) v).trans (frame.widen fun _ => rfl))
  · have forced := forced1.trans forced2 (lasts_evalTriggers_flag .belt)
    unfold ForcedRaised at forced ⊢
    rwa [queue] at forced
  · exact lasts_evalTriggers_flag _ (lasts_evalTriggers_flag _ ((flag k).trans set))

/-- The shares as they read from any state with the same CRM, settings and flags. -/
theorem SharesHanded.congr_left {r : Rec} {n : Nat} (h : SharesHanded r n t u) (crm : t.crm = s.crm) (pst : t.pst = s.pst)
    (lp : t.lp = s.lp) {ps : Parts} (frame : SameBut ps s u) : SameBut ps s u ∧
    u.crm.heads = putAt s.crm.heads r.lane { s.crm.heads[r.lane] with
      estimate := min 4000000 (s.crm.heads[r.lane].estimate + shareOf s r n)
      loaves := min 65535 (s.crm.heads[r.lane].loaves + 1) } ∧
    u.crm.belt = min 4000000 (s.crm.belt + shareOf s r n / 8) ∧
    SlicingEnds s r n s.crm u.crm ∧ ForcedRaised s u ∧ (∀ k, s.flag k = true → u.flag k = true) := by
  obtain ⟨-, heads, belt, ends, forced, flags⟩ := h
  have profile : t.profile r.slot = s.profile r.slot := by rw [State.profile, State.profile, pst]
  have share : shareOf t r n = shareOf s r n := by rw [shareOf, shareOf, profile, crm]
  rw [crm, share] at heads belt
  refine ⟨frame, heads, belt, ?_, forced.congr crm.symm rfl id, fun k set => flags k (by rw [State.flag, lp]; exact set)⟩
  obtain ⟨m, first, second⟩ := ends
  rw [crm, profile] at first
  exact ⟨m, first.congr pst, second.congr pst⟩

/-! ### The entry to QUEUED (R74, R82) -/

/-- A record QUEUED, off its lane's trial list. -/
structure QueuedOff (r : Rec) (s u : State) : Prop where
  frame : SameBut { lp := true, trk := true, hd := true } s u
  record : RecordBecomes r { r with state := .queued } s u
  leaves : LeavesTrialList r.lane r.loaf s u
  flags : ∀ k, s.flag k = true → u.flag k = true

theorem offTrialList_frame (l : Lane) (n : Nat) (s : State) : SameBut { lp := true, hd := true } s (offTrialList l n s) :=
  offTrialList_without s l n rfl rfl

theorem toQueued_queued (r : Rec) (s : State) : QueuedOff r s (toQueued r s) := by
  unfold toQueued
  generalize written : onRec r.loaf (fun r => { r with state := .queued }) s = v
  have frame : SameBut { trk := true } s v := by rw [← written]; exact onRec_without s r.loaf _ rfl
  have hd : v.hd = s.hd := kept_hd frame rfl
  have becomes : RecordBecomes r { r with state := .queued } s v := by
    rw [← written]
    exact onRec_becomes r (fun r => { r with state := .queued }) (fun _ => rfl) s
  have off := offTrialList_frame r.lane r.loaf v
  refine ⟨(off.widen fun _ => rfl).trans (frame.widen fun _ => rfl), becomes.of_trk (kept_trk off rfl),
    (offTrialList_leaves r.lane r.loaf v).congr hd.symm rfl id, fun k set => ?_⟩
  refine (offTrialList_acts (sure := False) v r.lane r.loaf).keeps flag_act ?_
  rwa [State.flag, kept_lp frame rfl rfl]

/-! ### The stations of a lane record (R39, R61) -/

theorem laneStation_cut {r : Rec} {p : Plan} (plan : r.plan = some p) (state : r.state = .planned ∨ r.state = .slicing)
    (open_ : r.state = .planned ∨ r.slicingEnded = false) : s.laneStation r = some (r.lead +
      (s.set.dHead[r.lane] + ((s.profile r.slot).e + r.cutsDone * (r.length.getD 0 - 2 * (s.profile r.slot).e) / p.k)) * 65536,
      .cut r) := by
  have at_ : some (s.cutPosition r p r.cutsDone, Station.cut r) = some (r.lead +
      (s.set.dHead[r.lane] + ((s.profile r.slot).e + r.cutsDone * (r.length.getD 0 - 2 * (s.profile r.slot).e) / p.k)) * 65536,
      .cut r) := rfl
  rw [← at_]
  unfold State.laneStation
  rcases state with planned | slicing
  · rw [planned]
    dsimp only
    rw [plan]
  · have unended : r.slicingEnded = false := open_.resolve_left fun planned => nomatch slicing.symm.trans planned
    rw [slicing]
    dsimp only
    rw [plan, unended]

theorem laneStation_clear {r : Rec}
    (unsliced : (r.state = .planned ∧ r.plan = none) ∨ (r.state = .slicing ∧ r.slicingEnded = true)) :
    s.laneStation r = some (r.lead + (s.set.dHead[r.lane] + r.length.getD 0) * 65536, .clearOfHead r) := by
  have at_ : some (s.clearPosition r, Station.clearOfHead r) =
      some (r.lead + (s.set.dHead[r.lane] + r.length.getD 0) * 65536, .clearOfHead r) := rfl
  rw [← at_]
  unfold State.laneStation
  rcases unsliced with ⟨planned, none⟩ | ⟨slicing, ended⟩
  · rw [planned]
    dsimp only
    rw [none]
  · rw [slicing]
    dsimp only
    rw [ended]
    cases r.plan <;> rfl

/-! ### Cuts made and missed (R74, R75) -/

/-- A record with one cut more. -/
def Rec.cutOnce (r : Rec) : Rec := { r with cutsDone := r.cutsDone + 1, state := .slicing }

/-- A record whose slicing has ended. -/
def Rec.sliced (r : Rec) : Rec := { r with slicingEnded := true }

/-- A record whose slicing has ended at a missed cut. -/
def Rec.spoilt (r : Rec) : Rec := { r.addReason .blade with slicingEnded := true }

theorem spoilt_loaf (r : Rec) : r.spoilt.loaf = r.loaf := addReason_loaf r .blade

theorem takeCut_running {r : Rec} {p : Plan} (plan : r.plan = some p) (running : (s.head r.lane).blade = .running) :
    takeStation (.cut r) s = makeCut r p.k s := by
  show takeCut r s = _
  rw [takeCut, plan]
  exact if_pos running

theorem takeCut_missed {r : Rec} {p : Plan} (plan : r.plan = some p) (stopped : (s.head r.lane).blade ≠ .running) :
    takeStation (.cut r) s = missCut r s := by
  show takeCut r s = _
  rw [takeCut, plan]
  exact if_neg stopped

theorem makeCut_goesOn {r : Rec} {k : Nat} (more : r.cutsDone < k) (s : State) : makeCut r k s = onRec r.loaf Rec.cutOnce s :=
  if_neg (Nat.not_le.2 more)

theorem makeCut_ends {r : Rec} {k : Nat} (last : k ≤ r.cutsDone) (s : State) : makeCut r k s =
    toQueued r (endSlicing r.cutOnce (onRec r.loaf Rec.sliced (onRec r.loaf Rec.cutOnce s))) :=
  if_pos last

/-- The last cut of a record. -/
structure LastCut (r : Rec) (s u : State) : Prop where
  shares : SameBut { lp := true, trk := true, hd := true, crm := true } s u ∧
    u.crm.heads = putAt s.crm.heads r.lane { s.crm.heads[r.lane] with
      estimate := min 4000000 (s.crm.heads[r.lane].estimate + shareOf s r (r.cutsDone + 1))
      loaves := min 65535 (s.crm.heads[r.lane].loaves + 1) } ∧
    u.crm.belt = min 4000000 (s.crm.belt + shareOf s r (r.cutsDone + 1) / 8) ∧
    SlicingEnds s r (r.cutsDone + 1) s.crm u.crm ∧ ForcedRaised s u
  leaves : LeavesTrialList r.lane r.loaf s u
  record : RecordBecomes r { r with cutsDone := r.cutsDone + 1, slicingEnded := true, state := .queued } s u

theorem makeCut_last {r : Rec} {k : Nat} (last : k ≤ r.cutsDone) (s : State) : LastCut r s (makeCut r k s) := by
  rw [makeCut_ends last]
  generalize counted : onRec r.loaf Rec.sliced (onRec r.loaf Rec.cutOnce s) = v
  have frame : SameBut { trk := true } s v := by
    rw [← counted]
    exact (onRec_without _ r.loaf _ rfl).trans (onRec_without s r.loaf _ rfl)
  have becomes : RecordBecomes r r.cutOnce.sliced s v := by
    rw [← counted]
    exact (onRec_becomes r Rec.cutOnce (fun _ => rfl) s).trans rfl
      (onRec_becomes r.cutOnce Rec.sliced (fun _ => rfl) (onRec r.loaf Rec.cutOnce s))
  have handed : SharesHanded r (r.cutsDone + 1) v (endSlicing r.cutOnce v) := by
    obtain ⟨frame, heads, belt, ends, forced, flags⟩ := endSlicing_handed r.cutOnce v
    exact ⟨frame, heads, belt, ends, forced, flags⟩
  have handedFrame := handed.frame
  obtain ⟨queuedFrame, queued, leaves, flags⟩ := toQueued_queued r (endSlicing r.cutOnce v)
  have sliced : SameBut { lp := true, trk := true, crm := true } s (endSlicing r.cutOnce v) :=
    (handedFrame.widen fun _ => rfl).trans (frame.widen fun _ => rfl)
  obtain ⟨-, heads, belt, ends, forced, -⟩ := handed.congr_left (kept_crm frame rfl) (kept_pst frame rfl rfl)
    (kept_lp frame rfl rfl) sliced
  have afterCut : RecordBecomes r r.cutOnce.sliced s (endSlicing r.cutOnce v) := becomes.of_trk (kept_trk handedFrame rfl)
  have hd : (endSlicing r.cutOnce v).hd = s.hd := kept_hd sliced rfl
  have crm : (toQueued r (endSlicing r.cutOnce v)).crm = (endSlicing r.cutOnce v).crm := kept_crm queuedFrame rfl
  have table : RecordBecomes r { r with cutsDone := r.cutsDone + 1, slicingEnded := true, state := .queued } s
      (toQueued r (endSlicing r.cutOnce v)) := by
    obtain ⟨_, moved, _⟩ := toQueued_queued r.cutOnce.sliced (endSlicing r.cutOnce v)
    exact afterCut.trans rfl moved
  refine ⟨⟨(queuedFrame.widen fun _ => rfl).trans (sliced.widen fun _ => rfl), ?_, ?_, ?_, ?_⟩, ?_, table⟩
  · rw [crm, heads]
  · rw [crm, belt]
  · rw [crm]
    exact ends
  · exact forced.congr rfl crm (flags .crumbForced)
  · exact leaves.congr hd.symm rfl id

/-- A slicing that ends at a missed cut. -/
structure Spoilt (r : Rec) (s u : State) : Prop where
  shares : SameBut { lp := true, trk := true, crm := true } s u ∧
    u.crm.heads = putAt s.crm.heads r.lane { s.crm.heads[r.lane] with
      estimate := min 4000000 (s.crm.heads[r.lane].estimate + shareOf s r r.cutsDone)
      loaves := min 65535 (s.crm.heads[r.lane].loaves + 1) } ∧
    u.crm.belt = min 4000000 (s.crm.belt + shareOf s r r.cutsDone / 8) ∧
    SlicingEnds s r r.cutsDone s.crm u.crm ∧ ForcedRaised s u ∧ (∀ k, s.flag k = true → u.flag k = true)
  record : RecordBecomes r r.spoilt s u

theorem endSlicing_spoilt (r : Rec) (s : State) : Spoilt r s (endSlicing r (onRec r.loaf Rec.spoilt s)) := by
  have frame : SameBut { trk := true } s (onRec r.loaf Rec.spoilt s) := onRec_without s r.loaf _ rfl
  have handed := endSlicing_handed r (onRec r.loaf Rec.spoilt s)
  have handedFrame := handed.frame
  have becomes : RecordBecomes r r.spoilt s (onRec r.loaf Rec.spoilt s) := onRec_becomes r Rec.spoilt spoilt_loaf s
  exact ⟨handed.congr_left (kept_crm frame rfl) (kept_pst frame rfl rfl) (kept_lp frame rfl rfl)
    ((handedFrame.widen fun _ => rfl).trans (frame.widen fun _ => rfl)), becomes.of_trk (kept_trk handedFrame rfl)⟩

theorem missCut_planned {r : Rec} (planned : r.state = .planned) (s : State) : missCut r s = onRec r.loaf Rec.withdraw s := by
  rw [missCut, planned]

theorem missCut_slicing {r : Rec} (slicing : r.state = .slicing) (s : State) :
    missCut r s = endSlicing r (onRec r.loaf Rec.spoilt s) := by
  rw [missCut, slicing]
  rfl

theorem withdraw_loaf (r : Rec) : r.withdraw.loaf = r.loaf := addReason_loaf r .blade

/-- Settles O26: the position by the record's cuts, a cut by the blade's state and the cuts left. -/
theorem cutsAtTheirPositions : Obligations.CutsAtTheirPositions := by
  refine ⟨fun s r p _ plan state => ?_, fun s r _ unsliced => ⟨laneStation_clear unsliced, ?_⟩⟩
  · refine ⟨laneStation_cut plan state, fun running more => ?_, fun running last => ?_, fun stopped planned => ?_,
      fun stopped slicing => ?_⟩
    · rw [takeCut_running plan running, makeCut_goesOn more]
      exact ⟨onRec_without s r.loaf _ rfl, onRec_becomes r Rec.cutOnce (fun _ => rfl) s⟩
    · rw [takeCut_running plan running]
      obtain ⟨shares, leaves, record⟩ := makeCut_last last s
      exact ⟨shares, leaves, record⟩
    · rw [takeCut_missed plan stopped, missCut_planned planned]
      exact ⟨onRec_without s r.loaf _ rfl, onRec_becomes r Rec.withdraw withdraw_loaf s⟩
    · rw [takeCut_missed plan stopped, missCut_slicing slicing]
      obtain ⟨⟨frame, heads, belt, ends, forced, -⟩, record⟩ := endSlicing_spoilt r s
      exact ⟨⟨frame.widen fun _ => rfl, heads, belt, ends, forced⟩, kept_hd frame rfl, record⟩
  · obtain ⟨frame, record, leaves, -⟩ := toQueued_queued r s
    exact ⟨_, rfl, frame, record, leaves⟩

end Sys2Proof.Machine
end

section
/-! PROOFS. The warm restart: the table cleared, the settling of a line at rest, and the raisings (R185, R186, R199). -/

namespace Sys2Proof.Machine

variable {s t u : State}

/-! ### The table cleared without raising (R51) -/

/-- Records retired CLEARED one after another, without raising. -/
def retireAllQuiet (rs : List Rec) (s : State) : State := rs.foldl (fun s r => retireQuiet r .cleared s) s

theorem clearQuiet_eq (s : State) : clearQuiet s = retireAllQuiet s.clearOrder s := rfl

/-- What quiet retirements leave. -/
structure QuietlyRetired (rs : List Rec) (s u : State) : Prop where
  frame : SameBut { trk := true, tot := true, arb := true, tie := true, refs := true } s u
  tot : u.tot = clearedTot rs s.tot
  nextLoaf : u.trk.nextLoaf = s.trk.nextLoaf
  nextSeq : u.trk.nextSeq = s.trk.nextSeq
  arb : ∃ f p, u.arb = { s.arb with flight := f, pushers := p }
  tie : ∃ o, u.tie = { s.tie with openReads := o }

theorem retireAllQuiet_retired (rs : List Rec) (s : State) : QuietlyRetired rs s (retireAllQuiet rs s) := by
  induction rs generalizing s with
  | nil => exact ⟨rfl, rfl, rfl, rfl, ⟨_, _, rfl⟩, _, rfl⟩
  | cons r rs ih =>
    obtain ⟨⟨trk, totals, -⟩, -⟩ := retireQuiet_as r .cleared s
    obtain ⟨f, p, first⟩ := retireQuiet_arb r .cleared s
    have reads := retireQuiet_tie r .cleared s
    obtain ⟨frame, tot, nextLoaf, nextSeq, ⟨f', p', arb⟩, o, tie⟩ := ih (retireQuiet r .cleared s)
    refine ⟨frame.trans (retireQuiet_keeps r .cleared s), ?_, ?_, ?_, ⟨f', p', ?_⟩, o, ?_⟩
    · exact tot.trans (by rw [totals, clearedTot_cons])
    · exact nextLoaf.trans (by rw [trk])
    · exact nextSeq.trans (by rw [trk])
    · exact arb.trans (by rw [first])
    · exact tie.trans (by rw [reads])

/-- A CLOSING shift that is gone after retirements is CLOSED. -/
theorem clearedTot_closes {rs : List Rec} {x : Tot} {sh : Shift} (closing : x.closing = some sh)
    (gone : (clearedTot rs x).closing = none) : ∃ y, (clearedTot rs x).closed = some y := by
  induction rs generalizing x sh with
  | nil => exact nomatch closing.symm.trans gone
  | cons r rs ih =>
    rw [clearedTot_cons] at gone ⊢
    obtain ⟨y, tagged⟩ := onTagged_closing (n := r.tag) (f := (·.retire r .cleared)) closing
    cases after : (onTagged r.tag (·.retire r .cleared) x).settle.closing with
    | some z => exact ih after gone
    | none =>
      obtain ⟨-, closed⟩ := clearedTot_unclosing (rs := rs) after
      rw [closed]
      exact settle_closes tagged after

/-- Retirements leave a shift's sequence, digit and bags, and what was admitted. -/
theorem clearedIn_kept (rs : List Rec) (sh : Shift) :
    (clearedIn rs sh).digit = sh.digit ∧ (clearedIn rs sh).bags = sh.bags := by
  induction rs generalizing sh with
  | nil => exact ⟨rfl, rfl⟩
  | cons r rs ih =>
    rw [clearedIn_cons]
    split
    · exact ih (sh.retire r .cleared)
    · exact ih sh

/-! ### The settling of a line at rest -/

/-- A part at rest: a READY line, an empty table, the lanes out of service with their blades still, nothing pending. -/
structure State.AtRest (s : State) : Prop where
  line : s.lc.state = .ready
  ceiling : s.lc.ceiling = s.set.lineMax
  target : s.lc.target = 0
  source : s.sru.selected = .pacer
  pacer : s.sru.pacerSpeed = 0
  estimate : s.sru.estimate = 0
  reference : s.sru.state = .idle
  records : s.records = []
  lanes : ∀ l, ((s.lane l).state = .idle ∨ (s.lane l).state = .parked) ∧ (s.lane l).retrial = none
  heads : ∀ l, ((s.head l).blade = .stopped ∨ (s.head l).blade = .parked) ∧ (s.head l).demand = 0
  changeover : s.arb.changeover = .none
  reindex : s.tie.state ≠ .reindexPending
  unheld : s.trk.reserveHeld = false

namespace State.AtRest

variable (h : s.AtRest)
include h

theorem still (l : Lane) : (s.head l).blade ≠ .running ∧ (s.head l).blade ≠ .spinup := by
  obtain ⟨stopped | parked, -⟩ := h.heads l
  · rw [stopped]; exact ⟨nofun, nofun⟩
  · rw [parked]; exact ⟨nofun, nofun⟩

theorem admits (l : Lane) : (s.lane l).admitting = false := by
  obtain ⟨idle | parked, -⟩ := h.lanes l
  · rw [LaneCtl.admitting, idle]
  · rw [LaneCtl.admitting, parked]

theorem blades : forLanes stopIdleBlade s = s :=
  forLanes_induction (P := fun t => t = s) (fun l t e => by
    obtain ⟨notRunning, -⟩ := h.still l
    rw [e]
    unfold stopIdleBlade
    split
    · rfl
    · rfl
    · exact if_neg fun due => notRunning due.1) rfl

theorem retrials : forLanes settleRetrial s = s :=
  forLanes_induction (P := fun t => t = s) (fun l t e => by
    have never : s.mayRetry l = false := by simp [State.mayRetry, h.line]
    obtain ⟨-, retrial⟩ := h.lanes l
    rw [e]
    exact settleRetrial_self never retrial) rfl

theorem settledLine (before : State) : settleLine before s = s := by
  simp [settleLine, h.blades, checkNoLanes, settleStart, settleDrain, h.line]

theorem settledBlocks (n : Nat) : settleBlocks n s = settlePurge n s := by
  have reindex : settleReindex s = s := if_neg fun due => h.reindex due.1
  have changeover : settleChangeover s = s := settleChangeover_still fun c => by rw [h.changeover]; exact nofun
  rw [settleBlocks, h.blades, reindex, changeover]

theorem refreshedTarget : refreshTarget s = s := by
  have ceiling : s.lineCeiling = s.lc.ceiling := by simp [State.lineCeiling, h.admits, h.ceiling]
  have zero : (s.onLc fun lc => { lc with ceiling := s.lineCeiling }).demandTarget = 0 := by
    simp [State.demandTarget, h.line]
  unfold refreshTarget
  dsimp only
  rw [zero, ceiling]
  show { s with lc := { s.lc with target := 0, rampCarry := if s.lc.target = 0 then s.lc.rampCarry else 0 } } = s
  rw [if_pos h.target, ← h.target]

theorem refreshedPacer : refreshPacer s = s := by
  have speed : pacerOf s.sru.state s.lc.demand s.sru.frozen = 0 := by rw [h.reference]; rfl
  unfold refreshPacer State.onSru
  dsimp only
  rw [speed, h.source]
  dsimp only
  have sru : ({ s.sru with pacerSpeed := 0, estimate := 0 } : Sru) = s.sru := by
    rw [← h.pacer]
    exact congrArg (fun n => ({ s.sru with estimate := n } : Sru)) (h.pacer.trans h.estimate.symm)
  exact congrArg (fun x => ({ s with sru := x } : State)) (by rw [← h.source]; exact sru)

theorem refreshedBlades : refreshBlades s = s := by
  have demand : ∀ l : Fin 4, ({ s.hd.heads[l] with demand := s.bladeDemand l } : Head) = s.hd.heads[l] := fun l => by
    obtain ⟨rests, zero⟩ := h.heads l
    have none : s.bladeDemand l = (s.hd.heads[l]).demand := by
      rw [show (s.hd.heads[l]).demand = 0 from zero, State.bladeDemand]
      rcases rests with stopped | parked
      · rw [stopped]
      · rw [parked]
    rw [none]
  have heads : (Vector.ofFn fun l : Fin 4 => { s.hd.heads[l] with demand := s.bladeDemand l }) = s.hd.heads :=
    Vector.ext fun k hk => by
      rw [Vector.getElem_ofFn]
      exact demand ⟨k, hk⟩
  show { s with hd := { s.hd with heads := Vector.ofFn fun l : Fin 4 => _ } } = s
  rw [heads]

end State.AtRest

/-- A part at rest with its withhold set as due. -/
def withheld (s : State) : State := { s with arb := { s.arb with withhold := s.withholdDue } }

/-- A part at rest with its gates as their conditions make them. -/
def gated (s : State) : State :=
  { s with trk := { s.trk with closedBy := Vector.ofFn fun l : Fin 4 => s.closedBy l, reserveHeld := false } }

namespace State.AtRest

theorem withheld (h : s.AtRest) : (withheld s).AtRest :=
  ⟨h.line, h.ceiling, h.target, h.source, h.pacer, h.estimate, h.reference, h.records, h.lanes, h.heads, h.changeover, h.reindex,
    h.unheld⟩

theorem refreshed (h : s.AtRest) : refresh s = Machine.withheld s := by
  unfold refresh
  rw [h.refreshedTarget, h.refreshedPacer, h.refreshedBlades]
  rfl

theorem closed (h : s.AtRest) (l : Lane) : (s.closedBy l).getLsbD 0 = true := by
  refine (closedBy_bit s l 0).2 ?_
  simp [State.gateConditions, h.line]

theorem evaluated (h : s.AtRest) : evaluateGates s = gated s := by
  have alone : (List.any Sys2Proof.lanes fun l => (s.onTrk fun t =>
      { t with closedBy := Vector.ofFn fun l : Fin 4 => s.closedBy l }).reserveAlone l) = false := by
    rw [List.any_eq_false]
    intro l _ only
    have held : ((Vector.ofFn fun l : Fin 4 => s.closedBy l)[l] == 0x20) = true := only
    rw [reserveAlone_iff] at held
    have first := held 0
    simp only [Fin.getElem_fin, Vector.getElem_ofFn] at first
    exact absurd ((h.closed l).symm.trans first) (by decide)
  unfold evaluateGates
  dsimp only
  rw [alone, if_neg (by simp)]
  rfl

/-- A part at rest grants nothing: the line itself withholds. -/
theorem settledGrants (h : s.AtRest) (n : Nat) : settleGrants n s = Machine.withheld s := by
  have line : (Machine.withheld s).arb.withhold.line = true := by
    show s.withholdDue.line = true
    simp [State.withholdDue, h.line]
  have grants : settleGrant n (Machine.withheld s) = Machine.withheld s := by
    refine if_neg fun due => ?_
    simp [Withhold.isEmpty, line] at due
  have changeover : settleChangeover (Machine.withheld s) = Machine.withheld s :=
    settleChangeover_still fun c => by rw [h.withheld.changeover]; exact nofun
  unfold settleGrants
  rw [h.retrials, h.refreshed, grants, changeover]

/-- The settling of a part at rest starts the front purge and evaluates the derived values. -/
theorem settles (h : s.AtRest) (before : State) (n : Nat) (purges : (settlePurge n s).AtRest) :
    settle before n s = gated (Machine.withheld (settlePurge n s)) := by
  have again : Machine.withheld (Machine.withheld (settlePurge n s)) = Machine.withheld (settlePurge n s) := rfl
  rw [settle_eq, h.settledLine, h.settledBlocks, purges.settledGrants, purges.withheld.refreshed, again, purges.withheld.evaluated]

theorem queue (h : s.AtRest) (l : Lane) : s.queue l = [] := by
  cases queue : s.queue l with
  | nil => rfl
  | cons r rest =>
    have member : r ∈ s.records := (mem_records_iff s r).2 (.inl ⟨l, by rw [queue]; exact List.mem_cons_self⟩)
    rw [h.records] at member
    exact nomatch member

/-- A waiting front starts on a part at rest. -/
theorem purge_starts (h : s.AtRest) (n : Nat) {e : PurgeEntry} {rest : List PurgeEntry} (wait : s.crm.state = .wait)
    (front : s.crm.queue = e :: rest) (flight : s.arb.flight = none) (spacing : s.arb.spacing = none) :
    settlePurge n s = startCycle e.target s := by
  refine settlePurge_starts wait front ?_
  cases e.target with
  | head l => simp [State.mayPurge, h.line, State.headBusy, h.queue]
  | belt => simp [State.mayPurge, h.line, flight, State.clearancePoint, spacing, reachedBy]

theorem started (h : s.AtRest) (e : Target) : (startCycle e s).AtRest := by
  have frame : SameBut { hd := true, crm := true } s (startCycle e s) := startCycle_without s e rfl rfl
  have lc := kept_lc frame rfl rfl
  have sru := kept_sru frame rfl rfl
  have trk := kept_trk frame rfl
  have heads : ∀ l, (((startCycle e s).head l).blade = .stopped ∨ ((startCycle e s).head l).blade = .parked) ∧
      ((startCycle e s).head l).demand = 0 := fun l => by
    cases e with
    | belt => exact h.heads l
    | head k =>
      have head : (startCycle (.head k) s).head l = (setBlade .parked k s).head l := rfl
      rw [head, setBlade, head_onHead]
      split
      · exact ⟨.inr rfl, (h.heads l).2⟩
      · exact h.heads l
  refine ⟨by rw [lc]; exact h.line, ?_, by rw [lc]; exact h.target, by rw [sru]; exact h.source, by rw [sru]; exact h.pacer,
    by rw [sru]; exact h.estimate, by rw [sru]; exact h.reference, ?_, fun l => ?_, heads, ?_, ?_, by rw [trk]; exact h.unheld⟩
  · rw [lc, State.set, kept_settings frame rfl]
    exact h.ceiling
  · rw [State.records, trk]
    exact h.records
  · rw [startCycle_lane]
    exact h.lanes l
  · rw [kept_arb frame rfl]
    exact h.changeover
  · rw [kept_tie frame rfl]
    exact h.reindex

end State.AtRest

/-! ### The raisings in their order (R185, R193, R199) -/

/-- LP with just some kinds raised, each with its notice unless masked, a reply going first. -/
structure Lined (m : BitVec 24) (ks : List Kind) (u : State) : Prop where
  busy : u.lp.tx ≠ .idle
  mask : u.lp.mask = m
  flag : ∀ k, u.flag k = true ↔ k ∈ ks
  queue : u.lp.queue.map Notice.kind = ks.filter fun k => !kindIn m k

theorem Lined.raise {m : BitVec 24} {ks : List Kind} {k : Kind} (h : Lined m ks u) (new : k ∉ ks) (x : List Byte) :
    Lined m (ks ++ [k]) (raise k x u) := by
  obtain ⟨busy, mask, flag, queue⟩ := h
  have unqueued : u.lp.queue.any (fun n => n.kind == k) = false := by
    rw [List.any_eq_false]
    intro n hn same
    have member : n.kind ∈ ks.filter fun k => !kindIn m k := queue ▸ List.mem_map_of_mem hn
    exact new ((beq_iff_eq.1 same) ▸ (List.mem_filter.1 member).1)
  have flags : ∀ j, (Machine.raise k x u).flag j = true ↔ j ∈ ks ++ [k] := fun j => by
    rw [raise_flag, Bool.or_eq_true_iff, flag, decide_eq_true_iff, List.mem_append, List.mem_singleton]
  have lp : (Machine.raise k x u).lp = u.lp.raise k u.pst.clock x := rfl
  by_cases masked : kindIn m k = true
  · have raised : u.lp.raise k u.pst.clock x = { u.lp with flags := u.lp.flags ||| k.bit } := by
      unfold Lp.raise
      dsimp only
      rw [mask, masked]
      rfl
    refine ⟨?_, ?_, flags, ?_⟩
    · rw [lp, raised]; exact busy
    · rw [lp, raised]; exact mask
    · rw [lp, raised, List.filter_append, List.filter_cons_of_neg (by simp [masked]), List.filter_nil, List.append_nil]
      exact queue
  · have raised : u.lp.raise k u.pst.clock x = Lp.withAttn { u.lp with
        flags := u.lp.flags ||| k.bit, queue := u.lp.queue ++ [⟨k, u.pst.clock, x⟩] } := by
      unfold Lp.raise
      dsimp only
      rw [unqueued, if_neg (by simp [mask, masked])]
      exact beginNext_of_busy (lp := Lp.withAttn { u.lp with
        flags := u.lp.flags ||| k.bit, queue := u.lp.queue ++ [⟨k, u.pst.clock, x⟩] }) busy
    refine ⟨?_, ?_, flags, ?_⟩
    · rw [lp, raised]; exact busy
    · rw [lp, raised]; exact mask
    · rw [lp, raised, List.filter_append, List.filter_cons_of_pos (by simp [masked]), List.filter_nil, ← queue]
      exact List.map_append

/-- A kind in a list where a condition holds. -/
def kindIf (c : Bool) (k : Kind) : List Kind := if c then [k] else []

theorem mem_kindIf {c : Bool} {k j : Kind} : j ∈ kindIf c k ↔ j = k ∧ c = true := by
  unfold kindIf
  cases c <;> simp

theorem Lined.raiseWhile {m : BitVec 24} {ks : List Kind} {k : Kind} (h : Lined m ks u) (new : k ∉ ks) (c : Bool)
    (x : List Byte) : Lined m (ks ++ kindIf c k) (raiseWhile c k x u) := by
  cases c with
  | true => exact h.raise new x
  | false =>
    have none : ks ++ kindIf false k = ks := List.append_nil ks
    rw [none]
    exact h

/-- The kinds that a restart raises. -/
def restartKinds (s : State) (closes : Bool) : List Kind :=
  [.lineState] ++ kindIf (decide (s.bag.state = .down)) .baggerDown ++ kindIf (decide (s.bag.supply < s.set.bagsLow)) .bagsLow ++
    kindIf (decide (s.tie.supply < s.set.clipsLow)) .clipsLow ++ kindIf s.tie.reindexCause .tyerReindex ++
    kindIf s.tie.blind .verifierBlind ++ kindIf closes .shiftClosed

theorem raiseIfClosed_of {before : Tot} {sh x : Shift} (closing : before.closing = some sh) (gone : s.tot.closing = none)
    (closed : s.tot.closed = some x) : raiseIfClosed before s = raise .shiftClosed (shiftSnapshot x) s := by
  unfold raiseIfClosed
  rw [closing, gone, closed]

theorem raiseIfClosed_none {before : Tot} (none : before.closing = none ∨ s.tot.closing ≠ none) : raiseIfClosed before s = s := by
  unfold raiseIfClosed
  rcases none with none | stands
  · rw [none]
  · obtain ⟨sh, closing⟩ := Option.ne_none_iff_exists'.1 stands
    rw [closing]
    cases before.closing <;> rfl

/-- The persisting conditions whose causes stand are raised in the order of their kinds. -/
theorem Lined.raisePersisting {m : BitVec 24} {v : State} (h : Lined m [.lineState] v) :
    Lined m (restartKinds v false) (raisePersisting v) := by
  have down := h.raiseWhile (k := .baggerDown) (by simp) (decide (v.bag.state = .down))
    (leBytes 2 v.bag.supply ++ [byteOf v.bag.misses])
  have bags := down.raiseWhile (k := .bagsLow) (by simp [mem_kindIf]) (decide (v.bag.supply < v.set.bagsLow))
    (leBytes 2 v.bag.supply ++ leBytes 2 v.set.bagsLow)
  have clips := bags.raiseWhile (k := .clipsLow) (by simp [mem_kindIf]) (decide (v.tie.supply < v.set.clipsLow))
    (leBytes 2 v.tie.supply ++ leBytes 2 v.set.clipsLow)
  have reindex := clips.raiseWhile (k := .tyerReindex) (by simp [mem_kindIf]) v.tie.reindexCause (reindexSnapshot v)
  have blind := reindex.raiseWhile (k := .verifierBlind) (by simp [mem_kindIf]) v.tie.blind
    (Config.blindSnapshot v.pst.clock).toList
  have none : restartKinds v false = _ := List.append_nil _
  rw [none]
  exact blind

theorem restartKinds_true (s : State) : restartKinds s true = restartKinds s false ++ [.shiftClosed] := by
  simp [restartKinds, kindIf]

/-- The raisings of a restart on a part with nothing raised. -/
theorem restartRaisings_lined {before v : State} {m : BitVec 24} (clear : Lined m [] v)
    (closes : before.tot.closing ≠ none → v.tot.closing = none → ∃ x, v.tot.closed = some x) :
    Lined m (restartKinds v (decide (before.tot.closing ≠ none ∧ v.tot.closing = none))) (restartRaisings before v) := by
  have line := clear.raise (List.not_mem_nil (a := .lineState)) (lineSnapshot before.lc.state v)
  have persisting := line.raisePersisting
  have tot : (raisePersisting (raise .lineState (lineSnapshot before.lc.state v) v)).tot = v.tot :=
    kept_tot (b := { lp := true }) (by simp) rfl
  by_cases gone : before.tot.closing ≠ none ∧ v.tot.closing = none
  · obtain ⟨stood, left⟩ := gone
    obtain ⟨sh, closing⟩ := Option.ne_none_iff_exists'.1 stood
    obtain ⟨x, closed⟩ := closes stood left
    rw [restartRaisings, raiseIfClosed_of closing (by rw [tot]; exact left) (by rw [tot]; exact closed),
      decide_eq_true ⟨stood, left⟩, restartKinds_true]
    exact persisting.raise (by simp [restartKinds, mem_kindIf]) _
  · rw [restartRaisings, raiseIfClosed_none (by rw [tot]; tauto), decide_eq_false gone]
    exact persisting

end Sys2Proof.Machine
end

section
/-! PROOFS. RESTART (R185). -/

namespace Sys2Proof.Requests

open Sys2Proof.Machine

variable {s t u : State}

/-! ### What every block takes at a restart (R185) -/

/-- Every block as RESTART leaves it, LP apart. -/
structure BlocksRestarted (s u : State) : Prop where
  frame :
    SameBut { lp := true, sru := true, lc := true, trk := true, hd := true, arb := true, bag := true, tie := true, crm := true, tot := true, refs := true } s u
  sru : u.sru = s.sru.restart s.set.windowMs
  lc : u.lc = s.lc.restart s.set.lineMax
  records : u.records = []
  nextLoaf : u.trk.nextLoaf = s.trk.nextLoaf
  nextSeq : u.trk.nextSeq = s.trk.nextSeq
  rejectGate : u.trk.rejectGate = .pass
  unheld : u.trk.reserveHeld = false
  hd : u.hd = s.hd.restart
  arb : u.arb = s.arb.restart
  bag : u.bag = s.bag.restart
  tie : u.tie = s.tie.restart s.set.reindexMs
  crm : u.crm = s.crm.restart
  tot : u.tot = clearedTot s.clearOrder s.tot

theorem restartBlocks_restarted (s : State) : BlocksRestarted s (restartBlocks s) := by
  obtain ⟨frame, tot, nextLoaf, nextSeq, ⟨f, p, arb⟩, o, tie⟩ := retireAllQuiet_retired s.clearOrder s
  have records : (retireAllQuiet s.clearOrder s).records = [] := clearQuiet_records s
  have blocks : restartBlocks s = { retireAllQuiet s.clearOrder s with
      lp := Lp.withAttn { (retireAllQuiet s.clearOrder s).lp with flags := 0, queue := [] }
      sru := (retireAllQuiet s.clearOrder s).sru.restart s.set.windowMs
      lc := (retireAllQuiet s.clearOrder s).lc.restart s.set.lineMax
      trk := (retireAllQuiet s.clearOrder s).trk.restart
      hd := (retireAllQuiet s.clearOrder s).hd.restart
      arb := (retireAllQuiet s.clearOrder s).arb.restart
      bag := (retireAllQuiet s.clearOrder s).bag.restart
      tie := (retireAllQuiet s.clearOrder s).tie.restart s.set.reindexMs
      crm := (retireAllQuiet s.clearOrder s).crm.restart } := rfl
  rw [blocks]
  generalize retireAllQuiet s.clearOrder s = v at *
  have whole := frame.widen
    (c := { lp := true, sru := true, lc := true, trk := true, hd := true, arb := true, bag := true, tie := true, crm := true, tot := true, refs := true }) fun _ => rfl
  refine ⟨whole, ?_, ?_, records, nextLoaf, nextSeq, rfl, rfl, ?_, ?_, ?_, ?_, ?_, tot⟩
  · exact congrArg (Sru.restart · _) (kept_sru frame rfl rfl)
  · exact congrArg (Lc.restart · _) (kept_lc frame rfl rfl)
  · exact congrArg Hd.restart (kept_hd frame rfl)
  · exact (congrArg Arb.restart arb).trans rfl
  · exact congrArg Bag.restart (kept_bag frame rfl)
  · exact (congrArg (Tie.restart · _) tie).trans rfl
  · exact congrArg Crm.restart (kept_crm frame rfl)

/-- LP is no part of what the blocks take. -/
theorem BlocksRestarted.of_lp (h : BlocksRestarted s t) (lp : SameBut { lp := true } t u) : BlocksRestarted s u := by
  obtain ⟨frame, sru, lc, records, nextLoaf, nextSeq, rejectGate, unheld, hd, arb, bag, tie, crm, tot⟩ := h
  have trk : u.trk = t.trk := kept_trk lp rfl
  exact ⟨(lp.widen fun _ => rfl).trans frame, (kept_sru lp rfl rfl).trans sru, (kept_lc lp rfl rfl).trans lc,
    (records_of_trk trk).trans records, trk ▸ nextLoaf, trk ▸ nextSeq, trk ▸ rejectGate,
    trk ▸ unheld, (kept_hd lp rfl).trans hd, (kept_arb lp rfl).trans arb, (kept_bag lp rfl).trans bag, (kept_tie lp rfl).trans tie,
    (kept_crm lp rfl).trans crm, (kept_tot lp rfl).trans tot⟩

theorem BlocksRestarted.head (h : BlocksRestarted s u) (l : Lane) : u.head l = Head.powerOn := by
  rw [State.head, h.hd]
  simp [Hd.restart]

theorem BlocksRestarted.lane (h : BlocksRestarted s u) (l : Lane) : u.lane l = (s.lane l).restart := by
  rw [State.lane, h.hd]
  simp [Hd.restart, State.lane]

theorem BlocksRestarted.set (h : BlocksRestarted s u) : u.set = s.set := kept_settings h.frame rfl

/-- A restarted part is at rest. -/
theorem BlocksRestarted.atRest (h : BlocksRestarted s u) : u.AtRest := by
  refine ⟨by rw [h.lc]; rfl, by rw [h.lc, h.set]; rfl, by rw [h.lc]; rfl, by rw [h.sru]; rfl, by rw [h.sru]; rfl, by rw [h.sru]; rfl,
    by rw [h.sru]; rfl, h.records, fun l => ?_, fun l => ?_, by rw [h.arb]; rfl, ?_, h.unheld⟩
  · rw [h.lane, LaneCtl.restart]
    dsimp only
    cases (s.lane l).state with
    | parked => exact ⟨.inr rfl, rfl⟩
    | idle => exact ⟨.inl rfl, rfl⟩
    | running => exact ⟨.inl rfl, rfl⟩
    | trial => exact ⟨.inl rfl, rfl⟩
    | down => exact ⟨.inl rfl, rfl⟩
  · rw [h.head]
    exact ⟨.inl rfl, rfl⟩
  · rw [h.tie, Tie.restart]
    dsimp only
    by_cases pending : s.tie.state = .reindexPending ∨ s.tie.state = .reindex
    · rw [if_pos (by simpa using pending)]
      exact nofun
    · rw [if_neg (by simpa using pending)]
      exact fun e => pending (.inl e)

/-! ### The front purge at a restart (R138, R147) -/

/-- What becomes of the front purge: it starts anew. -/
structure FrontRestarted (x p : State) : Prop where
  frame : SameBut { hd := true, crm := true } x p
  rest : p.AtRest
  lane : ∀ l, p.lane l = x.lane l
  head : ∀ l, p.head l = if x.crm.queue.head?.map PurgeEntry.target = some (.head l) then
    { x.head l with blade := .parked, spinup := none } else x.head l
  crm : p.crm = match x.crm.queue with
    | [] => x.crm
    | e :: _ => { x.crm with
      state := .purging, cycle := some ⟨e.target, x.crm.estimate e.target, none, none⟩, weigh := some Config.weighMs }

theorem settlePurge_restarts {x : State} (h : x.AtRest) (n : Nat) (flight : x.arb.flight = none) (spacing : x.arb.spacing = none)
    (state : x.crm.state = if x.crm.queue.isEmpty then .idle else .wait) : FrontRestarted x (settlePurge n x) := by
  cases queue : x.crm.queue with
  | nil =>
    have stays : settlePurge n x = x := by
      unfold settlePurge
      rw [queue] at state
      rw [show x.crm.state = .idle from state]
    rw [stays]
    exact ⟨rfl, h, fun _ => rfl, fun l => by rw [queue]; rfl, by rw [queue]⟩
  | cons e rest =>
    have wait : x.crm.state = .wait := by rw [state, queue]; rfl
    rw [h.purge_starts n wait queue flight spacing]
    refine ⟨startCycle_without x e.target rfl rfl, h.started e.target, fun l => startCycle_lane _ l x, fun l => ?_, ?_⟩
    · rw [queue]
      show (startCycle e.target x).head l = if some e.target = some (.head l) then _ else _
      cases e.target with
      | belt => rw [if_neg nofun]; rfl
      | head k =>
        have head : (startCycle (.head k) x).head l = (setBlade .parked k x).head l := rfl
        rw [head, setBlade, head_onHead]
        by_cases same : l = k
        · subst same
          rw [if_pos rfl, if_pos rfl]
        · rw [if_neg same, if_neg fun e => same (by simpa using e.symm)]
    · rw [queue]
      exact startCycle_crm e.target x

end Sys2Proof.Requests
end

section
/-! PROOFS. RESTART, its raisings and its reply (R185, R199). -/

namespace Sys2Proof.Requests

open Sys2Proof.Machine

variable {s t u : State}

/-- The kinds by whether each is raised. -/
theorem restartKinds_filtered (s : State) (closes : Bool) : restartKinds s closes =
    [Kind.lineState, .baggerDown, .bagsLow, .clipsLow, .tyerReindex, .verifierBlind, .shiftClosed].filter fun k =>
      decide (k ∈ restartKinds s closes) := by
  unfold restartKinds
  generalize decide (s.bag.state = .down) = down
  generalize decide (s.bag.supply < s.set.bagsLow) = bags
  generalize decide (s.tie.supply < s.set.clipsLow) = clips
  generalize s.tie.reindexCause = reindex
  generalize s.tie.blind = blind
  revert down bags clips reindex blind closes
  decide

theorem replyReady_lined (r : Reply) (flags : u.lp.flags = 0) (queue : u.lp.queue = []) : Lined u.lp.mask [] (replyReady r u) := by
  have clear : ∀ lp : Lp, lp.flags = 0 → ∀ k : Kind, kindIn lp.flags k = true ↔ k ∈ ([] : List Kind) := fun lp zero k => by
    rw [zero]
    cases k <;> decide
  have lp : (replyReady r u).lp = Lp.beginNext { u.lp with reply := some r } := rfl
  by_cases idle : u.lp.tx = .idle
  · have begun : (replyReady r u).lp = { u.lp with tx := .sendingReply r, reply := none, hand := u.lp.waiting, waiting := none } := by
      rw [lp, Lp.beginNext]
      dsimp only
      rw [idle]
    exact ⟨by rw [begun]; exact nofun, by rw [begun], fun k => by rw [State.flag, begun]; exact clear _ flags k,
      by rw [begun]; exact congrArg (List.map Notice.kind) queue⟩
  · have busy : (replyReady r u).lp = { u.lp with reply := some r } := by
      rw [lp]
      exact beginNext_of_busy (lp := { u.lp with reply := some r }) idle
    exact ⟨by rw [busy]; exact idle, by rw [busy], fun k => by rw [State.flag, busy]; exact clear _ flags k,
      by rw [busy]; exact congrArg (List.map Notice.kind) queue⟩

/-- RESTART before the settling. -/
def restartedBy (tag : Byte) (s : State) : State :=
  restartRaisings s (giveReply 0x24 tag (Answer.okay (restartBlocks s) []))

theorem restart_runs {tag : Byte} (h : Handling ⟨0x24, tag, []⟩ s) : 
    exec (.restart tag []) s = .next (settle (restartedBy tag s) (restartedBy tag s).pos (restartedBy tag s)) := by
  have on : s.powered = true := h.1
  have served : exec (.restart tag []) s = execRestart tag [] s := rfl
  rw [served, execRestart, whenPowered_event on, takeUp_handling h]
  dsimp only
  rw [if_pos List.length_nil]
  rfl

theorem restartedBy_stands (tag : Byte) (s : State) : ReplyStands ⟨0x24, tag, []⟩ .ok [] none (restartedBy tag s) :=
  (replyReady_stands ⟨0x24, tag, []⟩ .ok [] none (restartBlocks s)).acts (sure := False) (restartRaisings_acts _ _)

theorem giveReply_restarted (tag : Byte) (s : State) :
    BlocksRestarted s (giveReply 0x24 tag (Answer.okay (restartBlocks s) [])) :=
  (restartBlocks_restarted s).of_lp (replyReady_without _ _ rfl)

theorem restartedBy_restarted (tag : Byte) (s : State) : BlocksRestarted s (restartedBy tag s) :=
  (giveReply_restarted tag s).of_lp (restartRaisings_without _ _ rfl)

/-- The kinds of the causes that stand after a restart. -/
def standingKinds (s u : State) : List Kind := restartKinds u (decide (s.tot.closing ≠ none ∧ u.tot.closing = none))

theorem restartedBy_lined (tag : Byte) (s : State) :
    Lined s.lp.mask (standingKinds s (giveReply 0x24 tag (Answer.okay (restartBlocks s) []))) (restartedBy tag s) := by
  have blocks := giveReply_restarted tag s
  have lp : (restartBlocks s).lp = Lp.withAttn { s.lp with flags := 0, queue := [] } := by
    have quiet : (clearQuiet s).lp = s.lp := kept_lp (b := { trk := true, tot := true, arb := true, tie := true, refs := true })
      (clearQuiet_without s rfl rfl rfl rfl rfl) rfl rfl
    show Lp.withAttn { (clearQuiet s).lp with flags := 0, queue := [] } = _
    rw [quiet]
  have clear : Lined s.lp.mask [] (giveReply 0x24 tag (Answer.okay (restartBlocks s) [])) := by
    have lined := replyReady_lined (u := restartBlocks s) ⟨replyFrame 0x24 tag .ok [], none⟩ (by rw [lp]; rfl) (by rw [lp]; rfl)
    rw [lp] at lined
    exact lined
  refine restartRaisings_lined clear fun stood left => ?_
  obtain ⟨sh, closing⟩ := Option.ne_none_iff_exists'.1 stood
  rw [blocks.tot] at left ⊢
  exact clearedTot_closes closing left

theorem mem_standingKinds (blocks : BlocksRestarted s u) (k : Kind) :
    k ∈ standingKinds s u ↔ k = .lineState ∨ (k = .baggerDown ∧ s.bag.state = .down) ∨
      (k = .bagsLow ∧ s.bag.supply < s.set.bagsLow) ∨ (k = .clipsLow ∧ s.tie.supply < s.set.clipsLow) ∨
      (k = .tyerReindex ∧ ((s.tie.state = .reindexPending ∨ s.tie.state = .reindex) ∨ s.tie.owed = true)) ∨
      (k = .verifierBlind ∧ s.tie.blind = true) ∨ (k = .shiftClosed ∧ s.tot.closing ≠ none ∧ u.tot.closing = none) := by
  have down : u.bag.state = .down ↔ s.bag.state = .down := by
    rw [blocks.bag, Bag.restart]
    dsimp only
    cases s.bag.state <;> simp
    split <;> simp
  have cause : u.tie.reindexCause = true ↔ (s.tie.state = .reindexPending ∨ s.tie.state = .reindex) ∨ s.tie.owed = true := by
    rw [blocks.tie, Tie.reindexCause, Tie.restart]
    dsimp only
    by_cases pending : s.tie.state = .reindexPending ∨ s.tie.state = .reindex
    · simp [pending]
    · simp [not_or.1 pending]
  have bags : u.bag.supply = s.bag.supply := by rw [blocks.bag]; rfl
  have clips : u.tie.supply = s.tie.supply := by rw [blocks.tie]; rfl
  have blind : u.tie.blind = s.tie.blind := by rw [blocks.tie]; rfl
  unfold standingKinds restartKinds
  simp only [List.mem_append, List.mem_singleton, mem_kindIf, decide_eq_true_iff, down, cause, bags, clips, blind, blocks.set, or_assoc]

/-- RESTART's counts of the shifts: a CLOSING one is CLOSED, and the open one keeps what it has admitted. -/
theorem clearedTot_shifts (s : State) :
    (AccountsHold s → ∀ sh, s.tot.closing = some sh → (clearedTot s.clearOrder s.tot).closing = none ∧
      ∃ x, (clearedTot s.clearOrder s.tot).closed = some x ∧ x.seq = sh.seq ∧ x.closeTime = sh.closeTime ∧ x.inTable = 0) ∧
    ∀ sh, s.tot.opened = some sh → ∃ sh', (clearedTot s.clearOrder s.tot).opened = some sh' ∧ sh'.seq = sh.seq ∧
      sh'.digit = sh.digit ∧ sh'.bags = sh.bags ∧ ∀ l : Lane, sh'.perLane[l].admitted = sh.perLane[l].admitted := by
  refine ⟨fun accounts sh closing => ?_, fun sh opened => ⟨clearedIn s.clearOrder sh, ?_, ?_⟩⟩
  · obtain ⟨gone, closed, empty⟩ := cleared_closing accounts closing
    rw [retireAll_tot] at gone closed
    obtain ⟨seq, time, -⟩ := clearedIn_cleared s.clearOrder sh
    exact ⟨gone, _, closed, seq, time, empty⟩
  · rw [clearedTot_opened, opened]
    rfl
  · obtain ⟨seq, -, -, each⟩ := clearedIn_cleared s.clearOrder sh
    obtain ⟨digit, bags⟩ := clearedIn_kept s.clearOrder sh
    exact ⟨seq, digit, bags, fun l => (each l).1⟩

/-- What a restart leaves once it has settled. -/
def restartSettled (p : State) : State := gated (withheld p)

theorem restartSettled_lp (front : FrontRestarted u t) : (restartSettled t).lp = u.lp :=
  (kept_lp front.frame rfl rfl : t.lp = u.lp)

theorem restartSettled_crm (blocks : BlocksRestarted s u) (front : FrontRestarted u t) :
    (s.crm.queue = [] → (restartSettled t).crm = { s.crm with
      state := .idle, cycle := none, purge := none, settle := none, weigh := none, air := none }) ∧
    ∀ e rest, s.crm.queue = e :: rest → (restartSettled t).crm = { s.crm with
      state := .purging, weigh := some 200, purge := none, settle := none, air := none
      cycle := some ⟨e.target, (match e.target with
        | .head l => s.crm.heads[l].estimate
        | .belt => s.crm.belt), none, none⟩ } := by
  have crm : (restartSettled t).crm = t.crm := rfl
  have queue : u.crm.queue = s.crm.queue := by rw [blocks.crm]; rfl
  rw [crm, front.crm, queue, blocks.crm]
  refine ⟨fun none => ?_, fun e rest some => ?_⟩
  · rw [none, Crm.restart]
    dsimp only
    rw [none]
    simp
  · rw [some, Crm.restart]
    dsimp only
    cases e.target <;> rfl

theorem restartSettled_lane (blocks : BlocksRestarted s u) (front : FrontRestarted u t) (l : Lane) :
    (restartSettled t).lane l = { s.lane l with
      state := if (s.lane l).state = .parked then .parked else .idle
      trialLeft := 0, trialList := [], trialRan := false, retrial := none } ∧
    (restartSettled t).head l = ⟨if s.crm.queue.head?.map PurgeEntry.target = some (.head l) then .parked else .stopped,
      ⟨false, 0, 0, 0⟩, 0, none⟩ := by
  have lane : (restartSettled t).lane l = t.lane l := rfl
  have head : (restartSettled t).head l = t.head l := rfl
  have queue : u.crm.queue = s.crm.queue := by rw [blocks.crm]; rfl
  refine ⟨?_, ?_⟩
  · rw [lane, front.lane, blocks.lane, LaneCtl.restart]
    dsimp only
    cases (s.lane l).state <;> rfl
  · rw [head, front.head, blocks.head, queue]
    split <;> rfl

theorem restartSettled_tie (blocks : BlocksRestarted s u) (front : FrontRestarted u t) :
    (restartSettled t).tie = { s.tie with
      openReads := [], state := if s.tie.state = .reindexPending ∨ s.tie.state = .reindex then .reindex else s.tie.state
      reindex := if s.tie.state = .reindexPending ∨ s.tie.state = .reindex then some s.set.reindexMs else none
      tyerOut := if s.tie.state = .reindexPending ∨ s.tie.state = .reindex then .reindex else .none } := by
  have tie : (restartSettled t).tie = u.tie := (kept_tie front.frame rfl : t.tie = u.tie)
  rw [tie, blocks.tie, Tie.restart]
  dsimp only
  by_cases pending : s.tie.state = .reindexPending ∨ s.tie.state = .reindex
  · simp [pending]
  · simp [pending]

theorem restartSettled_gates (front : FrontRestarted u t) (l : Lane) : (restartSettled t).gateOpen l = false := by
  have bits : (restartSettled t).trk.closedBy[l] = (withheld t).closedBy l := by
    simp [restartSettled, gated]
  rw [State.gateOpen, bits, beq_eq_false_iff_ne]
  intro zero
  have first := front.rest.withheld.closed l
  rw [zero] at first
  exact nomatch first

/-- Settles O45: a restarted part is at rest, so that its settling starts the front purge and evaluates the derived values alone. -/
theorem restart : Obligations.Restart := by
  intro s tag h
  have blocks := restartedBy_restarted tag s
  have before := giveReply_restarted tag s
  have lined := restartedBy_lined tag s
  have kinds := mem_standingKinds before
  have answered := restartedBy_stands tag s
  have runs := restart_runs h
  generalize restartedBy tag s = x at blocks lined answered runs
  generalize giveReply 0x24 tag (Answer.okay (restartBlocks s) []) = v at before lined kinds
  have front := settlePurge_restarts blocks.atRest x.pos (by rw [blocks.arb]; rfl) (by rw [blocks.arb]; rfl) (by rw [blocks.crm]; rfl)
  have settled : settle x x.pos x = restartSettled (settlePurge x.pos x) := blocks.atRest.settles x x.pos front.rest
  rw [settled] at runs
  generalize settlePurge x.pos x = p at front runs
  obtain ⟨-, -, flag, queue⟩ := lined
  have lp := restartSettled_lp front
  have tot : (restartSettled p).tot = clearedTot s.clearOrder s.tot := (kept_tot front.frame rfl).trans blocks.tot
  have flags : ∀ k, (restartSettled p).flag k = true ↔ k ∈ standingKinds s v := fun k => by
    rw [State.flag, lp]
    exact flag k
  obtain ⟨closes, opens⟩ := clearedTot_shifts s
  obtain ⟨noPurge, purge⟩ := restartSettled_crm blocks front
  have lc : (restartSettled p).lc = s.lc.restart s.set.lineMax := (kept_lc front.frame rfl rfl).trans blocks.lc
  have sru : (restartSettled p).sru = s.sru.restart s.set.windowMs := (kept_sru front.frame rfl rfl).trans blocks.sru
  have trk : p.trk = x.trk := kept_trk front.frame rfl
  have arb : (restartSettled p).arb = { s.arb.restart with withhold := p.withholdDue } := by
    have arb : p.arb = x.arb := kept_arb front.frame rfl
    show { p.arb with withhold := p.withholdDue } = _
    rw [arb, blocks.arb]
  have bag : (restartSettled p).bag = s.bag.restart := (kept_bag front.frame rfl).trans blocks.bag
  refine ⟨restartSettled p, runs, ?_, ?_, ?_, ?_, ?_, ?_, ?_, ?_, ?_, restartSettled_gates front, restartSettled_lane blocks front, ?_,
    withholdFollows_due rfl, ?_, noPurge, purge, ⟨restartSettled_tie blocks front, fun k => ?_⟩, ?_, ?_, ?_⟩
  · rw [ReplyStands, lp]
    exact answered
  · have last : SameBut { trk := true, arb := true } p (restartSettled p) := rfl
    have whole := (last.widen
      (c := { lp := true, sru := true, lc := true, trk := true, hd := true, arb := true, bag := true, tie := true, crm := true, tot := true, refs := true })
      fun _ => rfl).trans (front.frame.widen fun _ => rfl)
    exact whole.trans blocks.frame
  · rw [lc]
    rfl
  · rw [sru]
    rfl
  · exact congrArg List.length front.rest.records
  · exact (congrArg Trk.nextLoaf trk).trans blocks.nextLoaf
  · exact (congrArg Trk.nextSeq trk).trans blocks.nextSeq
  · exact (congrArg Trk.rejectGate trk).trans blocks.rejectGate
  · rfl
  · rw [arb]
    rfl
  · rw [bag, Bag.restart]
    cases s.bag.state <;> rfl
  · rw [flags, kinds, tot, before.tot]
  · have listed : (restartSettled p).lp.queue.map Notice.kind = (standingKinds s v).filter fun k => !kindIn s.lp.mask k := by
      rw [lp]
      exact queue
    rw [listed, standingKinds, restartKinds_filtered, List.filter_filter]
    refine List.filter_congr fun k _ => ?_
    have same : (restartSettled p).flag k = decide (k ∈ standingKinds s v) := by
      rw [Bool.eq_iff_iff, flags, decide_eq_true_iff]
    rw [same, Bool.and_comm]
    rfl
  · rw [tot]
    exact closes
  · rw [tot]
    exact opens

end Sys2Proof.Requests
end

section
/-! PROOFS. The settings set: its bytes, its ranges, its steps and its conditions (section 9.3, R127, R168). -/

namespace Sys2Proof.Machine

variable {s t u : State}

/-! ### The bytes of consecutive fields -/

theorem leBytes_length (n v : Nat) : (leBytes n v).length = n := by
  induction n generalizing v with
  | zero => rfl
  | succ n ih => simp [leBytes, ih]

/-- The width of consecutive fields. -/
def widthOf (fs : List Field) : Nat := (fs.map Field.width).sum

theorem writeFields_readFields (fs : List Field) {bs : List Byte} (length : bs.length = widthOf fs) :
    writeFields fs (readFields fs bs) = bs := by
  induction fs generalizing bs with
  | nil => exact (List.eq_nil_of_length_eq_zero length).symm
  | cons f fs ih =>
    have whole : bs.length = f.width + widthOf fs := length
    have first : leBytes f.width (leNat (bs.take f.width)) = bs.take f.width := by
      have taken : (bs.take f.width).length = f.width := by simp [whole]
      have read := leBytes_leNat (bs.take f.width)
      rwa [taken] at read
    rw [readFields, writeFields, first, ih (by simp [whole]), List.take_append_drop]

/-- Fields wide enough for their ranges. -/
def Field.Wide (f : Field) : Prop := f.hi < 256 ^ f.width

theorem readFields_writeFields {fs : List Field} (wide : ∀ f ∈ fs, f.Wide) {vs : List Nat} (ranges : inRanges fs vs = true) :
    readFields fs (writeFields fs vs) = vs := by
  induction fs generalizing vs with
  | nil =>
    cases vs with
    | nil => rfl
    | cons v vs => exact nomatch ranges
  | cons f fs ih =>
    cases vs with
    | nil => exact nomatch ranges
    | cons v vs =>
      obtain ⟨first, rest⟩ := Bool.and_eq_true_iff.1 ranges
      obtain ⟨-, high⟩ := of_decide_eq_true first
      have width := leBytes_length f.width v
      have fits : v < 256 ^ f.width := Nat.lt_of_le_of_lt high (wide f List.mem_cons_self)
      rw [writeFields, readFields, List.take_append_of_le_length width.ge, List.drop_append_of_le_length width.ge,
        List.take_of_length_le width.le, List.drop_of_length_le width.le, leNat_leBytes _ _ fits, List.nil_append,
        ih (fun g hg => wide g (List.mem_cons_of_mem _ hg)) rest]

theorem settingsFields_wide : ∀ f ∈ settingsFields, f.Wide := by
  unfold Field.Wide
  decide

theorem settingsFields_width : widthOf settingsFields = 154 := by decide

theorem settingsBytes_layout (x : LineSettings) : settingsBytes x = SettingsLayout x := by
  unfold settingsBytes settingsValues SettingsLayout
  simp only [toList_four, settingsFields, fieldPerLane, List.cons_append, List.nil_append, writeFields, List.append_assoc,
    List.append_nil]

/-! ### A set read back from its values -/

theorem perLane_four {α : Type} (v : PerLane α) : (#v[v[0], v[1], v[2], v[3]] : PerLane α) = v :=
  Vector.ext fun i hi => by interval_cases i <;> rfl

theorem onSteps_iff (x : LineSettings) : onSteps x = true ↔ SettingsOnSteps x := by
  simp [onSteps, SettingsOnSteps, Nat.dvd_iff_mod_eq_zero]

theorem settingsOf_settingsValues {x : LineSettings} (steps : SettingsOnSteps x) : settingsOf (settingsValues x) = x := by
  obtain ⟨w, h, c, p, r⟩ := steps
  have narrowing : decide ((if x.narrowing = true then 1 else 0) = 1) = x.narrowing := by cases x.narrowing <;> rfl
  have window := Nat.mul_div_cancel' w
  have holdover := Nat.mul_div_cancel' h
  have changeover := Nat.mul_div_cancel' c
  have purge := Nat.mul_div_cancel' p
  have reindex := Nat.mul_div_cancel' r
  have values : settingsOf (settingsValues x) = { x with
      windowMs := 10 * (x.windowMs / 10), holdoverMs := 100 * (x.holdoverMs / 100), changeoverMs := 100 * (x.changeoverMs / 100)
      purgeMs := 100 * (x.purgeMs / 100), reindexMs := 100 * (x.reindexMs / 100)
      narrowing := decide ((if x.narrowing = true then 1 else 0) = 1)
      dHead := #v[x.dHead[0], x.dHead[1], x.dHead[2], x.dHead[3]], dPocket := #v[x.dPocket[0], x.dPocket[1], x.dPocket[2], x.dPocket[3]]
      rmax := #v[x.rmax[0], x.rmax[1], x.rmax[2], x.rmax[3]]
      pulsesPerRev := #v[x.pulsesPerRev[0], x.pulsesPerRev[1], x.pulsesPerRev[2], x.pulsesPerRev[3]] } := by
    unfold settingsValues
    simp only [toList_four]
    rfl
  rw [values, window, holdover, changeover, purge, reindex, narrowing, perLane_four, perLane_four, perLane_four, perLane_four]

/-! ### Ranges and conditions (R1, R40, R69, R130, R168) -/

theorem all_lanes {p : Lane → Bool} : lanes.all p = true ↔ ∀ l, p l = true := by
  rw [List.all_eq_true]
  exact ⟨fun h l => h l (by fin_cases l <;> decide), fun h l _ => h l⟩

theorem settingsAgree_iff (x : LineSettings) : settingsAgree x = true ↔ SettingsAgree x := by
  unfold settingsAgree geometryOk SettingsAgree idleCount
  simp only [Bool.and_eq_true, all_lanes, Bool.or_eq_true, Bool.not_eq_true', decide_eq_false_iff_not, decide_eq_true_iff]
  constructor
  · rintro ⟨⟨⟨accept, heads, stations⟩, idle⟩, purges⟩
    refine ⟨accept, fun l low => ?_, ?_⟩
    · obtain ⟨before, beyond⟩ := (heads l).resolve_left (not_not.2 low)
      exact ⟨before, beyond, (idle l).resolve_left (not_not.2 low)⟩
    · obtain ⟨a, b, c, d, e, f, g⟩ := stations
      exact ⟨a, b, c, d, e, f, g, purges⟩
  · rintro ⟨accept, each, a, b, c, d, e, f, g, purges⟩
    refine ⟨⟨⟨accept, fun l => ?_, a, b, c, d, e, f, g⟩, fun l => ?_⟩, purges⟩
    · by_cases low : l.val < x.configured
      · obtain ⟨before, beyond, -⟩ := each l low
        exact .inr ⟨before, beyond⟩
      · exact .inl low
    · by_cases low : l.val < x.configured
      · obtain ⟨-, -, idle⟩ := each l low
        exact .inr idle
      · exact .inl low

theorem forall_lanes {p : Lane → Prop} : (∀ l, p l) ↔ 
    p ⟨0, by decide⟩ ∧ p ⟨1, by decide⟩ ∧ p ⟨2, by decide⟩ ∧ p ⟨3, by decide⟩ :=
  ⟨fun h => ⟨h 0, h 1, h 2, h 3⟩, fun ⟨a, b, c, d⟩ l => by fin_cases l <;> assumption⟩

/-- The ranges of the carried values, given the steps and the conditions between settings. -/
theorem inRanges_settings {x : LineSettings} (steps : SettingsOnSteps x) (agree : SettingsAgree x) :
    (inRanges settingsFields (settingsValues x) = true ∧ (x.challengeInterval = 0 ∨ 50 ≤ x.challengeInterval ∧ x.challengeInterval ≤ 5000)) ↔
      SettingsInRange x := by
  obtain ⟨w, h, c, p, r⟩ := steps
  obtain ⟨accept, -, -, -, -, -, -, -, -, head, belt⟩ := agree
  have narrowing : (if x.narrowing = true then 1 else 0) ≤ 1 := by split <;> decide
  unfold settingsValues SettingsInRange
  simp only [toList_four, settingsFields, fieldPerLane, List.cons_append, List.nil_append, inRanges, Bool.and_eq_true,
    decide_eq_true_iff, forall_lanes, Fin.getElem_fin, and_true]
  generalize (if x.narrowing = true then 1 else 0) = flag at narrowing ⊢
  constructor
  · rintro ⟨ranges, challenge⟩
    (repeat' apply And.intro) <;> omega
  · rintro ranges
    (repeat' apply And.intro) <;> omega
theorem settingsValid_iff (x : LineSettings) :
    settingsValid x = true ↔ SettingsInRange x ∧ SettingsOnSteps x ∧ SettingsAgree x := by
  have parts : settingsValid x = true ↔ ((inRanges settingsFields (settingsValues x) = true ∧
      (x.challengeInterval = 0 ∨ 50 ≤ x.challengeInterval ∧ x.challengeInterval ≤ 5000)) ∧ SettingsOnSteps x) ∧ SettingsAgree x := by
    rw [settingsValid, Bool.and_eq_true, Bool.and_eq_true, Bool.and_eq_true, challengeOk_iff, onSteps_iff, settingsAgree_iff]
  rw [parts]
  constructor
  · rintro ⟨⟨ranges, steps⟩, agree⟩
    exact ⟨(inRanges_settings steps agree).1 ranges, steps, agree⟩
  · rintro ⟨ranges, steps, agree⟩
    exact ⟨⟨(inRanges_settings steps agree).2 ranges, steps⟩, agree⟩

/-! ### What SET_LINE's payload names (R168) -/

/-- A set in its ranges is read back from its bytes. -/
theorem parseSettings_settingsBytes {x : LineSettings} (steps : SettingsOnSteps x)
    (ranges : inRanges settingsFields (settingsValues x) = true) :
    parseSettings (settingsBytes x) = if challengeOk x.challengeInterval then some x else none := by
  unfold parseSettings settingsBytes
  dsimp only
  rw [readFields_writeFields settingsFields_wide ranges, settingsOf_settingsValues steps, ranges, Bool.true_and]

/-- A payload that parses to a set that agrees is the bytes of a valid set. -/
theorem settingsBytes_of_parse {bs : List Byte} {x : LineSettings} (length : bs.length = 154) (parsed : parseSettings bs = some x) :
    settingsBytes x = bs := by
  unfold parseSettings at parsed
  dsimp only at parsed
  split at parsed
  case isFalse => exact nomatch parsed
  case isTrue ranges =>
    cases parsed
    obtain ⟨ranges, -⟩ := Bool.and_eq_true_iff.1 ranges
    obtain ⟨count, each⟩ := (inRanges_iff _ _).1 ranges
    have flag := (each 41 ⟨2, 0, 1⟩ rfl).2
    rw [settingsBytes, settingsValues_settingsOf count flag]
    exact writeFields_readFields settingsFields (length.trans settingsFields_width.symm)

end Sys2Proof.Machine
end

section
/-! PROOFS. What a SET_LINE in force does to the lanes, the purge queue, the supplies and the triggers (R106, R113, R127, R133, R145, R166, R168). -/

namespace Sys2Proof.Machine

variable {s t u : State}

/-! ### Lane by lane -/

/-- An operation done for each lane does its own lane once, the lanes before and after it leaving that lane as it was. -/
theorem forLanes_turn (f : Lane → State → State) (l : Lane) (s : State) : ∃ a b : List Lane, l ∉ a ∧ l ∉ b ∧
    forLanes f s = b.foldl (fun s k => f k s) (f l (a.foldl (fun s k => f k s) s)) := by
  have member : l ∈ lanes := by fin_cases l <;> decide
  have once : lanes.Nodup := by decide
  obtain ⟨a, b, whole⟩ := List.append_of_mem member
  have apart := List.nodup_middle.1 (whole ▸ once)
  obtain ⟨away, -⟩ := List.nodup_cons.1 apart
  refine ⟨a, b, fun h => away (List.mem_append_left _ h), fun h => away (List.mem_append_right _ h), ?_⟩
  rw [forLanes, whole, List.foldl_append, List.foldl_cons]

/-- What a lane's turn brings about from what the turns before it keep, the turns after it keep too. -/
theorem forLanes_reaches {Q P : State → Prop} {f : Lane → State → State} {l : Lane} (own : ∀ t, Q t → P (f l t))
    (before : ∀ j t, l ≠ j → Q t → Q (f j t)) (after : ∀ j t, P t → P (f j t)) (start : Q s) : P (forLanes f s) := by
  obtain ⟨a, b, away, -, turns⟩ := forLanes_turn f l s
  have reaches : Q (a.foldl (fun s k => f k s) s) := by
    clear turns
    induction a generalizing s with
    | nil => exact start
    | cons j a ih =>
      obtain ⟨differ, rest⟩ := List.ne_and_not_mem_of_not_mem_cons away
      exact ih (before j s differ start) rest
  rw [turns]
  have set := own _ reaches
  generalize f l (a.foldl (fun s k => f k s) s) = t at set
  clear turns
  induction b generalizing t with
  | nil => exact set
  | cons j b ih => exact ih _ (after j t set)

/-! ### The lanes and heads of a changed count (R69, R166) -/

/-- A lane as a change of the configured count leaves it. -/
def LaneCtl.unconfigured (c : LaneCtl) : LaneCtl :=
  { c with
    state := .idle, target := false, trialLeft := 0, trialList := [], trialRan := false, trialFails := 0, retrial := none }

/-- HD's part of a change of the configured count for one lane. -/
def resetLane (l : Lane) (s : State) : State :=
  onLane l (fun c => { c with target := false, trialFails := 0 }) (setLaneState .idle l (endTrial l s))

theorem resetLane_self (l : Lane) (s : State) : (resetLane l s).lane l = (s.lane l).unconfigured := by
  rw [resetLane, lane_onLane_self, setLaneState_lane_self, endTrial_lane, if_pos rfl]
  rfl

theorem resetLane_other {k l : Lane} (s : State) (other : l ≠ k) : (resetLane k s).lane l = s.lane l := by
  rw [resetLane, lane_onLane_ne _ _ other, setLaneState_lane_ne _ _ other, endTrial_lane, if_neg other]

theorem resetLane_head (k l : Lane) (s : State) : (resetLane k s).head l = s.head l := by
  show (setLaneState .idle k (endTrial k s)).head l = s.head l
  rw [setLaneState_head, endTrial_head]

theorem resetLane_frame (l : Lane) (s : State) : SameBut { lp := true, hd := true } s (resetLane l s) :=
  by simp [SameBut, resetLane]

theorem resetLane_flag {k : Kind} (l : Lane) (set : s.flag k = true) : (resetLane l s).flag k = true := by
  show (setLaneState .idle l (endTrial l s)).flag k = true
  exact setLaneState_flag _ _ set

theorem resetLane_raises {l : Lane} (moves : (s.lane l).state ≠ .idle) : (resetLane l s).flag .laneChange = true := by
  have lane : ((endTrial l s).lane l).state = (s.lane l).state := by
    rw [endTrial_lane, if_pos rfl]
  show (setLaneState .idle l (endTrial l s)).flag .laneChange = true
  rw [setLaneState, lane, if_neg moves, raiseLane_flag]
  simp

/-! ### The purge queue without a head's entry (R144, R145) -/

/-- CRM's values without the entry of a head, its cycle aborted. -/
def Crm.dropHead (l : Lane) (c : Crm) : Crm :=
  let d : Crm := if c.cycleTarget = some (.head l) then
    { c with state := .wait, cycle := none, purge := none, settle := none, weigh := none, air := none } else c
  let q := d.queue.filter fun e => e.target != .head l
  { d with queue := q, state := if q.isEmpty ∧ d.running = false then .idle else d.state }

theorem dropHeadEntry_crm (l : Lane) (s : State) : (dropHeadEntry l s).crm = s.crm.dropHead l := by
  unfold dropHeadEntry Crm.dropHead
  by_cases mine : s.crm.cycleTarget = some (.head l)
  · have runs : s.crm.running = true := (running_iff _).2 ((cycleTarget_iff _ _).1 mine).1
    simp only [mine, if_true, onCrm_crm, abortCycle, runs]
  · simp only [mine, if_false, onCrm_crm]

theorem dropHeadEntry_flag (l : Lane) (k : Kind) (s : State) : (dropHeadEntry l s).flag k = s.flag k := by
  have lp : (dropHeadEntry l s).lp = s.lp := kept_lp (dropHeadEntry_without (b := { crm := true }) s l rfl) rfl rfl
  rw [State.flag, lp, State.flag]

theorem dropHeadEntry_hd (l : Lane) (s : State) : (dropHeadEntry l s).hd = s.hd :=
  kept_hd (dropHeadEntry_without (b := { crm := true }) s l rfl) rfl

theorem HeadsDropped.congr {g h : Lane → Bool} {c d : Crm} (k : HeadsDropped g c d) (same : ∀ l, g l = h l) : HeadsDropped h c d := by
  rwa [← funext same]

/-- CRM's values without the entries of some targets, a cycle of theirs aborted. -/
def Crm.losing (p : Target → Bool) (c : Crm) : Crm :=
  let left := c.queue.filter fun e => !p e.target
  if c.running then
    if c.queue.head?.any fun e => p e.target then
      { c with
        queue := left, state := if left = [] then .idle else .wait
        cycle := none, purge := none, settle := none, weigh := none, air := none }
    else { c with queue := left }
  else { c with queue := left, state := if left = [] then .idle else .wait }

theorem losing_running {p : Target → Bool} {c : Crm} (runs : c.running = true) (other : (c.queue.head?.any fun e => p e.target) = false) :
    c.losing p = { c with queue := c.queue.filter fun e => !p e.target } := by
  rw [Crm.losing, if_pos runs, if_neg (by rw [other]; decide)]

theorem losing_mine {p : Target → Bool} {c : Crm} (runs : c.running = true) (mine : (c.queue.head?.any fun e => p e.target) = true) :
    c.losing p = { c with
      queue := c.queue.filter fun e => !p e.target
      state := if (c.queue.filter fun e => !p e.target) = [] then .idle else .wait
      cycle := none, purge := none, settle := none, weigh := none, air := none } := by
  rw [Crm.losing, if_pos runs, if_pos mine]

theorem losing_still {p : Target → Bool} {c : Crm} (still : c.running = false) :
    c.losing p = { c with
      queue := c.queue.filter fun e => !p e.target
      state := if (c.queue.filter fun e => !p e.target) = [] then .idle else .wait } := by
  rw [Crm.losing, if_neg (by rw [still]; decide)]

/-- The targets of some heads. -/
def headsOf (gone : Lane → Bool) : Target → Bool
  | .head l => gone l
  | .belt => false

theorem losing_dropped (gone : Lane → Bool) (c : Crm) : HeadsDropped gone c (c.losing (headsOf gone)) := by
  have each : HeadsDropped gone c (c.losing (headsOf gone)) ↔
      (((c.state = .purging ∨ c.state = .settle) ∧ ¬(∃ e, c.queue.head? = some e ∧ headsOf gone e.target = true) →
        c.losing (headsOf gone) = { c with queue := c.queue.filter fun e => !headsOf gone e.target }) ∧
      ((c.state = .purging ∨ c.state = .settle) ∧ (∃ e, c.queue.head? = some e ∧ headsOf gone e.target = true) →
        c.losing (headsOf gone) = { c with
          queue := c.queue.filter fun e => !headsOf gone e.target
          state := if (c.queue.filter fun e => !headsOf gone e.target) = [] then .idle else .wait
          cycle := none, purge := none, settle := none, weigh := none, air := none }) ∧
      (¬(c.state = .purging ∨ c.state = .settle) → c.losing (headsOf gone) = { c with
        queue := c.queue.filter fun e => !headsOf gone e.target
        state := if (c.queue.filter fun e => !headsOf gone e.target) = [] then .idle else .wait })) := Iff.rfl
  have front : (∃ e, c.queue.head? = some e ∧ headsOf gone e.target = true) ↔
      (c.queue.head?.any fun e => headsOf gone e.target) = true := by
    cases c.queue.head? <;> simp
  rw [each, front, ← running_iff]
  exact ⟨fun ⟨runs, other⟩ => losing_running runs (Bool.eq_false_iff.2 other), fun ⟨runs, mine⟩ => losing_mine runs mine,
    fun still => losing_still (Bool.eq_false_iff.2 still)⟩

/-- Nothing is lost from a queue in order. -/
theorem losing_nothing {c : Crm} (idle : c.state = .idle ↔ c.queue = []) : c.losing (fun _ => false) = c := by
  by_cases runs : c.running = true
  · rw [losing_running runs (by cases c.queue.head? <;> rfl)]
    simp
  · rw [losing_still (Bool.eq_false_iff.2 runs)]
    have state : (if c.queue = [] then .idle else .wait) = c.state := by
      split
      · next empty => exact (idle.2 empty).symm
      · next some =>
        have moved : c.state ≠ .idle := fun e => some (idle.1 e)
        rw [running_iff] at runs
        cases state : c.state with
        | idle => exact absurd state moved
        | wait => rfl
        | purging => exact absurd (.inl state) runs
        | settle => exact absurd (.inr state) runs
    simp [state]

/-- A head's entry leaves a queue whose cycle is not running. -/
theorem dropHead_still {l : Lane} {c : Crm} (state : c.state = if c.queue = [] then .idle else .wait) :
    c.dropHead l = { c with
      queue := c.queue.filter fun e => e.target != .head l
      state := if (c.queue.filter fun e => e.target != .head l) = [] then .idle else .wait } := by
  have still : c.running = false := by
    unfold Crm.running
    rw [state]
    split
    · next h => split at h <;> exact nomatch h
    · next h => split at h <;> exact nomatch h
    · rfl
  have other : c.cycleTarget ≠ some (.head l) := by
    rw [Crm.cycleTarget, still]
    exact nofun
  unfold Crm.dropHead
  dsimp only
  rw [if_neg other, still, state]
  by_cases empty : (c.queue.filter fun e => e.target != .head l) = []
  · rw [if_pos ⟨by rw [empty]; rfl, rfl⟩, if_pos empty]
  · have some : c.queue ≠ [] := fun none => empty (by rw [none]; rfl)
    rw [if_neg fun h => empty (List.isEmpty_iff.1 h.1), if_neg empty, if_neg some]

theorem dropHead_mine {l : Lane} {c : Crm} (mine : c.cycleTarget = some (.head l)) :
    c.dropHead l = { c with
      queue := c.queue.filter fun e => e.target != .head l
      state := if (c.queue.filter fun e => e.target != .head l) = [] then .idle else .wait
      cycle := none, purge := none, settle := none, weigh := none, air := none } := by
  unfold Crm.dropHead
  dsimp only
  rw [if_pos mine]
  dsimp only
  by_cases empty : (c.queue.filter fun e => e.target != .head l) = []
  · rw [if_pos ⟨by rw [empty]; rfl, rfl⟩, if_pos empty]
  · rw [if_neg fun h => empty (List.isEmpty_iff.1 h.1), if_neg empty]

theorem dropHead_running {l : Lane} {c : Crm} (runs : c.running = true) (other : c.cycleTarget ≠ some (.head l)) :
    c.dropHead l = { c with queue := c.queue.filter fun e => e.target != .head l } := by
  unfold Crm.dropHead
  dsimp only
  rw [if_neg other, runs, if_neg fun h => nomatch h.2]

/-- A head's entry leaves after others have. -/
theorem losing_dropHead (p : Target → Bool) (l : Lane) (c : Crm) :
    (c.losing p).dropHead l = c.losing fun t => p t || t == .head l := by
  have left : (c.queue.filter fun e => !p e.target).filter (fun e => e.target != .head l) =
      c.queue.filter fun e => !(p e.target || e.target == .head l) := by
    rw [List.filter_filter]
    refine List.filter_congr fun e _ => ?_
    rw [Bool.not_or, Bool.and_comm]
    rfl
  by_cases runs : c.running = true
  · by_cases mine : (c.queue.head?.any fun e => p e.target) = true
    · have both : (c.queue.head?.any fun e => p e.target || e.target == .head l) = true := by
        cases front : c.queue.head? with
        | none => rw [front] at mine; exact nomatch mine
        | some e => rw [front] at mine; simp_all
      rw [losing_mine runs mine, losing_mine runs both, dropHead_still rfl]
      dsimp only
      rw [left]
    · have other := Bool.eq_false_iff.2 mine
      have target : ({ c with queue := c.queue.filter fun e => !p e.target } : Crm).cycleTarget = c.queue.head?.map PurgeEntry.target := by
        have moves : ({ c with queue := c.queue.filter fun e => !p e.target } : Crm).running = true := runs
        rw [Crm.cycleTarget, moves]
        show ((c.queue.filter fun e => !p e.target).head?).map _ = _
        cases queue : c.queue with
        | nil => rfl
        | cons e rest =>
          rw [queue] at other
          have stays : p e.target = false := other
          rw [List.filter_cons_of_pos (by rw [stays]; rfl)]
          rfl
      rw [losing_running runs other]
      by_cases head : c.queue.head?.map PurgeEntry.target = some (.head l)
      · have both : (c.queue.head?.any fun e => p e.target || e.target == .head l) = true := by
          obtain ⟨e, front, same⟩ := Option.map_eq_some_iff.1 head
          rw [front]
          simp [same]
        rw [losing_mine runs both, dropHead_mine (target.trans head)]
        dsimp only
        rw [left]
      · have both : (c.queue.head?.any fun e => p e.target || e.target == .head l) = false := by
          cases front : c.queue.head? with
          | none => rfl
          | some e => rw [front] at head other; simp_all
        rw [losing_running runs both, dropHead_running (c := { c with queue := c.queue.filter fun e => !p e.target }) runs
          fun e => head (target.symm.trans e)]
        dsimp only
        rw [left]
  · have still := Bool.eq_false_iff.2 runs
    rw [losing_still still, losing_still still, dropHead_still rfl]
    dsimp only
    rw [left]

/-! ### One lane's turn at a change of the configured count -/

/-- Whether a change of the configured count from `m` to `n` unconfigures a lane. -/
def leaves (m n : Nat) (l : Lane) : Bool := decide (n ≤ l.val ∧ l.val < m)

/-- Whether a change of the configured count from `m` to `n` configures a lane. -/
def joins (m n : Nat) (l : Lane) : Bool := decide (m ≤ l.val ∧ l.val < n)

theorem reconfigure_leaves {m n : Nat} {l : Lane} (h : leaves m n l = true) :
    reconfigure m n l s = dropHeadEntry l (resetLane l (setBlade .stopped l s)) := if_pos (of_decide_eq_true h)

theorem leaves_not_joins {m n : Nat} {l : Lane} (h : joins m n l = true) : leaves m n l = false := by
  have := of_decide_eq_true h
  exact decide_eq_false (by omega)

theorem reconfigure_joins {m n : Nat} {l : Lane} (h : joins m n l = true) : reconfigure m n l s = resetLane l s := by
  have away := of_decide_eq_false (leaves_not_joins h)
  exact (if_neg away).trans (if_pos (of_decide_eq_true h))

theorem reconfigure_stays {m n : Nat} {l : Lane} (hl : leaves m n l = false) (hj : joins m n l = false) : reconfigure m n l s = s :=
  (if_neg (of_decide_eq_false hl)).trans (if_neg (of_decide_eq_false hj))

/-- What one turn does to its own lane and head. -/
def Reconfigured (m n : Nat) (l : Lane) (a b : LaneCtl × Head) : Prop :=
  (leaves m n l = true → b = (a.1.unconfigured, { a.2 with blade := .stopped, spinup := none })) ∧
    (joins m n l = true → b = (a.1.unconfigured, a.2)) ∧ (leaves m n l = false → joins m n l = false → b = a)

theorem lane_dropHeadEntry (k l : Lane) (s : State) :
    (dropHeadEntry k s).lane l = s.lane l ∧ (dropHeadEntry k s).head l = s.head l :=
  ⟨lane_of_hd (dropHeadEntry_hd k s) l, congrArg (fun hd : Hd => hd.heads[l]) (dropHeadEntry_hd k s)⟩

theorem reconfigure_own (m n : Nat) (l : Lane) (s : State) :
    Reconfigured m n l (s.lane l, s.head l) ((reconfigure m n l s).lane l, (reconfigure m n l s).head l) := by
  refine ⟨fun away => ?_, fun joining => ?_, fun stays other => by rw [reconfigure_stays stays other]⟩
  · obtain ⟨lane, head⟩ := lane_dropHeadEntry l l (resetLane l (setBlade .stopped l s))
    rw [reconfigure_leaves away, lane, head, resetLane_self, resetLane_head, setBlade_lane, setBlade, head_onHead_self]
  · rw [reconfigure_joins joining, resetLane_self, resetLane_head]

theorem reconfigure_other (m n : Nat) {k l : Lane} (other : l ≠ k) (s : State) :
    (reconfigure m n k s).lane l = s.lane l ∧ (reconfigure m n k s).head l = s.head l := by
  cases away : leaves m n k with
  | true =>
    obtain ⟨lane, head⟩ := lane_dropHeadEntry k l (resetLane k (setBlade .stopped k s))
    rw [reconfigure_leaves away, lane, head, resetLane_other _ other, resetLane_head, setBlade_lane, setBlade, head_onHead_ne _ _ other]
    exact ⟨rfl, rfl⟩
  | false =>
    cases joining : joins m n k with
    | true =>
      rw [reconfigure_joins joining, resetLane_other _ other, resetLane_head]
      exact ⟨rfl, rfl⟩
    | false =>
      rw [reconfigure_stays away joining]
      exact ⟨rfl, rfl⟩

theorem reconfigure_flag {k : Kind} (m n : Nat) (l : Lane) (set : s.flag k = true) : (reconfigure m n l s).flag k = true :=
  (reconfigure_acts (sure := False) s m n l).keeps flag_act set

theorem reconfigure_raises {m n : Nat} {l : Lane} (changes : leaves m n l = true ∨ joins m n l = true)
    (moves : (s.lane l).state ≠ .idle) : (reconfigure m n l s).flag .laneChange = true := by
  cases away : leaves m n l with
  | true =>
    rw [reconfigure_leaves away, dropHeadEntry_flag]
    exact resetLane_raises (by rw [setBlade_lane]; exact moves)
  | false =>
    rw [reconfigure_joins (changes.resolve_left (by rw [away]; decide))]
    exact resetLane_raises moves

theorem reconfigure_crm (m n : Nat) (l : Lane) (s : State) :
    (reconfigure m n l s).crm = if leaves m n l then s.crm.dropHead l else s.crm := by
  cases away : leaves m n l with
  | true =>
    have kept : (resetLane l (setBlade .stopped l s)).crm = s.crm := kept_crm (resetLane_frame l _) rfl
    rw [reconfigure_leaves away, dropHeadEntry_crm, kept]
    rfl
  | false =>
    cases joining : joins m n l with
    | true =>
      rw [reconfigure_joins joining]
      exact kept_crm (resetLane_frame l s) rfl
    | false =>
      rw [reconfigure_stays away joining]
      rfl

/-! ### All lanes in turn -/

theorem reconfigured_crm {m n : Nat} (idle : s.crm.state = .idle ↔ s.crm.queue = []) :
    (forLanes (reconfigure m n) s).crm = s.crm.losing (headsOf (leaves m n)) := by
  have turn : ∀ (p : Target → Bool) (l : Lane) (t : State), t.crm = s.crm.losing p →
      (reconfigure m n l t).crm = s.crm.losing fun x => p x || (leaves m n l && x == .head l) := fun p l t before => by
    rw [reconfigure_crm, before]
    cases leaves m n l with
    | true => exact losing_dropHead p l s.crm
    | false => simp
  have all := turn _ 3 _ (turn _ 2 _ (turn _ 1 _ (turn _ 0 s (losing_nothing idle).symm)))
  have whole : (fun x => (((false || (leaves m n 0 && x == .head 0)) || (leaves m n 1 && x == .head 1)) ||
      (leaves m n 2 && x == .head 2)) || (leaves m n 3 && x == .head 3)) = headsOf (leaves m n) := by
    funext x
    cases x with
    | belt => simp [headsOf]
    | head l =>
      have heads : ∀ a b : Lane, (Target.head a == .head b) = decide (a = b) := by decide
      simp only [heads]
      fin_cases l <;> simp [headsOf]
  rw [← whole]
  exact all

theorem reconfigured_lane (m n : Nat) (l : Lane) (s : State) : Reconfigured m n l (s.lane l, s.head l)
    ((forLanes (reconfigure m n) s).lane l, (forLanes (reconfigure m n) s).head l) :=
  forLanes_own (read := fun t : State => (t.lane l, t.head l)) (reconfigure_own m n l) (fun k t other => by
    obtain ⟨lane, head⟩ := reconfigure_other m n other t
    exact Prod.ext lane head) s

theorem reconfigured_raises {m n : Nat} {l : Lane} (changes : leaves m n l = true ∨ joins m n l = true)
    (moves : (s.lane l).state ≠ .idle) : (forLanes (reconfigure m n) s).flag .laneChange = true :=
  forLanes_reaches (Q := fun t => (t.lane l).state ≠ .idle) (P := fun t => t.flag .laneChange = true)
    (fun t still => reconfigure_raises changes still)
    (fun j t other still => by
      obtain ⟨lane, -⟩ := reconfigure_other m n other t
      rw [lane]
      exact still)
    (fun j t set => reconfigure_flag m n j set) moves

theorem dropHead_queue (l : Lane) (c : Crm) : (c.dropHead l).queue = c.queue.filter fun e => e.target != .head l := by
  unfold Crm.dropHead
  dsimp only
  split <;> rfl

/-- An unconfigured head's entry is gone. -/
theorem reconfigured_absent {m n : Nat} {l : Lane} (away : leaves m n l = true) :
    ∀ e ∈ (forLanes (reconfigure m n) s).crm.queue, e.target ≠ .head l :=
  forLanes_reaches (Q := fun _ => True) (P := fun t => ∀ e ∈ t.crm.queue, e.target ≠ .head l)
    (fun t _ e he => by
      rw [reconfigure_crm, if_pos away, dropHead_queue] at he
      simpa using (List.mem_filter.1 he).2)
    (fun _ _ _ _ => trivial)
    (fun j t absent e he => by
      rw [reconfigure_crm] at he
      split at he
      · rw [dropHead_queue] at he
        exact absent e (List.mem_of_mem_filter he)
      · exact absent e he) trivial

/-- No entry joins the queue when lanes are unconfigured. -/
theorem reconfigured_entries (m n : Nat) (s : State) : ∀ e ∈ (forLanes (reconfigure m n) s).crm.queue, e ∈ s.crm.queue :=
  forLanes_induction (P := fun t => ∀ e ∈ t.crm.queue, e ∈ s.crm.queue) (fun l t within e he => by
    rw [reconfigure_crm] at he
    split at he
    · rw [dropHead_queue] at he
      exact within e (List.mem_of_mem_filter he)
    · exact within e he) fun _ he => he

end Sys2Proof.Machine
end

section
/-! PROOFS. SET_LINE (R168). -/

namespace Sys2Proof.Requests

open Sys2Proof.Machine

variable {s t u : State}

/-! ### The stages of a SET_LINE in force -/

/-- PST and SRU with a set in force. -/
def putSettings (x : LineSettings) (s : State) : State :=
  State.onSru (if s.set = x then s.onPst fun p => { p with settings := x }
    else touchSettings ((s.onPst fun p => { p with settings := x }).onPst fun p => { p with defaulted := false }))
    fun r => { r with incW := increment x.scaleW, incM := increment x.scaleM }

/-- The part before the triggers are evaluated. -/
def beforeTriggers (x : LineSettings) (s : State) : State :=
  thresholdClips s.set (thresholdBags s.set (takeChallenge s.set.challengeInterval x.challengeInterval
    (forLanes (reconfigure s.set.configured x.configured) (putSettings x s))))

theorem applySettings_eq (x : LineSettings) (s : State) : applySettings x s = evalAllTriggers (beforeTriggers x s) := rfl

theorem forLanes_reconfigure_frame (m n : Nat) (s : State) :
    SameBut { lp := true, hd := true, crm := true } s (forLanes (reconfigure m n) s) :=
  without_forLanes s _ fun l t => reconfigure_without t m n l rfl rfl rfl

/-! ### What a set in force leaves in PST and SRU (R168) -/

theorem putSettings_frame (x : LineSettings) (s : State) : SameBut { sru := true, pst := true } s (putSettings x s) := by
  unfold putSettings
  split <;> simp [SameBut]

theorem putSettings_set (x : LineSettings) (s : State) : (putSettings x s).set = x := by
  unfold putSettings
  split <;> rfl

theorem putSettings_sru (x : LineSettings) (s : State) :
    (putSettings x s).sru = { s.sru with incW := increment x.scaleW, incM := increment x.scaleM } := by
  unfold putSettings
  split <;> rfl

theorem putSettings_same {x : LineSettings} (same : x = s.set) : (putSettings x s).pst = s.pst := by
  unfold putSettings
  rw [if_pos same.symm, same]
  rfl

theorem putSettings_changed {x : LineSettings} (other : x ≠ s.set) : (putSettings x s).pst = { s.pst with
    settings := x, unsaved := true, defaulted := false, store := s.pst.store.touch 0 } := by
  unfold putSettings
  rw [if_neg (Ne.symm other)]
  rfl

/-! ### The triggers of every target (R133) -/

/-- CRM after the triggers of some first heads. -/
def afterHeads (n : Nat) (s : State) : State := (lanes.take n).foldl (fun s l => evalTriggers (.head l) s) s

theorem afterHeads_pst (n : Nat) (s : State) : (afterHeads n s).pst = s.pst := by
  unfold afterHeads
  generalize lanes.take n = ls
  induction ls generalizing s with
  | nil => rfl
  | cons l ls ih => exact (ih _).trans (evalTriggers_pst _ s)

theorem evalAllTriggers_pst (s : State) : (evalAllTriggers s).pst = s.pst := by
  have four : forLanes (fun l s => evalTriggers (.head l) s) s = afterHeads 4 s := rfl
  rw [evalAllTriggers, evalTriggers_pst, four, afterHeads_pst]

theorem evalAllTriggers_taken (s : State) :
    (∀ l : Lane, TriggersTaken (evalAllTriggers s) (.head l) (afterHeads l.val s).crm (afterHeads (l.val + 1) s).crm) ∧
      TriggersTaken (evalAllTriggers s) .belt (afterHeads 4 s).crm (evalAllTriggers s).crm := by
  refine ⟨fun l => ?_, ?_⟩
  · have next : afterHeads (l.val + 1) s = evalTriggers (.head l) (afterHeads l.val s) := by
      fin_cases l <;> rfl
    obtain ⟨taken, -⟩ := evalTriggers_taken (.head l) (afterHeads l.val s)
    rw [next]
    exact taken.congr ((afterHeads_pst _ s).trans (evalAllTriggers_pst s).symm)
  · obtain ⟨taken, -⟩ := evalTriggers_taken .belt (afterHeads 4 s)
    exact taken.congr ((afterHeads_pst _ s).trans (evalAllTriggers_pst s).symm)

theorem foldl_evalTriggers_flag {k : Kind} (ls : List Lane) (set : s.flag k = true) :
    (ls.foldl (fun s l => evalTriggers (.head l) s) s).flag k = true := by
  induction ls generalizing s with
  | nil => exact set
  | cons l ls ih => exact ih (lasts_evalTriggers_flag (.head l) set)

theorem evalAllTriggers_forced (s : State) : ForcedRaised s (evalAllTriggers s) := by
  have heads : ∀ ls : List Lane, ∀ t, ForcedRaised t (ls.foldl (fun s l => evalTriggers (.head l) s) t) := by
    intro ls
    induction ls with
    | nil => exact fun t e he _ new => absurd he new
    | cons l ls ih =>
      intro t
      refine ForcedRaised.trans (evalTriggers_taken (.head l) t).2 (ih _) fun set => ?_
      exact foldl_evalTriggers_flag ls set
  exact ForcedRaised.trans (heads lanes s) (evalTriggers_taken .belt _).2 fun set => lasts_evalTriggers_flag _ set

theorem evalAllTriggers_flag {k : Kind} (set : s.flag k = true) : (evalAllTriggers s).flag k = true :=
  (evalAllTriggers_acts (sure := False) s).keeps flag_act set

/-- An evaluation puts no entry of another target into the queue, and none of an unconfigured head. -/
theorem evalTriggers_entries (x : Target) (s : State) {e : PurgeEntry} (he : e ∈ (evalTriggers x s).crm.queue) :
    e ∈ s.crm.queue ∨ (e.target = x ∧ s.targetConfigured x = true) := by
  unfold evalTriggers at he
  split at he
  · exact .inl he
  next evaluated =>
    have configured : s.targetConfigured x = true := by
      by_contra off
      exact evaluated (.inr (Bool.eq_false_iff.2 off))
    split at he
    · obtain ⟨stands, joins⟩ := forcedRequest_takes x s
      by_cases entry : entryOf s.crm.queue x = some ⟨x, .forced⟩
      · rw [stands entry] at he
        exact .inl he
      · obtain ⟨-, crm⟩ := joins entry
        obtain ⟨a, b, queue, others, -⟩ := joinForced_spec s.crm.running (s.crm.queue.filter fun e => e.target != x) x
        rw [crm] at he
        have member : e ∈ a ++ ⟨x, .forced⟩ :: b := queue ▸ he
        rcases List.mem_append.1 member with inA | inB
        · have left : e ∈ a ++ b := List.mem_append_left b inA
          exact .inl (List.mem_of_mem_filter (others ▸ left))
        · rcases List.mem_cons.1 inB with new | behind
          · exact .inr ⟨by rw [new], configured⟩
          · have left : e ∈ a ++ b := List.mem_append_right a behind
            exact .inl (List.mem_of_mem_filter (others ▸ left))
    · split at he
      · obtain ⟨asks, keeps⟩ := softRequest_takes x s
        by_cases entry : entryOf s.crm.queue x = none
        · rw [asks entry] at he
          rcases List.mem_append.1 he with old | new
          · exact .inl old
          · exact .inr ⟨by rw [List.mem_singleton.1 new], configured⟩
        · rw [keeps entry] at he
          exact .inl he
      · exact .inl he

theorem evalTriggers_absent {l : Lane} (x : Target) (off : s.isConfigured l = false) (absent : ∀ e ∈ s.crm.queue, e.target ≠ .head l) :
    ∀ e ∈ (evalTriggers x s).crm.queue, e.target ≠ .head l := fun e he mine => by
  rcases evalTriggers_entries x s he with old | ⟨same, configured⟩
  · exact absent e old mine
  · rw [← same, mine] at configured
    exact nomatch off.symm.trans configured

/-- An unconfigured head without an entry is given none. -/
theorem evalAllTriggers_absent {l : Lane} (off : s.isConfigured l = false) (absent : ∀ e ∈ s.crm.queue, e.target ≠ .head l) :
    ∀ e ∈ (evalAllTriggers s).crm.queue, e.target ≠ .head l := by
  have heads : ∀ (ls : List Lane) (t : State), t.isConfigured l = false → (∀ e ∈ t.crm.queue, e.target ≠ .head l) →
      (ls.foldl (fun s l => evalTriggers (.head l) s) t).isConfigured l = false ∧
        ∀ e ∈ (ls.foldl (fun s l => evalTriggers (.head l) s) t).crm.queue, e.target ≠ .head l := by
    intro ls
    induction ls with
    | nil => exact fun t off absent => ⟨off, absent⟩
    | cons k ls ih =>
      refine fun t off absent => ih _ ?_ (evalTriggers_absent (.head k) off absent)
      unfold State.isConfigured State.set at off ⊢
      rw [evalTriggers_pst]
      exact off
  obtain ⟨off', absent'⟩ := heads lanes s off absent
  exact evalTriggers_absent .belt off' absent'

/-! ### A set in force -/

theorem thresholds_frame (x : LineSettings) (s : State) : SameBut { lp := true } s (thresholdClips x (thresholdBags x s)) :=
  (thresholdClips_without _ x rfl).trans (thresholdBags_without s x rfl)

/-- What a set in force leaves, step by step, before the triggers are evaluated. -/
structure Reset (x : LineSettings) (s u : State) : Prop where
  pst : u.pst = (putSettings x s).pst
  sru : u.sru = { s.sru with incW := increment x.scaleW, incM := increment x.scaleM }
  bag : u.bag = s.bag
  tieSame : x.challengeInterval = s.set.challengeInterval → u.tie = s.tie
  tieNew : x.challengeInterval ≠ s.set.challengeInterval → u.tie = { s.tie with
    challengeCount := 0, counters := ⟨0, 0, 0, 0, 0⟩, capture := none }
  lanes : ∀ l, Reconfigured s.set.configured x.configured l (s.lane l, s.head l) (u.lane l, u.head l)
  changes : ∀ l, leaves s.set.configured x.configured l = true ∨ joins s.set.configured x.configured l = true →
    (s.lane l).state ≠ .idle → u.flag .laneChange = true
  absent : ∀ l, leaves s.set.configured x.configured l = true → ∀ e ∈ u.crm.queue, e.target ≠ .head l
  entries : ∀ e ∈ u.crm.queue, e ∈ s.crm.queue
  crm : (s.crm.state = .idle ↔ s.crm.queue = []) → u.crm = s.crm.losing (headsOf (leaves s.set.configured x.configured))

/-- The part before the thresholds are looked at. -/
def beforeThresholds (x : LineSettings) (s : State) : State :=
  takeChallenge s.set.challengeInterval x.challengeInterval (forLanes (reconfigure s.set.configured x.configured) (putSettings x s))

theorem takeChallenge_same {m n : Nat} (same : n = m) : takeChallenge m n s = s := if_pos same.symm

theorem takeChallenge_new {m n : Nat} (new : n ≠ m) : (takeChallenge m n s).tie = { s.tie with
    challengeCount := 0, counters := ⟨0, 0, 0, 0, 0⟩, capture := none } := by
  unfold takeChallenge
  rw [if_neg (Ne.symm new)]
  rfl

theorem beforeThresholds_reset (x : LineSettings) (s : State) : Reset x s (beforeThresholds x s) := by
  have put := putSettings_frame x s
  have sru := putSettings_sru x s
  have lanes := forLanes_reconfigure_frame s.set.configured x.configured (putSettings x s)
  have each := fun l => reconfigured_lane s.set.configured x.configured l (putSettings x s)
  have raises := fun (l : Lane) (h : leaves s.set.configured x.configured l = true ∨ joins s.set.configured x.configured l = true) =>
    reconfigured_raises (s := putSettings x s) h
  have absent := fun (l : Lane) (h : leaves s.set.configured x.configured l = true) => reconfigured_absent (s := putSettings x s) h
  have entries := reconfigured_entries s.set.configured x.configured (putSettings x s)
  have queue := fun h => reconfigured_crm (s := putSettings x s) (m := s.set.configured) (n := x.configured) h
  unfold beforeThresholds
  generalize forLanes (reconfigure s.set.configured x.configured) (putSettings x s) = v at *
  have hd : (putSettings x s).hd = s.hd := kept_hd put rfl
  have crm : (putSettings x s).crm = s.crm := kept_crm put rfl
  have counted : SameBut { tie := true } v (takeChallenge s.set.challengeInterval x.challengeInterval v) :=
    takeChallenge_without v _ _ rfl
  have tie : v.tie = s.tie := (kept_tie lanes rfl).trans (kept_tie put rfl)
  have countedHd := kept_hd counted rfl
  have countedCrm := kept_crm counted rfl
  refine ⟨(kept_pst counted rfl rfl).trans (kept_pst lanes rfl rfl), ?_, ?_, fun same => ?_, fun new => ?_, fun l => ?_,
    fun l changes moves => ?_, fun l away => ?_, ?_, fun idle => ?_⟩
  · exact (kept_sru counted rfl rfl).trans ((kept_sru lanes rfl rfl).trans sru)
  · exact (kept_bag counted rfl).trans ((kept_bag lanes rfl).trans (kept_bag put rfl))
  · rw [takeChallenge_same same, tie]
  · rw [takeChallenge_new new, tie]
  · have own := each l
    unfold State.lane State.head at own ⊢
    rw [countedHd]
    rwa [hd] at own
  · refine (takeChallenge_acts (sure := False) v _ _).keeps flag_act (raises l changes ?_)
    rw [State.lane, hd]
    exact moves
  · rw [countedCrm]
    exact absent l away
  · rw [countedCrm]
    exact crm ▸ entries
  · rw [countedCrm, ← crm]
    exact queue (by rw [crm]; exact idle)

/-- LP is no part of what a set in force leaves, but for the flags. -/
theorem Reset.of_lp {x : LineSettings} (h : Reset x s t) (frame : SameBut { lp := true } t u)
    (flags : t.flag .laneChange = true → u.flag .laneChange = true) : Reset x s u := by
  obtain ⟨pst, sru, bag, tieSame, tieNew, lanes, changes, absent, entries, crm⟩ := h
  have hd : u.hd = t.hd := kept_hd frame rfl
  have queue : u.crm = t.crm := kept_crm frame rfl
  have tie : u.tie = t.tie := kept_tie frame rfl
  refine ⟨(kept_pst frame rfl rfl).trans pst, (kept_sru frame rfl rfl).trans sru, (kept_bag frame rfl).trans bag,
    fun same => tie.trans (tieSame same), fun new => tie.trans (tieNew new), fun l => ?_, fun l h moves => flags (changes l h moves),
    queue ▸ absent, queue ▸ entries, fun idle => queue.trans (crm idle)⟩
  have own := lanes l
  unfold State.lane State.head at own ⊢
  rwa [hd]

theorem beforeTriggers_reset (x : LineSettings) (s : State) : Reset x s (beforeTriggers x s) :=
  (beforeThresholds_reset x s).of_lp (thresholds_frame s.set (beforeThresholds x s)) fun set =>
    ((thresholdBags_acts (sure := False) (beforeThresholds x s) s.set).trans (thresholdClips_acts _ s.set)).keeps flag_act set

/-- A threshold that has come above its supply raises its kind (R106, R113). -/
theorem beforeTriggers_low (x : LineSettings) (s : State) :
    (s.set.bagsLow ≤ s.bag.supply → s.bag.supply < x.bagsLow → (beforeTriggers x s).flag .bagsLow = true) ∧
      (s.set.clipsLow ≤ s.tie.supply → s.tie.supply < x.clipsLow → (beforeTriggers x s).flag .clipsLow = true) := by
  have reset := beforeThresholds_reset x s
  have put := putSettings_set x s
  have turns : beforeTriggers x s = thresholdClips s.set (thresholdBags s.set (beforeThresholds x s)) := rfl
  rw [turns]
  generalize beforeThresholds x s = v at reset
  have set : v.set = x := by rw [State.set, reset.pst]; exact put
  have supply : v.tie.supply = s.tie.supply := by
    by_cases same : x.challengeInterval = s.set.challengeInterval
    · rw [reset.tieSame same]
    · rw [reset.tieNew same]
  refine ⟨fun stood low => ?_, fun stood low => ?_⟩
  · have raised : (thresholdBags s.set v).flag .bagsLow = true := by
      rw [thresholdBags, reset.bag, set, if_pos ⟨stood, low⟩]
      exact raise_setsFlag ..
    exact (thresholdClips_acts (sure := False) _ s.set).keeps flag_act raised
  · have frame : SameBut { lp := true } v (thresholdBags s.set v) := thresholdBags_without v s.set rfl
    have tie : (thresholdBags s.set v).tie = v.tie := kept_tie frame rfl
    have settings : (thresholdBags s.set v).set = x := (kept_settings frame rfl).trans set
    rw [thresholdClips, tie, supply, settings, if_pos ⟨stood, low⟩]
    exact raise_setsFlag ..

end Sys2Proof.Requests
end

section
/-! PROOFS. SET_LINE: its acceptance, its refusals and its effect (R168, R169). -/

namespace Sys2Proof.Requests

open Sys2Proof.Machine

variable {s t u : State}

/-! ### Refusals (R168, R191) -/

theorem setLine_unready {tag : Byte} {p : List Byte} (length : p.length = 154) (h : Handling ⟨0x14, tag, p⟩ s) (unready : s.lc.state ≠ .ready) :
    Refused (.setLine tag p) ⟨0x14, tag, p⟩ .wrongState s :=
  refused_of_owner (owner := ownSetLine) (len := 154) rfl length (by rw [ownSetLine, if_pos unready]) h

theorem setLine_badField {tag : Byte} {p : List Byte} (length : p.length = 154) (h : Handling ⟨0x14, tag, p⟩ s)
    (ready : s.lc.state = .ready) (invalid : ∀ x, parseSettings p = some x → settingsAgree x = false) :
    Refused (.setLine tag p) ⟨0x14, tag, p⟩ .badField s := by
  refine refused_of_owner (owner := ownSetLine) (len := 154) rfl length ?_ h
  rw [ownSetLine, if_neg (not_not.2 ready)]
  cases parsed : parseSettings p with
  | none => rfl
  | some x =>
    dsimp only
    rw [invalid x parsed]
    rfl

theorem writeFields_length {fs : List Field} {vs : List Nat} (length : vs.length = fs.length) :
    (writeFields fs vs).length = widthOf fs := by
  induction fs generalizing vs with
  | nil => cases vs <;> rfl
  | cons f fs ih =>
    cases vs with
    | nil => exact nomatch length
    | cons v vs =>
      rw [writeFields, List.length_append, leBytes_length, ih (Nat.succ.inj length)]
      rfl

theorem settingsBytes_length (x : LineSettings) : (settingsBytes x).length = 154 := by
  have count : (settingsValues x).length = settingsFields.length := by simp [settingsValues, settingsFields, fieldPerLane]
  exact (writeFields_length count).trans settingsFields_width

/-! ### A set in force (R168) -/

theorem setLine_replies {tag : Byte} {x : LineSettings} (h : Handling ⟨0x14, tag, settingsBytes x⟩ s) (ready : s.lc.state = .ready)
    (valid : settingsValid x = true) :
    Replies (.setLine tag (settingsBytes x)) ⟨0x14, tag, settingsBytes x⟩ .ok (fun _ => []) s (applySettings x s) := by
  have served : exec (.setLine tag (settingsBytes x)) s = serve 0x14 154 ownSetLine tag (settingsBytes x) s := rfl
  obtain ⟨ranges, steps, agree⟩ := (settingsValid_iff x).1 valid
  obtain ⟨carried, challenge⟩ := (inRanges_settings steps agree).2 ranges
  have parsed : parseSettings (settingsBytes x) = some x := by
    rw [parseSettings_settingsBytes steps carried, if_pos ((challengeOk_iff _).2 challenge)]
  have answer : ownSetLine (settingsBytes x) s =
      Answer.okay (settle s (applySettings x s).pos (applySettings x s)) [] := by
    rw [ownSetLine, if_neg (not_not.2 ready), parsed]
    exact if_pos ((settingsAgree_iff x).2 agree)
  rw [Replies, exec_handling h served (settingsBytes_length x), answer, giveReply_okay]

theorem touch_store (st : StoreState) : (st = .idle → st.touch 0 = .idle) ∧
    ∀ snap changed, st = .writing snap changed → st.touch 0 = .writing snap (changed ||| 1) :=
  ⟨fun e => by rw [e]; rfl, fun _ _ e => by rw [e]; rfl⟩

theorem putSettings_assign (x : LineSettings) (s : State) : (putSettings x s).pst.assign = s.pst.assign := by
  unfold putSettings
  split <;> rfl

theorem putSettings_slots (x : LineSettings) (s : State) : (putSettings x s).pst.slots = s.pst.slots := by
  unfold putSettings
  split <;> rfl

/-- What a change of the configured count does, told by the two counts. -/
theorem leaves_iff (m n : Nat) (l : Lane) : leaves m n l = (decide (l.val < m) && !decide (l.val < n)) := by
  rw [Bool.eq_iff_iff]
  simp [leaves, and_comm]

theorem joins_iff (m n : Nat) (l : Lane) : joins m n l = (!decide (l.val < m) && decide (l.val < n)) := by
  rw [Bool.eq_iff_iff]
  simp [joins]

/-- The lanes, the store and the settings of a set in force, once the triggers are evaluated. -/
structure InForce (x : LineSettings) (s u : State) : Prop where
  pst : u.pst = (putSettings x s).pst
  sru : u.sru = { s.sru with incW := increment x.scaleW, incM := increment x.scaleM }
  tieSame : x.challengeInterval = s.set.challengeInterval → u.tie = s.tie
  tieNew : x.challengeInterval ≠ s.set.challengeInterval → u.tie = { s.tie with
    challengeCount := 0, counters := ⟨0, 0, 0, 0, 0⟩, capture := none }
  lanes : ∀ l, Reconfigured s.set.configured x.configured l (s.lane l, s.head l) (u.lane l, u.head l)
  changes : ∀ l, leaves s.set.configured x.configured l = true ∨ joins s.set.configured x.configured l = true →
    (s.lane l).state ≠ .idle → u.flag .laneChange = true
  absent : ∀ l, leaves s.set.configured x.configured l = true → ∀ e ∈ u.crm.queue, e.target ≠ .head l
  bags : s.set.bagsLow ≤ s.bag.supply → s.bag.supply < x.bagsLow → u.flag .bagsLow = true
  clips : s.set.clipsLow ≤ s.tie.supply → s.tie.supply < x.clipsLow → u.flag .clipsLow = true
  forced : ForcedRaised s u
  crm : PurgesHold s → ∃ c : Nat → Crm, HeadsDropped (leaves s.set.configured x.configured) s.crm (c 0) ∧
    (∀ l : Lane, TriggersTaken u (.head l) (c l.val) (c (l.val + 1))) ∧ TriggersTaken u .belt (c 4) u.crm

theorem applySettings_inForce (x : LineSettings) (s : State) : InForce x s (applySettings x s) := by
  have reset := beforeTriggers_reset x s
  obtain ⟨bags, clips⟩ := beforeTriggers_low x s
  have put := putSettings_set x s
  rw [applySettings_eq]
  generalize beforeTriggers x s = w at reset bags clips
  obtain ⟨pst, sru, -, tieSame, tieNew, lanes, changes, absent, entries, crm⟩ := reset
  have frame : SameBut { lp := true, crm := true } w (evalAllTriggers w) := evalAllTriggers_without w rfl rfl
  have hd : (evalAllTriggers w).hd = w.hd := kept_hd frame rfl
  have tie : (evalAllTriggers w).tie = w.tie := kept_tie frame rfl
  have flags := fun (k : Kind) (set : w.flag k = true) => evalAllTriggers_flag (s := w) set
  refine ⟨(evalAllTriggers_pst w).trans pst, (kept_sru frame rfl rfl).trans sru, fun same => tie.trans (tieSame same),
    fun new => tie.trans (tieNew new), fun l => ?_, fun l h moves => flags _ (changes l h moves), fun l away => ?_,
    fun stood low => flags _ (bags stood low), fun stood low => flags _ (clips stood low), fun e he forced new => ?_, fun holds => ?_⟩
  · have own := lanes l
    unfold State.lane State.head at own ⊢
    rwa [hd]
  · have off : w.isConfigured l = false := by
      obtain ⟨high, -⟩ := of_decide_eq_true away
      have set : w.set = x := by rw [State.set, pst]; exact put
      rw [State.isConfigured, set]
      exact decide_eq_false (Nat.not_lt.2 high)
    exact evalAllTriggers_absent off (absent l away)
  · exact evalAllTriggers_forced w e he forced fun old => new (entries e old)
  · obtain ⟨-, idle, -⟩ := holds
    obtain ⟨heads, belt⟩ := evalAllTriggers_taken w
    refine ⟨fun n => (afterHeads n w).crm, ?_, heads, belt⟩
    show HeadsDropped _ s.crm w.crm
    rw [crm idle]
    exact losing_dropped _ _

/-- Settles O56: the bytes by their fields, the acceptance by the ranges, and a set in force stage by stage. -/
theorem settingsReadBack : Obligations.SettingsReadBack := by
  refine ⟨fun x => ⟨settingsValid_iff x, settingsBytes_layout x⟩, fun s tag p length h => ⟨setLine_unready length h, fun ready other => ?_⟩,
    fun s tag x h => ⟨setLine_unready (settingsBytes_length x) h, fun ready valid => ?_, fun ready steps ranges invalid => ?_⟩⟩
  · refine setLine_badField length h ready fun x parsed => ?_
    by_contra agrees
    obtain ⟨ranges, steps, agree⟩ := (settingsValid_iff x).1 (settingsValid_of_parse parsed (by simpa using agrees))
    exact other x ranges steps agree ((settingsBytes_layout x).symm.trans (settingsBytes_of_parse length parsed))
  · have set : (applySettings x s).set = x := by
      rw [State.set, (applySettings_inForce x s).pst]
      exact putSettings_set x s
    obtain ⟨pst, sru, tieSame, tieNew, lanes, changes, absent, bags, clips, forced, crm⟩ := applySettings_inForce x s
    have frame : SameBut { lp := true, sru := true, hd := true, tie := true, crm := true, pst := true } s (applySettings x s) :=
      applySettings_without s x rfl rfl rfl rfl rfl rfl
    refine ⟨applySettings x s, setLine_replies h ready valid, frame, ?_⟩
    generalize applySettings x s = u at *
    have mine : ∀ l, s.isConfigured l = decide (l.val < s.set.configured) := fun _ => rfl
    have fits : ∀ l, u.isConfigured l = decide (l.val < x.configured) := fun l => by rw [State.isConfigured, set]
    have away : ∀ l, leaves s.set.configured x.configured l = (s.isConfigured l && !u.isConfigured l) := fun l => by
      rw [leaves_iff, mine, fits]
    have joining : ∀ l, joins s.set.configured x.configured l = (!s.isConfigured l && u.isConfigured l) := fun l => by
      rw [joins_iff, mine, fits]
    have changed : ∀ l, s.isConfigured l ≠ u.isConfigured l →
        leaves s.set.configured x.configured l = true ∨ joins s.set.configured x.configured l = true := fun l differ => by
      rw [away, joining]
      revert differ
      cases s.isConfigured l <;> cases u.isConfigured l <;> simp
    refine ⟨set, ?_, ?_, sru, fun same => pst.trans (putSettings_same same), fun other => ?_, tieSame, tieNew, fits, fun l same => ?_,
      fun l differ => ⟨?_, changes l (changed l differ)⟩, fun l out here => ?_, fun l here out => ?_, bags, clips, forced, fun holds => ?_⟩
    · rw [pst]
      exact putSettings_assign x s
    · rw [pst]
      exact putSettings_slots x s
    · have changedPst := pst.trans (putSettings_changed other)
      have store : u.pst.store = s.pst.store.touch 0 := congrArg Pst.store changedPst
      obtain ⟨idle, writing⟩ := touch_store s.pst.store
      rw [store]
      exact ⟨changedPst, idle, writing⟩
    · obtain ⟨-, -, stays⟩ := lanes l
      have both := stays (by rw [away, same]; cases u.isConfigured l <;> rfl) (by rw [joining, same]; cases u.isConfigured l <;> rfl)
      exact ⟨congrArg Prod.snd both, congrArg Prod.fst both⟩
    · obtain ⟨leaving, joined, -⟩ := lanes l
      exact (changed l differ).elim (fun out => congrArg Prod.fst (leaving out)) fun here => congrArg Prod.fst (joined here)
    · obtain ⟨-, joined, -⟩ := lanes l
      exact congrArg Prod.snd (joined (by rw [joining, out, here]; rfl))
    · obtain ⟨leaving, -⟩ := lanes l
      have gone : leaves s.set.configured x.configured l = true := by rw [away, here, out]; rfl
      exact ⟨congrArg Prod.snd (leaving gone), absent l gone⟩
    · obtain ⟨c, dropped, heads, belt⟩ := crm holds
      exact ⟨c, dropped.congr away, heads, belt⟩
  · have onStep : SettingsOnSteps x := by
      refine ⟨?_, ?_, ?_, ?_, ?_⟩ <;> exact Nat.dvd_of_mod_eq_zero (steps _ (by simp))
    refine setLine_badField (settingsBytes_length x) h ready fun y parsed => ?_
    rw [parseSettings_settingsBytes onStep ranges] at parsed
    split at parsed
    next challenge =>
      cases parsed
      by_contra agrees
      have valid : settingsValid x = true := by
        rw [settingsValid, ranges, challenge, (onSteps_iff x).2 onStep, Bool.eq_true_of_not_eq_false agrees]
        rfl
      exact nomatch valid.symm.trans invalid
    next => exact nomatch parsed

end Sys2Proof.Requests
end

section
/-! PROOFS. The monitors at a window end (R2 to R6). -/

namespace Sys2Proof.Machine

variable {s t u : State}

/-! ### One monitor (R3 to R6) -/

/-- The count of a window joins the history, a ninth pushing out the oldest. -/
theorem joinHistory_eq {h : List WindowCount} (c : WindowCount) (few : h.length ≤ 8) :
    joinHistory h c = (if h.length < 8 then h else h.tail) ++ [c] := by
  have count : (h ++ [c]).length = h.length + 1 := by simp
  unfold joinHistory
  rw [count]
  by_cases room : h.length < 8
  · have none : h.length + 1 - Config.historyMax = 0 := Nat.sub_eq_zero_of_le (Nat.succ_le_of_lt room)
    rw [if_pos room, none, List.drop_zero]
  · have full : h.length = 8 := by omega
    have one : h.length + 1 - Config.historyMax = 1 := by rw [full]; rfl
    cases h with
    | nil => exact nomatch full
    | cons x h => rw [if_neg room, one]; rfl

/-- The class of a window by its nominal count and its distance. -/
theorem classWindow_cases (x : LineSettings) (n c : Nat) :
    (n < 8 → classWindow x.acceptPct x.rejectPct n c = none) ∧
    (8 ≤ n → distance c n ≤ n * x.acceptPct / 100 → classWindow x.acceptPct x.rejectPct n c = some .accepted) ∧
    (8 ≤ n → n * x.acceptPct / 100 < distance c n → distance c n ≤ n * x.rejectPct / 100 →
      classWindow x.acceptPct x.rejectPct n c = some .neutral) ∧
    (8 ≤ n → n * x.acceptPct / 100 < distance c n → n * x.rejectPct / 100 < distance c n →
      classWindow x.acceptPct x.rejectPct n c = some .rejected) := by
  unfold classWindow
  refine ⟨fun few => if_pos few, fun many near => ?_, fun many far within => ?_, fun many far beyond => ?_⟩
  · rw [if_neg (Nat.not_lt.2 many), if_pos near]
  · rw [if_neg (Nat.not_lt.2 many), if_neg (Nat.not_le.2 far), if_neg (Nat.not_lt.2 within)]
  · rw [if_neg (Nat.not_lt.2 many), if_neg (Nat.not_le.2 far), if_pos beyond]

theorem windowEnd_of_class {x : LineSettings} {n : Nat} {m : Monitor} {c : WindowClass}
    (h : classWindow x.acceptPct x.rejectPct n m.count = some c) : m.windowEnd x n = { m.take x.q x.f c with count := 0 } := by
  unfold Monitor.windowEnd
  rw [h]

/-- An accepted window (R5). -/
theorem take_accepted (m : Monitor) (q f : Nat) :
    (m.qualified = false → if max 1 q ≤ m.acceptRun + 1 then
        (m.take q f .accepted).qualified = true ∧ (m.take q f .accepted).acceptRun = 0 ∧ (m.take q f .accepted).rejectRun = 0
      else (m.take q f .accepted).qualified = false ∧ (m.take q f .accepted).acceptRun = m.acceptRun + 1) ∧
    (m.qualified = true → (m.take q f .accepted).qualified = true ∧ (m.take q f .accepted).rejectRun = 0) := by
  refine ⟨fun off => ?_, fun on => ?_⟩
  · by_cases due : max 1 q ≤ m.acceptRun + 1 <;> simp [Monitor.take, runLimit, off, due]
  · simp [Monitor.take, on]

/-- A rejected window (R6). -/
theorem take_rejected (m : Monitor) (q f : Nat) :
    (m.qualified = false → (m.take q f .rejected).qualified = false ∧ (m.take q f .rejected).acceptRun = 0) ∧
    (m.qualified = true → if max 1 f ≤ m.rejectRun + 1 then
        (m.take q f .rejected).qualified = false ∧ (m.take q f .rejected).acceptRun = 0 ∧ (m.take q f .rejected).rejectRun = 0
      else (m.take q f .rejected).qualified = true ∧ (m.take q f .rejected).rejectRun = m.rejectRun + 1) := by
  refine ⟨fun off => ?_, fun on => ?_⟩
  · simp [Monitor.take, off]
  · by_cases due : max 1 f ≤ m.rejectRun + 1 <;> simp [Monitor.take, runLimit, on, due]

/-- A window end takes its monitor as R3 to R6 say. -/
theorem windowEnd_steps (x : LineSettings) (n : Nat) (m : Monitor) : MonitorStep x n m (m.windowEnd x n) := by
  obtain ⟨suspended, accepted, neutral, rejected⟩ := classWindow_cases x n m.count
  obtain ⟨acceptOff, acceptOn⟩ := take_accepted m x.q x.f
  obtain ⟨rejectOff, rejectOn⟩ := take_rejected m x.q x.f
  refine ⟨?_, fun still => ?_, fun ⟨many, near⟩ off => ?_, fun ⟨many, near⟩ on => ?_, fun ⟨many, far, beyond⟩ off => ?_,
    fun ⟨many, far, beyond⟩ on => ?_⟩
  · unfold Monitor.windowEnd
    rfl
  · have none : m.windowEnd x n = { m with count := 0 } := by
      by_cases few : n < 8
      · unfold Monitor.windowEnd
        rw [suspended few]
      · obtain ⟨far, within⟩ := still.resolve_left few
        rw [windowEnd_of_class (neutral (Nat.not_lt.1 few) far within)]
        rfl
    rw [none]
    exact ⟨rfl, rfl, rfl⟩
  · rw [windowEnd_of_class (accepted many near)]
    exact acceptOff off
  · rw [windowEnd_of_class (accepted many near)]
    exact acceptOn on
  · rw [windowEnd_of_class (rejected many far beyond)]
    exact rejectOff off
  · rw [windowEnd_of_class (rejected many far beyond)]
    exact rejectOn on

/-! ### All monitors (R2, R72) -/

theorem classAll_frame (s : State) : SameBut { sru := true, hd := true } s (classAll s) := rfl

theorem classAll_head (l : Lane) (s : State) :
    (classAll s).head l = { s.head l with mon := (s.head l).mon.windowEnd s.set (s.bladeNominal l) } := by
  simp [classAll, State.head]

theorem classAll_lane (l : Lane) (s : State) : (classAll s).lane l = s.lane l := rfl

theorem classAll_sru (s : State) : (classAll s).sru = { s.sru with
    w := s.sru.w.windowEnd s.set (lineNominal s.lc.demand s.sru.windowMs s.set.scaleW) s.sru.windowMs
    m := s.sru.m.windowEnd s.set (lineNominal s.lc.demand s.sru.windowMs s.set.scaleM) s.sru.windowMs } := rfl

end Sys2Proof.Machine
end

section
/-! PROOFS. SRU at a window end: the selection, the slip check, the estimate (R11, R13, R16, R20 to R22). -/

namespace Sys2Proof.Machine

variable {s t u : State}

/-! ### Records that only the suspect mark tells apart (R23) -/

/-- A table whose records differ from another's by the suspect mark alone. -/
def OnlySuspects (s u : State) : Prop :=
  ∃ g : Rec → Rec, (∀ r, ∃ b, g r = { r with suspect := b }) ∧ u.trk.post = s.trk.post.map g ∧
    ∀ l, u.queue l = (s.queue l).map g

theorem onlySuspects_same (h : u.trk = s.trk) : OnlySuspects s u :=
  ⟨id, fun r => ⟨r.suspect, rfl⟩, by rw [h, List.map_id], fun l => by rw [State.queue, h, List.map_id]; rfl⟩

theorem onlySuspects_marked (h : SuspectMarked s u) : OnlySuspects s u := by
  obtain ⟨post, queues⟩ := h
  refine ⟨fun r => if r.state = .decided then r else { r with suspect := true }, fun r => ?_, post, queues⟩
  dsimp only
  split
  · exact ⟨r.suspect, rfl⟩
  · exact ⟨true, rfl⟩

/-- The suspect marks of a table, all undecided records marked or none. -/
def SuspectsBy (marked : Bool) (s u : State) : Prop :=
  let f := fun r : Rec => r.suspect || (marked && r.state != .decided)
  u.trk.post.map Rec.suspect = s.trk.post.map f ∧ ∀ l, (u.queue l).map Rec.suspect = (s.queue l).map f

theorem suspectsBy_same (h : u.trk = s.trk) : SuspectsBy false s u := by
  unfold SuspectsBy State.queue
  simp [h]

theorem suspectsBy_marked (h : SuspectMarked s u) : SuspectsBy true s u := by
  obtain ⟨post, queues⟩ := h
  have each : ∀ rs : List Rec, (rs.map fun r => if r.state = .decided then r else { r with suspect := true }).map Rec.suspect =
      rs.map fun r => r.suspect || (true && r.state != .decided) := fun rs => by
    rw [List.map_map]
    refine List.map_congr_left fun r _ => ?_
    simp only [Function.comp_apply]
    split
    · next decided => simp [decided]
    · next open_ => simp [open_]
  unfold SuspectsBy
  dsimp only
  exact ⟨by rw [post, each], fun l => by rw [queues l, each]⟩

theorem SuspectsBy.then {m : Bool} (h : SuspectsBy m s t) (post : u.trk.post.map Rec.suspect = t.trk.post.map Rec.suspect)
    (queues : ∀ l, (u.queue l).map Rec.suspect = (t.queue l).map Rec.suspect) : SuspectsBy m s u := by
  obtain ⟨marks, each⟩ := h
  exact ⟨post.trans marks, fun l => (queues l).trans (each l)⟩

/-! ### The estimate (R10, R11) -/

/-- The estimate is the mean of the selected source, or the pacer speed. -/
def EstimateHolds (demand : Nat) (x : Sru) : Prop :=
  let pulses := fun m : LineMonitor => (m.history.map WindowCount.count).sum
  (x.selected = .encoder .w → x.estimate =
      min 8000 (pulses x.w * x.incW * 1000 / ((x.w.history.map WindowCount.ms).sum * 65536))) ∧
    (x.selected = .encoder .m → x.estimate =
      min 8000 (pulses x.m * x.incM * 1000 / ((x.m.history.map WindowCount.ms).sum * 65536))) ∧
    (x.selected = .pacer → x.estimate = match x.state with
      | .idle => 0
      | .holdover => x.frozen
      | _ => demand)

theorem refreshEstimate_sru (s : State) : ∃ e p, (refreshEstimate s).sru = { s.sru with estimate := e, pacerSpeed := p } :=
  ⟨_, _, rfl⟩

theorem refreshEstimate_frame (s : State) : SameBut { sru := true } s (refreshEstimate s) := rfl

theorem refreshEstimate_holds (s : State) : EstimateHolds s.lc.demand (refreshEstimate s).sru := by
  have selected : (refreshEstimate s).sru.selected = s.sru.selected := rfl
  have estimate : (refreshEstimate s).sru.estimate = match s.sru.selected with
      | .pacer => pacerOf s.sru.state s.lc.demand s.sru.frozen
      | .encoder src => s.sru.mean src := by
    unfold refreshEstimate refreshPacer State.onSru
    dsimp only
    cases s.sru.selected <;> rfl
  unfold EstimateHolds
  dsimp only
  rw [selected, estimate]
  refine ⟨fun w => by rw [w]; rfl, fun m => by rw [m]; rfl, fun pacer => ?_⟩
  rw [pacer]
  show pacerOf s.sru.state s.lc.demand s.sru.frozen = match s.sru.state with
    | .idle => 0
    | .holdover => s.sru.frozen
    | _ => s.lc.demand
  cases s.sru.state <;> rfl

theorem setReferenceState_holds (st : RefState) (src : Source) (s : State) :
    EstimateHolds s.lc.demand (setReferenceState st src s).sru := by
  unfold setReferenceState
  exact refreshEstimate_holds _

/-! ### The slip check (R16) -/

theorem slipCheck_sru (s : State) : ∃ a, (slipCheck s).sru = { s.sru with slipActive := a } := by
  unfold slipCheck
  dsimp only
  (repeat' split) <;> exact ⟨_, rfl⟩

theorem slipCheck_frame (s : State) : SameBut { lp := true, sru := true } s (slipCheck s) := slipCheck_without s rfl rfl

theorem slipCheck_flag {k : Kind} (set : s.flag k = true) : (slipCheck s).flag k = true :=
  (slipCheck_acts (sure := False) s).keeps flag_act set

/-- The slip check's outcome by the qualification, the histories and the travels. -/
def SlipChecked (pct : Nat) (was : Bool) (x : Sru) (raised : Prop) : Prop :=
  let pulses := fun m : LineMonitor => (m.history.map WindowCount.count).sum
  (x.w.mon.qualified = true → x.m.mon.qualified = true → x.w.history.length = 8 → x.m.history.length = 8 →
    let tw := pulses x.w * x.incW
    let tm := pulses x.m * x.incM
    let disagree := pct * tw < ((tw - tm) + (tm - tw)) * 100
    (x.slipActive = true ↔ disagree) ∧ (disagree → was = false → raised)) ∧
  (x.w.mon.qualified = true → x.m.mon.qualified = true → ¬(x.w.history.length = 8 ∧ x.m.history.length = 8) →
    x.slipActive = was) ∧
  (x.w.mon.qualified = false ∨ x.m.mon.qualified = false → x.slipActive = false)

theorem slipCheck_checked (s : State) :
    SlipChecked s.set.slipPct s.sru.slipActive (slipCheck s).sru ((slipCheck s).flag .slip = true) := by
  have disagrees : slipDisagrees (s.sru.travel .w) (s.sru.travel .m) s.set.slipPct = true ↔
      s.set.slipPct * (s.sru.travel .w) < ((s.sru.travel .w - s.sru.travel .m) + (s.sru.travel .m - s.sru.travel .w)) * 100 :=
    decide_eq_true_iff
  unfold slipCheck
  dsimp only
  by_cases both : s.sru.w.mon.qualified = true ∧ s.sru.m.mon.qualified = true
  · rw [if_pos both]
    obtain ⟨w, m⟩ := both
    have neither : ¬(s.sru.w.mon.qualified = false ∨ s.sru.m.mon.qualified = false) := by simp [w, m]
    by_cases full : s.sru.w.history.length = Config.historyMax ∧ s.sru.m.history.length = Config.historyMax
    · rw [if_pos full]
      by_cases slips : slipDisagrees (s.sru.travel .w) (s.sru.travel .m) s.set.slipPct = true
      · rw [if_pos slips]
        by_cases stood : s.sru.slipActive = true
        · rw [if_pos stood]
          exact ⟨fun _ _ _ _ => ⟨⟨fun _ => disagrees.1 slips, fun _ => stood⟩, fun _ clear => nomatch stood.symm.trans clear⟩,
            fun _ _ few => absurd full few, fun off => absurd off neither⟩
        · rw [if_neg stood]
          exact ⟨fun _ _ _ _ => ⟨⟨fun _ => disagrees.1 slips, fun _ => rfl⟩, fun _ _ => raise_setsFlag ..⟩,
            fun _ _ few => absurd full few, fun off => absurd off neither⟩
      · rw [if_neg slips]
        exact ⟨fun _ _ _ _ => ⟨⟨nofun, fun apart => absurd (disagrees.2 apart) slips⟩, fun apart => absurd (disagrees.2 apart) slips⟩,
          fun _ _ few => absurd full few, fun off => absurd off neither⟩
    · rw [if_neg full]
      exact ⟨fun _ _ a b => absurd ⟨a, b⟩ full, fun _ _ _ => rfl, fun off => absurd off neither⟩
  · rw [if_neg both]
    exact ⟨fun w m => absurd ⟨w, m⟩ both, fun w m => absurd ⟨w, m⟩ both, fun _ => rfl⟩

/-! ### The selection of a window end (R13, R14, R19 to R22) -/

/-- SRU at a window end, its monitors classed. -/
def selectWindow (est : Nat) (s : State) : State := refreshEstimate (slipCheck (evaluateSelection est s))

/-- What of SRU is the same after a selection, whatever it is. -/
structure SameLines (x y : Sru) : Prop where
  w : y.w = x.w
  m : y.m = x.m
  incW : y.incW = x.incW
  incM : y.incM = x.incM
  windowMs : y.windowMs = x.windowMs
  windowLeft : y.windowLeft = x.windowLeft
  pos : y.pos = x.pos

/-- SRU keeps its source and its state. -/
def SelectionKept (x : Sru) (src : Option LineSource) : Prop :=
  x.state = .idle ∨ (∃ y, src = some y ∧ x.selected = .encoder y) ∨ (src = none ∧ x.state ≠ .track)

/-- What becomes of the reference at a window end. -/
structure WindowSelected (est : Nat) (s u : State) : Prop where
  frame : SameBut { lp := true, sru := true, lc := true, trk := true, tot := true, nv := true } s u
  lines : SameLines s.sru u.sru
  records : OnlySuspects s u
  estimate : EstimateHolds s.lc.demand u.sru
  slip : SlipChecked s.set.slipPct s.sru.slipActive u.sru (u.flag .slip = true)
  moves : u.sru.state = .idle ↔ s.sru.state = .idle
  kept : SelectionKept s.sru s.sru.choose → u.nv = s.nv ∧ u.tot = s.tot ∧ SuspectsBy false s u ∧
    u.sru.state = s.sru.state ∧ u.sru.selected = s.sru.selected ∧ u.sru.holdover = s.sru.holdover ∧ u.lc = s.lc
  switched : ∀ y, s.sru.state ≠ .idle → s.sru.choose = some y → s.sru.selected ≠ .encoder y →
    u.flag .refState = true ∧ u.nv = s.nv ∧ u.tot = s.tot ∧
    SuspectsBy (decide (s.sru.settings.hitless = false ∨ s.flag .slip = true)) s u ∧
    u.sru.state = .track ∧ u.sru.selected = .encoder y ∧ u.sru.holdover = none ∧
    u.lc = { s.lc with held := if s.sru.state = .track then s.lc.held else none }
  lost : s.sru.state = .track → s.sru.choose = none →
    u.flag .refState = true ∧ LossCounted s u ∧ SuspectsBy (decide (s.set.holdoverMs = 0)) s u ∧ u.sru.selected = .pacer ∧
    (s.set.holdoverMs ≠ 0 → u.sru.state = .holdover ∧ u.sru.frozen = est ∧ u.sru.holdover = some s.set.holdoverMs) ∧
    (s.set.holdoverMs = 0 → u.sru.state = .crawl) ∧
    u.lc = { s.lc with held := if s.set.holdoverMs = 0 then none else some s.lc.demand }

/-- What a selection leaves once the slip check and the estimate have followed. -/
structure Followed (st : RefState) (src : Source) (holdover : Timer) (frozen : Nat) (held : Option Nat) (s v u : State) : Prop where
  frame : SameBut { lp := true, sru := true, lc := true, trk := true, tot := true, nv := true } s u
  lines : SameLines s.sru u.sru
  estimate : EstimateHolds s.lc.demand u.sru
  slip : SlipChecked s.set.slipPct s.sru.slipActive u.sru (u.flag .slip = true)
  state : u.sru.state = st
  selected : u.sru.selected = src
  timer : u.sru.holdover = holdover
  speed : u.sru.frozen = frozen
  lc : u.lc = { s.lc with held := held }
  trk : u.trk = v.trk
  tot : u.tot = v.tot
  nv : u.nv = v.nv
  flags : ∀ k, v.flag k = true → u.flag k = true

theorem followed {st : RefState} {src : Source} {holdover : Timer} {frozen : Nat} {held : Option Nat} {v : State}
    (frame : SameBut { lp := true, sru := true, lc := true, trk := true, tot := true, nv := true } s v)
    (sru : ∃ e p, v.sru = { s.sru with
      state := st, selected := src, holdover := holdover, frozen := frozen, estimate := e, pacerSpeed := p })
    (lc : v.lc = { s.lc with held := held }) : Followed st src holdover frozen held s v (refreshEstimate (slipCheck v)) := by
  obtain ⟨e, p, sru⟩ := sru
  obtain ⟨a, checked⟩ := slipCheck_sru v
  obtain ⟨e', p', renewed⟩ := refreshEstimate_sru (slipCheck v)
  have check := slipCheck_frame v
  have renew := refreshEstimate_frame (slipCheck v)
  have both : SameBut { lp := true, sru := true } v (refreshEstimate (slipCheck v)) := (renew.widen fun _ => rfl).trans check
  have whole : (refreshEstimate (slipCheck v)).sru = { s.sru with
      state := st, selected := src, holdover := holdover, frozen := frozen, slipActive := a, estimate := e', pacerSpeed := p' } := by
    rw [renewed, checked, sru]
  have estimate := refreshEstimate_holds (slipCheck v)
  have demand : (slipCheck v).lc.demand = s.lc.demand := by rw [kept_lc check rfl rfl, lc]
  have slip := slipCheck_checked v
  have set : v.set = s.set := kept_settings frame rfl
  have was : v.sru.slipActive = s.sru.slipActive := by rw [sru]
  have flag : (refreshEstimate (slipCheck v)).flag .slip = (slipCheck v).flag .slip := rfl
  have lines : SameLines s.sru (refreshEstimate (slipCheck v)).sru := by
    rw [whole]
    exact ⟨rfl, rfl, rfl, rfl, rfl, rfl, rfl⟩
  refine ⟨(both.widen fun _ => rfl).trans frame, lines, ?_, ?_, by rw [whole], by rw [whole], by rw [whole], by rw [whole], ?_,
    kept_trk both rfl, kept_tot both rfl, kept_nv both rfl, fun k set => slipCheck_flag set⟩
  · rw [← demand]
    exact estimate
  · rw [flag, ← set, ← was]
    exact slip
  · exact (kept_lc both rfl rfl).trans lc

theorem windowSelected_kept {est : Nat} (kept : SelectionKept s.sru s.sru.choose) : WindowSelected est s (selectWindow est s) := by
  have all := followed (s := s) (v := s) (holdover := s.sru.holdover) (held := s.lc.held) rfl ⟨_, _, rfl⟩ rfl
  rw [selectWindow, evaluateSelection_keeps kept]
  generalize refreshEstimate (slipCheck s) = u at all
  obtain ⟨frame, lines, estimate, slip, state, selected, timer, -, lc, trk, tot, nv, -⟩ := all
  refine ⟨frame, lines, onlySuspects_same trk, estimate, slip, by rw [state], fun _ => ⟨nv, tot, suspectsBy_same trk, state, selected, timer, lc⟩,
    fun y moving chosen other => ?_, fun track none => ?_⟩
  · rcases kept with idle | ⟨z, given, same⟩ | ⟨none, -⟩
    · exact absurd idle moving
    · exact absurd (Option.some.inj (given.symm.trans chosen) ▸ same) other
    · exact nomatch none.symm.trans chosen
  · rcases kept with idle | ⟨z, given, -⟩ | ⟨-, away⟩
    · exact nomatch idle.symm.trans track
    · exact nomatch none.symm.trans given
    · exact absurd track away

theorem windowSelected_switched {est : Nat} {y : LineSource} (moving : s.sru.state ≠ .idle) (choice : s.sru.choose = some y)
    (other : s.sru.selected ≠ .encoder y) : WindowSelected est s (selectWindow est s) := by
  obtain ⟨⟨sru, lc, flag⟩, frame, suspects⟩ := switchTo_referred y s
  have all := followed (frame.widen fun _ => rfl) sru lc
  rw [selectWindow, evaluateSelection_switches moving choice other]
  generalize refreshEstimate (slipCheck (switchTo y s)) = u at all
  generalize switchTo y s = v at *
  obtain ⟨allFrame, lines, estimate, slip, state, selected, timer, -, lc', trk, tot, nv, flags⟩ := all
  have marks : OnlySuspects s u ∧ SuspectsBy (decide (s.sru.settings.hitless = false ∨ s.flag .slip = true)) s u := by
    by_cases quiet : s.sru.settings.hitless = true ∧ s.flag .slip = false
    · rw [if_pos quiet] at suspects
      have unmarked : ¬(s.sru.settings.hitless = false ∨ s.flag .slip = true) := by simp [quiet]
      rw [decide_eq_false unmarked]
      exact ⟨onlySuspects_same (trk.trans suspects), suspectsBy_same (trk.trans suspects)⟩
    · rw [if_neg quiet] at suspects
      have marked : s.sru.settings.hitless = false ∨ s.flag .slip = true := by
        by_contra neither
        simp only [not_or, Bool.not_eq_false, Bool.not_eq_true] at neither
        exact quiet neither
      rw [decide_eq_true marked]
      exact ⟨onlySuspects_marked (suspects.of_trk trk), suspectsBy_marked (suspects.of_trk trk)⟩
  obtain ⟨records, marked⟩ := marks
  refine ⟨allFrame, lines, records, estimate, slip, ?_, fun kept => ?_, fun z _ chosen _ => ?_,
    fun _ none => nomatch choice.symm.trans none⟩
  · rw [state]
    exact ⟨nofun, fun idle => absurd idle moving⟩
  · rcases kept with idle | ⟨z, given, same⟩ | ⟨none, -⟩
    · exact absurd idle moving
    · exact absurd (Option.some.inj (given.symm.trans choice) ▸ same) other
    · exact nomatch none.symm.trans choice
  · obtain rfl := Option.some.inj (choice.symm.trans chosen)
    exact ⟨flags _ flag, nv.trans (kept_nv frame rfl), tot.trans (kept_tot frame rfl), marked, state, selected, timer, lc'⟩

theorem windowSelected_lost {est : Nat} (track : s.sru.state = .track) (choice : s.sru.choose = none) :
    WindowSelected est s (selectWindow est s) := by
  have frame : SameBut { lp := true, sru := true, lc := true, trk := true, tot := true, nv := true } s (lossOfTrack est s) := by
    simp [SameBut]
  have unkept : ¬SelectionKept s.sru s.sru.choose := fun kept => by
    rcases kept with idle | ⟨z, given, -⟩ | ⟨-, away⟩
    · exact nomatch idle.symm.trans track
    · exact nomatch choice.symm.trans given
    · exact absurd track away
  rw [selectWindow, evaluateSelection_loses track choice]
  by_cases limit : s.set.holdoverMs = 0
  · obtain ⟨⟨sru, lc, flag⟩, suspects, counted⟩ := lossOfTrack_crawls est track limit
    have all := followed frame sru lc
    generalize refreshEstimate (slipCheck (lossOfTrack est s)) = u at all
    generalize lossOfTrack est s = v at *
    obtain ⟨allFrame, lines, estimate, slip, state, selected, timer, -, lc', trk, tot, nv, flags⟩ := all
    have marked := suspects.of_trk trk
    refine ⟨allFrame, lines, onlySuspects_marked marked, estimate, slip, (by rw [state, track]; decide), fun kept => absurd kept unkept,
      fun z _ chosen => (nomatch choice.symm.trans chosen), fun _ _ => ⟨flags _ flag, counted.congr nv tot, ?_, selected,
        fun other => absurd limit other, fun _ => state, by rw [lc', if_pos limit]⟩⟩
    rw [decide_eq_true limit]
    exact suspectsBy_marked marked
  · obtain ⟨⟨sru, lc, flag⟩, table, counted⟩ := lossOfTrack_holds est track limit
    have all := followed frame sru lc
    generalize refreshEstimate (slipCheck (lossOfTrack est s)) = u at all
    generalize lossOfTrack est s = v at *
    obtain ⟨allFrame, lines, estimate, slip, state, selected, timer, speed, lc', trk, tot, nv, flags⟩ := all
    have same := trk.trans table
    refine ⟨allFrame, lines, onlySuspects_same same, estimate, slip, (by rw [state, track]; decide), fun kept => absurd kept unkept,
      fun z _ chosen => (nomatch choice.symm.trans chosen), fun _ _ => ⟨flags _ flag, counted.congr nv tot, ?_, selected,
        fun _ => ⟨state, speed, timer⟩, fun zero => absurd zero limit, by rw [lc', if_neg limit]⟩⟩
    rw [decide_eq_false limit]
    exact suspectsBy_same same

/-- What SRU's selection makes of the reference at a window end: it is kept, switched or lost. -/
theorem windowSelected (est : Nat) (s : State) : WindowSelected est s (selectWindow est s) := by
  by_cases kept : SelectionKept s.sru s.sru.choose
  · exact windowSelected_kept kept
  · simp only [SelectionKept, not_or, not_exists, not_and, not_not] at kept
    obtain ⟨moving, other, loses⟩ := kept
    cases choice : s.sru.choose with
    | some y => exact windowSelected_switched moving choice (other y choice)
    | none => exact windowSelected_lost (loses choice) choice

end Sys2Proof.Machine
end

section
/-! PROOFS. One head's turn at a window end: it qualifies, faults or stays (R72, R73, R77, R80, R82, R131). -/

namespace Sys2Proof.Machine

variable {s t u : State}

/-! ### A blade qualifies (R73, R82, R84) -/

/-- What becomes of a lane whose blade in SPINUP qualifies. -/
def LaneCtl.qualifiedUnder (c : LaneCtl) (takes : Bool) (loaves : Nat) : LaneCtl :=
  if c.state = .idle ∧ c.target = true ∧ takes = true then { c with state := .running }
  else if c.state = .trial ∧ c.trialRan = false then { c with trialLeft := loaves, trialRan := true }
  else c

/-- One head's blade and lane changed, every other as it was. -/
structure BladeTurned (l : Lane) (b : BladeState) (s u : State) : Prop where
  head : u.head l = { s.head l with blade := b, spinup := none }
  others : OtherLanesKept l s u
  flags : ∀ k, s.flag k = true → u.flag k = true

theorem setBlade_turned (b : BladeState) (l : Lane) (s : State) : BladeTurned l b s (setBlade b l s) :=
  ⟨head_onHead_self .., fun _ other => ⟨head_onHead_ne _ _ other, setBlade_lane ..⟩, fun _ set => set⟩

theorem qualifiedUnder_idle {c : LaneCtl} (idle : c.state = .idle) (takes : Bool) (n : Nat) : c.qualifiedUnder takes n =
    if c.target = true ∧ takes = true then { c with state := .running } else c := by
  simp [LaneCtl.qualifiedUnder, idle]

theorem qualifiedUnder_trial {c : LaneCtl} (trial : c.state = .trial) (takes : Bool) (n : Nat) : c.qualifiedUnder takes n =
    if c.trialRan = true then c else { c with trialLeft := n, trialRan := true } := by
  cases ran : c.trialRan <;> simp [LaneCtl.qualifiedUnder, trial, ran]

theorem qualifiedUnder_other {c : LaneCtl} (idle : c.state ≠ .idle) (trial : c.state ≠ .trial) (takes : Bool) (n : Nat) :
    c.qualifiedUnder takes n = c := by
  simp [LaneCtl.qualifiedUnder, idle, trial]

theorem bladeQualified_turned (l : Lane) (s : State) : BladeTurned l .running s (bladeQualified l s) ∧
    (bladeQualified l s).lane l = (s.lane l).qualifiedUnder s.lc.state.takesLanes s.set.trialLoaves := by
  have turned := setBlade_turned .running l s
  have lane : ∀ k, (setBlade .running l s).lane k = s.lane k := fun k => setBlade_lane ..
  have lc : (setBlade .running l s).lc = s.lc := rfl
  have set : (setBlade .running l s).set = s.set := rfl
  unfold bladeQualified
  dsimp only
  rw [lane, lc, set]
  generalize setBlade .running l s = v at *
  obtain ⟨head, others, flags⟩ := turned
  have stays : (s.lane l).state ≠ .idle → (s.lane l).state ≠ .trial → BladeTurned l .running s v ∧
      v.lane l = (s.lane l).qualifiedUnder s.lc.state.takesLanes s.set.trialLoaves := fun idle trial =>
    ⟨⟨head, others, flags⟩, (lane l).trans (qualifiedUnder_other idle trial _ _).symm⟩
  cases state : (s.lane l).state with
  | idle =>
    rw [qualifiedUnder_idle state]
    dsimp only
    by_cases takes : (s.lane l).target = true ∧ s.lc.state.takesLanes = true
    · rw [if_pos takes, if_pos takes]
      refine ⟨⟨(setLaneState_head ..).trans head, fun k other => ?_, fun k set => setLaneState_flag _ _ (flags k set)⟩, ?_⟩
      · rw [setLaneState_head, setLaneState_lane_ne _ _ other]
        exact others k other
      · rw [setLaneState_lane_self, lane]
    · rw [if_neg takes, if_neg takes]
      exact ⟨⟨head, others, flags⟩, lane l⟩
  | trial =>
    rw [qualifiedUnder_trial state]
    dsimp only
    by_cases ran : (s.lane l).trialRan = true
    · rw [if_pos ran, if_pos ran]
      exact ⟨⟨head, others, flags⟩, lane l⟩
    · rw [if_neg ran, if_neg ran]
      refine ⟨⟨head, fun k other => ?_, fun k set => flags k set⟩, ?_⟩
      · rw [lane_onLane_ne _ _ other]
        exact others k other
      · rw [lane_onLane_self, lane]
  | running => exact stays (by rw [state]; decide) (by rw [state]; decide)
  | down => exact stays (by rw [state]; decide) (by rw [state]; decide)
  | parked => exact stays (by rw [state]; decide) (by rw [state]; decide)

/-! ### A blade faults, before its lane takes the fault (R77, R62, R131) -/

/-- A blade fault up to the lane fault. -/
def spoilBlade (l : Lane) (s : State) : State :=
  let cut := s.slicingRec l
  let s1 := setBlade .fault l s
  let s2 := raise .bladeFault (bladeFaultSnapshot l (codeOrNone Rec.loaf cut) (s.bladeVictims l) s1) s1
  let s3 := onQueue l (List.map Rec.bladeFaulted) s2
  match cut with
  | some r => if r.slicingEnded then s3 else endSlicing r s3
  | none => s3

theorem bladeFault_eq (l : Lane) (s : State) : bladeFault l s = laneFault .blade false l (spoilBlade l s) := rfl

/-- What a blade fault leaves before its lane takes the fault. -/
structure BladeSpoilt (l : Lane) (s u : State) : Prop where
  frame : SameBut { lp := true, trk := true, hd := true, crm := true } s u
  turned : BladeTurned l .fault s u
  lane : ∀ k, u.lane k = s.lane k
  own : u.queue l = (s.queue l).map Rec.bladeFaulted
  queues : ∀ k, k ≠ l → u.queue k = s.queue k
  post : u.trk.post = s.trk.post
  raised : u.flag .bladeFault = true
  forced : ForcedRaised s u
  cut : ∀ r, s.slicingRec l = some r → r.slicingEnded = false → SlicingEnds s r r.cutsDone s.crm u.crm ∧
    u.crm.heads = putAt s.crm.heads r.lane { s.crm.heads[r.lane] with
      estimate := min 4000000 (s.crm.heads[r.lane].estimate + shareOf s r r.cutsDone)
      loaves := min 65535 (s.crm.heads[r.lane].loaves + 1) }
  uncut : (∀ r, s.slicingRec l = some r → r.slicingEnded = true) → u.crm = s.crm

theorem spoilBlade_spoilt (l : Lane) (s : State) : BladeSpoilt l s (spoilBlade l s) := by
  have turned := setBlade_turned .fault l s
  unfold spoilBlade
  dsimp only
  generalize raised : onQueue l (List.map Rec.bladeFaulted) (raise .bladeFault (bladeFaultSnapshot l
    (codeOrNone Rec.loaf (s.slicingRec l)) (s.bladeVictims l) (setBlade .fault l s)) (setBlade .fault l s)) = v
  have frame : SameBut { lp := true, trk := true, hd := true } s v := by
    rw [← raised]
    simp [SameBut]
  have hd : v.hd = (setBlade .fault l s).hd := by rw [← raised]; rfl
  have crm : v.crm = s.crm := kept_crm frame rfl
  have head : ∀ k, v.head k = (setBlade .fault l s).head k := fun k => by rw [State.head, hd]; rfl
  have lane : ∀ k, v.lane k = s.lane k := fun k => by rw [State.lane, hd]; exact setBlade_lane ..
  have queue : ∀ k, v.queue k = if k = l then (s.queue l).map Rec.bladeFaulted else s.queue k := fun k => by
    rw [← raised, queue_onQueue]
    rfl
  have post : v.trk.post = s.trk.post := by rw [← raised]; rfl
  have flag : ∀ k, v.flag k = (s.flag k || decide (k = .bladeFault)) := fun k => by
    rw [← raised]
    exact raise_flag ..
  have flags : ∀ k, s.flag k = true → v.flag k = true := fun k set => by rw [flag, set]; rfl
  have mine : v.flag .bladeFault = true := by rw [flag]; simp
  have turnedAt : ∀ w : State, w.hd = v.hd → (∀ k, v.flag k = true → w.flag k = true) → BladeTurned l .fault s w := fun w same keeps => by
    obtain ⟨own, others, -⟩ := turned
    refine ⟨?_, fun k other => ?_, fun k set => keeps k (flags k set)⟩
    · rw [State.head, same]
      exact (head l).trans own
    · obtain ⟨otherHead, -⟩ := others k other
      rw [State.head, State.lane, same]
      exact ⟨(head k).trans otherHead, lane k⟩
  have still : (∀ r, s.slicingRec l = some r → r.slicingEnded = true) → BladeSpoilt l s v := fun ended =>
    ⟨frame.widen fun _ => rfl, turnedAt v rfl fun _ => id, lane, (queue l).trans (if_pos rfl), fun k other => (queue k).trans (if_neg other),
      post, mine, fun e he _ new => absurd (crm ▸ he) new, fun r found open_ => (nomatch (ended r found).symm.trans open_), fun _ => crm⟩
  cases cut : s.slicingRec l with
  | none => exact still fun r found => nomatch cut.symm.trans found
  | some r =>
    dsimp only
    cases ended : r.slicingEnded with
    | true =>
      refine still fun x found => ?_
      obtain rfl := Option.some.inj (cut.symm.trans found)
      exact ended
    | false =>
      rw [if_neg (by decide)]
      have handed := endSlicing_handed r v
      have handedFrame := handed.frame
      have sameHd : (endSlicing r v).hd = v.hd := kept_hd handedFrame rfl
      have sameTrk : (endSlicing r v).trk = v.trk := kept_trk handedFrame rfl
      obtain ⟨-, heads, -, ends, forced, keeps⟩ := handed
      have profile : v.profile r.slot = s.profile r.slot := by rw [State.profile, State.profile, kept_pst frame rfl rfl]
      have share : shareOf v r r.cutsDone = shareOf s r r.cutsDone := by rw [shareOf, shareOf, profile, crm]
      refine ⟨(handedFrame.widen fun _ => rfl).trans (frame.widen fun _ => rfl), turnedAt _ sameHd keeps, fun k => ?_, ?_, fun k other => ?_,
        ?_, keeps _ mine, forced.congr crm.symm rfl id, fun x found _ => ?_, fun ended' => ?_⟩
      · rw [State.lane, sameHd]
        exact lane k
      · rw [State.queue, sameTrk]
        exact (queue l).trans (if_pos rfl)
      · rw [State.queue, sameTrk]
        exact (queue k).trans (if_neg other)
      · rw [sameTrk, post]
      · obtain rfl := Option.some.inj (cut.symm.trans found)
        obtain ⟨m, first, second⟩ := ends
        rw [crm, profile] at first
        rw [crm, share] at heads
        exact ⟨⟨m, first.congr (kept_pst frame rfl rfl), second.congr (kept_pst frame rfl rfl)⟩, heads⟩
      · exact nomatch (ended' r cut).symm.trans ended

end Sys2Proof.Machine
end

section
/-! PROOFS. A head's turn at a window end that does not bring the line home (R77, R80, R179). -/

namespace Sys2Proof.Machine

variable {s t u : State}

/-! ### A lane fault that leaves the line moving (R80, R179) -/

/-- A lane in service. -/
def Serves (l : Lane) (s : State) : Prop := (s.lane l).state = .running ∨ (s.lane l).state = .trial

/-- A lane whose fault asks a moving line for a drain. -/
def AsksDrain (l : Lane) (s : State) : Prop :=
  s.set.narrowing = false ∧ Serves l s ∧ (s.lc.state = .starting ∨ s.lc.state = .running)

/-- A lane whose fault brings a STARTING line home over its empty table. -/
def BringsHome (l : Lane) (s : State) : Prop := AsksDrain l s ∧ s.lc.state = .starting ∧ s.tableCount = 0

/-- LC's values when a lane fault has drained the line. -/
def Lc.drained (lc : Lc) : Lc := { lc with state := .draining, cause := .laneFault, startLimit := none, silence := none }

/-- What a lane fault leaves that does not bring the line home. -/
structure FaultMild (f : LaneFault) (l : Lane) (s u : State) : Prop where
  taken : FaultTaken f false l s u
  heads : u.hd.heads = s.hd.heads
  others : OtherLanesKept l s u
  frame : SameBut { lp := true, lc := true, hd := true } s u
  flags : ∀ k, s.flag k = true → u.flag k = true
  drains : AsksDrain l s → u.lc = s.lc.drained ∧ u.flag .lineState = true
  stays : ¬AsksDrain l s → u.lc = s.lc

theorem goesOut_iff (l : Lane) (s : State) : GoesOut false l s ↔ Serves l s := by
  unfold GoesOut Serves
  simp

theorem laneFault_mild (f : LaneFault) (l : Lane) (s : State) (mild : ¬BringsHome l s) : FaultMild f l s (laneFault f false l s) := by
  obtain ⟨m, ⟨taken, heads, others, frame, flags⟩, out, inside⟩ := laneFault_eq f false l s
  rw [goesOut_iff] at out inside
  have lc : m.lc = s.lc := kept_lc frame rfl rfl
  have set : m.set = s.set := kept_settings frame rfl
  have count : m.tableCount = s.tableCount := tableCount_of_trk (kept_trk frame rfl)
  have still : laneFault f false l s = m → ¬AsksDrain l s → FaultMild f l s (laneFault f false l s) := fun same quiet => by
    rw [same]
    exact ⟨taken, heads, others, frame.widen fun _ => rfl, flags, fun asks => absurd asks quiet, fun _ => lc⟩
  by_cases serves : Serves l s
  · by_cases on : s.set.narrowing = true
    · refine still ((out serves).trans ?_) fun asks => nomatch asks.1.symm.trans on
      rw [askNarrowing, set, if_pos on]
    · have off : s.set.narrowing = false := Bool.eq_false_iff.2 on
      have asked : laneFault f false l s = requestDrain .laneFault m := by
        rw [out serves, askNarrowing, set, if_neg on]
      by_cases moves : s.lc.state = .starting ∨ s.lc.state = .running
      · have asks : AsksDrain l s := ⟨off, serves, moves⟩
        have drains : m.lc.state = .running ∨ (m.lc.state = .starting ∧ m.tableCount ≠ 0) := by
          rw [lc, count]
          rcases moves with starting | running
          · exact .inr ⟨starting, fun empty => mild ⟨asks, starting, empty⟩⟩
          · exact .inl running
        rw [asked, requestDrain_drains drains]
        have kept : SameBut { lp := true, lc := true } m (enterDraining .laneFault m) := enterDraining_without m _ rfl rfl
        have keeps := (lasts_enterDraining m .laneFault).flags
        have hd : (enterDraining .laneFault m).hd = m.hd := kept_hd kept rfl
        refine ⟨?_, (congrArg Hd.heads hd).trans heads, fun k other => ?_, (kept.widen fun _ => rfl).trans (frame.widen fun _ => rfl),
          fun k set => keeps k (flags k set), fun _ => ⟨?_, enterDraining_flag _ m⟩, fun quiet => absurd asks quiet⟩
        · have whole := taken
          obtain ⟨-, -, change, -⟩ := whole
          exact taken.congr (enterDraining_lane _ l m) (keeps _ change)
        · rw [State.head, State.lane, hd]
          exact others k other
        · rw [enterDraining_lc, lc]
          rfl
      · refine still (asked.trans (requestDrain_idle ?_)) fun asks => moves asks.2.2
        rw [lc]
        exact not_or.1 moves
  · exact still (inside serves) fun asks => serves asks.2.1

/-! ### A blade fault that leaves the line moving -/

theorem bladeFaulted_kept (r : Rec) : r.bladeFaulted.loaf = r.loaf ∧ r.bladeFaulted.lane = r.lane ∧
    r.bladeFaulted.state = r.state ∧ r.bladeFaulted.cutsDone = r.cutsDone ∧ r.bladeFaulted.suspect = r.suspect := by
  unfold Rec.bladeFaulted Rec.withdraw
  split <;> simp [addReason_eq]

theorem tableCount_of_lengths (queues : ∀ l, (u.queue l).length = (s.queue l).length) (post : u.trk.post.length = s.trk.post.length) :
    u.tableCount = s.tableCount := by
  have zero : u.trk.queues[0].length = s.trk.queues[0].length := queues 0
  have one : u.trk.queues[1].length = s.trk.queues[1].length := queues 1
  have two : u.trk.queues[2].length = s.trk.queues[2].length := queues 2
  have three : u.trk.queues[3].length = s.trk.queues[3].length := queues 3
  simp only [State.tableCount, State.records, Trk.records, List.length_append, zero, one, two, three, post]

/-- The records and the shares of a head's turn: its own queue and its own crumb. -/
structure Spoils (l : Lane) (faulted : Prop) (s u : State) : Prop where
  own : u.queue l = (s.queue l).map Rec.bladeFaulted ∨ ¬faulted ∧ u.queue l = s.queue l
  queues : ∀ k, k ≠ l → u.queue k = s.queue k
  post : u.trk.post = s.trk.post
  forced : ForcedRaised s u
  cut : faulted → ∀ r, s.slicingRec l = some r → r.slicingEnded = false → SlicingEnds s r r.cutsDone s.crm u.crm ∧
    u.crm.heads = putAt s.crm.heads r.lane { s.crm.heads[r.lane] with
      estimate := min 4000000 (s.crm.heads[r.lane].estimate + shareOf s r r.cutsDone)
      loaves := min 65535 (s.crm.heads[r.lane].loaves + 1) }
  uncut : ¬faulted ∨ (∀ r, s.slicingRec l = some r → r.slicingEnded = true) → u.crm = s.crm

/-- A head's turn at a window end that does not bring the line home. -/
structure HeadTurned (l : Lane) (faulted qualified : Prop) (s u : State) : Prop where
  frame : SameBut { lp := true, lc := true, trk := true, hd := true, crm := true } s u
  others : OtherLanesKept l s u
  flags : ∀ k, s.flag k = true → u.flag k = true
  spoils : Spoils l faulted s u
  qualifies : qualified → u.head l = { s.head l with blade := .running, spinup := none } ∧
    u.lane l = (s.lane l).qualifiedUnder s.lc.state.takesLanes s.set.trialLoaves
  faults : faulted → u.head l = { s.head l with blade := .fault, spinup := none } ∧ u.flag .bladeFault = true ∧
    FaultTaken .blade false l s u
  idles : ¬qualified → ¬faulted → u.head l = s.head l ∧ u.lane l = s.lane l
  drains : faulted → AsksDrain l s → u.lc = s.lc.drained ∧ u.flag .lineState = true
  moves : ¬(faulted ∧ AsksDrain l s) → u.lc = s.lc

/-- A blade that qualifies at a window end. -/
def Qualifies (l : Lane) (s : State) : Prop := (s.head l).blade = .spinup ∧ (s.head l).mon.qualified = true

/-- A blade that faults at a window end, its monitor having been qualified before it. -/
def Faults (before : State) (l : Lane) (s : State) : Prop :=
  (s.head l).blade = .running ∧ (before.head l).mon.qualified = true ∧ (s.head l).mon.qualified = false

theorem takeQualification_qualifies {before : State} {l : Lane} (h : Qualifies l s) : takeQualification before l s = bladeQualified l s := by
  unfold takeQualification
  rw [h.1]
  exact if_pos h.2

theorem takeQualification_faults {before : State} {l : Lane} (h : Faults before l s) : takeQualification before l s = bladeFault l s := by
  obtain ⟨blade, was, now⟩ := h
  unfold takeQualification
  rw [blade]
  exact if_pos ⟨was, now⟩

theorem takeQualification_idles {before : State} {l : Lane} (hq : ¬Qualifies l s) (hf : ¬Faults before l s) :
    takeQualification before l s = s := by
  unfold takeQualification
  cases blade : (s.head l).blade with
  | spinup => exact if_neg fun q => hq ⟨blade, q⟩
  | running => exact if_neg fun f => hf ⟨blade, f⟩
  | _ => rfl

/-- Nothing is spoilt where TRK and CRM are as they were. -/
theorem spoils_nothing {l : Lane} {faulted : Prop} (quiet : ¬faulted) (trk : u.trk = s.trk) (crm : u.crm = s.crm) :
    Spoils l faulted s u :=
  ⟨.inr ⟨quiet, by rw [State.queue, trk]; rfl⟩, fun k _ => by rw [State.queue, trk]; rfl, by rw [trk],
    fun e he _ new => absurd (crm ▸ he) new, fun f => absurd f quiet, fun _ => crm⟩

/-- What a head's turn leaves of the records and of the crumb, whatever its lane's fault makes of the line. -/
theorem takeQualification_spoils (before : State) (l : Lane) (s : State) :
    Spoils l (Faults before l s) s (takeQualification before l s) := by
  by_cases hq : Qualifies l s
  · have quiet : ¬Faults before l s := fun f => nomatch hq.1.symm.trans f.1
    have frame : SameBut { lp := true, hd := true } s (bladeQualified l s) := bladeQualified_without s l rfl rfl
    rw [takeQualification_qualifies hq]
    exact spoils_nothing quiet (kept_trk frame rfl) (kept_crm frame rfl)
  · by_cases hf : Faults before l s
    · rw [takeQualification_faults hf, bladeFault_eq]
      obtain ⟨-, -, -, own, queues, post, -, forced, cut, uncut⟩ := spoilBlade_spoilt l s
      have frame : SameBut { lp := true, sru := true, lc := true, hd := true } (spoilBlade l s)
          (laneFault .blade false l (spoilBlade l s)) := laneFault_without _ .blade false l rfl rfl rfl rfl
      have trk := kept_trk frame rfl
      have crm := kept_crm frame rfl
      have flag := fun set => laneFault_flag .blade false l (s := spoilBlade l s) (k := .crumbForced) set
      generalize laneFault .blade false l (spoilBlade l s) = u at *
      refine ⟨.inl ?_, fun k other => ?_, by rw [trk, post], forced.congr rfl crm flag, fun _ r found open_ => ?_, fun quiet => ?_⟩
      · rw [State.queue, trk]
        exact own
      · rw [State.queue, trk]
        exact queues k other
      · rw [crm]
        exact cut r found open_
      · rw [crm]
        exact uncut (quiet.resolve_left (not_not.2 hf))
    · rw [takeQualification_idles hq hf]
      exact spoils_nothing hf rfl rfl

theorem takeQualification_turned (before : State) (l : Lane) (s : State) (mild : Faults before l s → ¬BringsHome l s) :
    HeadTurned l (Faults before l s) (Qualifies l s) s (takeQualification before l s) := by
  have spoils := takeQualification_spoils before l s
  by_cases hq : Qualifies l s
  · have quiet : ¬Faults before l s := fun f => nomatch hq.1.symm.trans f.1
    rw [takeQualification_qualifies hq] at spoils ⊢
    obtain ⟨⟨head, others, flags⟩, lane⟩ := bladeQualified_turned l s
    have frame : SameBut { lp := true, hd := true } s (bladeQualified l s) := bladeQualified_without s l rfl rfl
    exact ⟨frame.widen fun _ => rfl, others, flags, spoils, fun _ => ⟨head, lane⟩,
      fun f => absurd f quiet, fun no => absurd hq no, fun f => absurd f quiet, fun _ => kept_lc frame rfl rfl⟩
  · by_cases hf : Faults before l s
    · rw [takeQualification_faults hf, bladeFault_eq] at spoils ⊢
      have spoilt := spoilBlade_spoilt l s
      generalize spoilBlade l s = m at spoilt spoils
      obtain ⟨frame, ⟨head, others, flags⟩, lane, own, queues, post, raised, -⟩ := spoilt
      have lc : m.lc = s.lc := kept_lc frame rfl rfl
      have set : m.set = s.set := kept_settings frame rfl
      have pos : m.pos = s.pos := congrArg Sru.pos (kept_sru frame rfl rfl)
      have count : m.tableCount = s.tableCount := tableCount_of_lengths (fun k => by
        by_cases same : k = l
        · rw [same, own, List.length_map]
        · rw [queues k same]) (by rw [post])
      have asks : AsksDrain l m ↔ AsksDrain l s := by
        unfold AsksDrain Serves
        rw [set, lane, lc]
      have mildly : ¬BringsHome l m := by
        unfold BringsHome
        rw [asks, lc, count]
        exact mild hf
      have faulted := laneFault_mild .blade l m mildly
      generalize laneFault .blade false l m = u at faulted spoils
      obtain ⟨taken, heads, otherLanes, kept, keeps, drains, stays⟩ := faulted
      have headOf : ∀ k, u.head k = m.head k := fun k => by rw [State.head, heads]; rfl
      refine ⟨(kept.widen fun _ => rfl).trans (frame.widen fun _ => rfl), fun k other => ?_, fun k set => keeps k (flags k set), spoils,
        fun q => absurd q hq, fun _ => ⟨(headOf l).trans head, keeps _ raised, ?_⟩, fun _ no => absurd hf no, fun _ due => ?_, fun quiet => ?_⟩
      · obtain ⟨otherHead, otherLane⟩ := otherLanes k other
        obtain ⟨firstHead, firstLane⟩ := others k other
        exact ⟨otherHead.trans firstHead, otherLane.trans firstLane⟩
      · exact taken.congr_left (lane l) lc pos set
      · rw [← lc]
        exact drains (asks.2 due)
      · rw [← lc]
        exact stays fun due => quiet ⟨hf, asks.1 due⟩
    · rw [takeQualification_idles hq hf] at spoils ⊢
      exact ⟨rfl, fun _ _ => ⟨rfl, rfl⟩, fun _ set => set, spoils, fun q => absurd q hq, fun f => absurd f hf,
        fun _ _ => ⟨rfl, rfl⟩, fun f => absurd f hf, fun _ => rfl⟩

end Sys2Proof.Machine
end

section
/-! PROOFS. The heads in turn at a window end, the line not coming home (R72, R73, R77, R80, R179). -/

namespace Sys2Proof.Machine

variable {s t u z : State}

/-! ### The turns -/

/-- The part after the turns of some first heads. -/
def turns (before : State) (n : Nat) (s : State) : State := (lanes.take n).foldl (fun s l => takeQualification before l s) s

theorem turns_succ (before : State) (l : Lane) (s : State) :
    turns before (l.val + 1) s = takeQualification before l (turns before l.val s) := by
  fin_cases l <;> rfl

theorem turns_four (before s : State) : forLanes (takeQualification before) s = turns before 4 s := rfl

/-! ### The crumb of a turn (R63, R131) -/

theorem slicingRec_mem {l : Lane} {r : Rec} (h : s.slicingRec l = some r) : r ∈ s.queue l := List.mem_of_find?_eq_some h

/-- Only its own head's crumb changes in a head's turn, by the share of the record that was cut. -/
theorem HeadTurned.crumb {l : Lane} {F Q : Prop} (h : HeadTurned l F Q s u) (lane : ∀ r ∈ s.queue l, r.lane = l) :
    (∀ k : Lane, k ≠ l → u.crm.heads[k] = s.crm.heads[k]) ∧
    ∀ r, F → s.slicingRec l = some r → r.slicingEnded = false →
      u.crm.heads[l].estimate = min 4000000 (s.crm.heads[l].estimate + shareOf s r r.cutsDone) := by
  have spoils := h.spoils
  obtain ⟨-, -, -, -, cut, uncut⟩ := spoils
  refine ⟨fun k other => ?_, fun r faulted found open_ => ?_⟩
  · by_cases quiet : ¬F ∨ ∀ r, s.slicingRec l = some r → r.slicingEnded = true
    · rw [uncut quiet]
    · simp only [not_or, not_not, not_forall, Bool.not_eq_true] at quiet
      obtain ⟨faulted, r, found, open_⟩ := quiet
      obtain ⟨-, heads⟩ := cut faulted r found open_
      have mine := lane r (slicingRec_mem found)
      subst mine
      rw [heads]
      exact getElem_putAt_ne _ _ other
  · obtain ⟨-, heads⟩ := cut faulted r found open_
    have mine := lane r (slicingRec_mem found)
    subst mine
    rw [heads]
    simp

theorem shareOf_congr {l : Lane} {r : Rec} (mine : r.lane = l) (pst : t.pst = s.pst) (crumb : t.crm.heads[l] = s.crm.heads[l])
    (n : Nat) : shareOf t r n = shareOf s r n := by
  subst mine
  unfold shareOf
  rw [State.profile, State.profile, pst, crumb]

/-! ### What the turns have left so far -/

/-- A head and its lane after its turn. -/
structure HeadClassed (before : State) (l : Lane) (s u : State) : Prop where
  qualifies : Qualifies l s → u.head l = { s.head l with blade := .running, spinup := none } ∧
    u.lane l = (s.lane l).qualifiedUnder s.lc.state.takesLanes s.set.trialLoaves
  faults : Faults before l s → u.head l = { s.head l with blade := .fault, spinup := none } ∧ u.flag .bladeFault = true ∧
    FaultTaken .blade false l s u ∧ u.queue l = (s.queue l).map Rec.bladeFaulted
  idles : ¬Qualifies l s → ¬Faults before l s → u.head l = s.head l ∧ u.lane l = s.lane l
  share : ∀ r, Faults before l s → s.slicingRec l = some r → r.slicingEnded = false →
    u.crm.heads[l].estimate = min 4000000 (s.crm.heads[l].estimate + shareOf s r r.cutsDone)

/-- A lane as it was. -/
structure LaneAsWas (l : Lane) (s u : State) : Prop where
  head : u.head l = s.head l
  lane : u.lane l = s.lane l
  queue : u.queue l = s.queue l
  crumb : u.crm.heads[l] = s.crm.heads[l]

theorem LaneAsWas.trans {l : Lane} (h : LaneAsWas l s t) (k : LaneAsWas l t u) : LaneAsWas l s u :=
  ⟨k.head.trans h.head, k.lane.trans h.lane, k.queue.trans h.queue, k.crumb.trans h.crumb⟩

theorem HeadClassed.lasts {before : State} {l : Lane} (h : HeadClassed before l s t) (as : LaneAsWas l t u)
    (flags : ∀ k, t.flag k = true → u.flag k = true) : HeadClassed before l s u := by
  obtain ⟨qualifies, faults, idles, share⟩ := h
  obtain ⟨head, lane, queue, crumb⟩ := as
  refine ⟨fun q => ?_, fun f => ?_, fun q f => ?_, fun r f found open_ => ?_⟩
  · rw [head, lane]
    exact qualifies q
  · obtain ⟨faultHead, raised, taken, records⟩ := faults f
    have whole := taken
    obtain ⟨-, -, change, -⟩ := whole
    exact ⟨head.trans faultHead, flags _ raised, taken.congr lane (flags _ change), queue.trans records⟩
  · rw [head, lane]
    exact idles q f
  · rw [crumb]
    exact share r f found open_

/-- The turns of the heads before `n`, none of them bringing the line home. -/
structure Turning (before : State) (n : Nat) (s u : State) : Prop where
  frame : SameBut { lp := true, lc := true, trk := true, hd := true, crm := true } s u
  ahead : ∀ k : Lane, n ≤ k.val → LaneAsWas k s u
  behind : ∀ k : Lane, k.val < n → HeadClassed before k s u
  queues : ∀ k, u.queue k = s.queue k ∨ u.queue k = (s.queue k).map Rec.bladeFaulted
  post : u.trk.post = s.trk.post
  flags : ∀ k, s.flag k = true → u.flag k = true
  forced : ForcedRaised s u
  still : (∀ k : Lane, k.val < n → Faults before k s → ¬AsksDrain k s) → u.lc = s.lc
  drained : ∀ k : Lane, k.val < n → Faults before k s → AsksDrain k s → u.lc = s.lc.drained ∧ u.flag .lineState = true

theorem Turning.tableCount {before : State} {n : Nat} (h : Turning before n s u) : u.tableCount = s.tableCount :=
  tableCount_of_lengths (fun k => by
    rcases h.queues k with same | spoilt
    · rw [same]
    · rw [spoilt, List.length_map]) (by rw [h.post])

/-- LC in the midst of the turns: as it was, or drained by a fault. -/
theorem Turning.line {before : State} {n : Nat} (h : Turning before n s u) :
    (u.lc = s.lc ∧ ∀ k : Lane, k.val < n → Faults before k s → ¬AsksDrain k s) ∨
      (u.lc = s.lc.drained ∧ u.flag .lineState = true ∧ (s.lc.state = .starting ∨ s.lc.state = .running)) := by
  by_cases quiet : ∀ k : Lane, k.val < n → Faults before k s → ¬AsksDrain k s
  · exact .inl ⟨h.still quiet, quiet⟩
  · simp only [not_forall, not_not] at quiet
    obtain ⟨k, low, faulted, asks⟩ := quiet
    obtain ⟨lc, flag⟩ := h.drained k low faulted asks
    obtain ⟨-, -, moves⟩ := asks
    exact .inr ⟨lc, flag, moves⟩

/-- The line state plays no part in a lane fault of a blade that was RUNNING. -/
theorem FaultTaken.of_running {f : LaneFault} {l : Lane} (h : FaultTaken f false l t u) (lane : t.lane l = s.lane l)
    (pos : t.pos = s.pos) (set : t.set = s.set) : FaultTaken f false l s u := by
  unfold FaultTaken at *
  simp only [Bool.false_eq_true, false_and, if_false] at *
  rwa [lane, pos, set] at h

theorem turning_start (before s : State) : Turning before 0 s s :=
  ⟨rfl, fun _ _ => ⟨rfl, rfl, rfl, rfl⟩, fun _ low => (nomatch low), fun _ => .inl rfl, rfl, fun _ set => set,
    fun _ he _ new => absurd he new, fun _ => rfl, fun _ low => (nomatch low)⟩

theorem Turning.next {before : State} {l : Lane} (h : Turning before l.val s t) (away : Faults before l s → ¬BringsHome l s)
    (lanes : ∀ k, ∀ r ∈ s.queue k, r.lane = k) : Turning before (l.val + 1) s (takeQualification before l t) := by
  have line := h.line
  have count := h.tableCount
  obtain ⟨frame, ahead, behind, queues, post, flags, forced, still, drained⟩ := h
  obtain ⟨head, lane, queue, crumb⟩ := ahead l (Nat.le_refl _)
  have set : t.set = s.set := kept_settings frame rfl
  have pos : t.pos = s.pos := congrArg Sru.pos (kept_sru frame rfl rfl)
  have cut : t.slicingRec l = s.slicingRec l := by rw [State.slicingRec, queue]; rfl
  have faults : Faults before l t ↔ Faults before l s := by unfold Faults; rw [head]
  have qualifies : Qualifies l t ↔ Qualifies l s := by unfold Qualifies; rw [head]
  have takes : t.lc.state.takesLanes = s.lc.state.takesLanes := by
    rcases line with ⟨same, -⟩ | ⟨lc, -, moves⟩
    · rw [same]
    · rw [lc]
      rcases moves with starting | running
      · rw [starting]; rfl
      · rw [running]; rfl
  have turned := takeQualification_turned before l t fun faulted home => by
    obtain ⟨⟨off, serves, moves⟩, starting, empty⟩ := home
    rcases line with ⟨same, -⟩ | ⟨lc, -⟩
    · refine away (faults.1 faulted) ⟨⟨set ▸ off, ?_, same ▸ moves⟩, same ▸ starting, count ▸ empty⟩
      unfold Serves at serves ⊢
      rwa [lane] at serves
    · rw [lc] at starting
      exact nomatch starting
  obtain ⟨others, own⟩ := turned.crumb (fun r hr => lanes l r (queue ▸ hr))
  generalize takeQualification before l t = u at turned others own
  obtain ⟨turnFrame, otherLanes, keeps, ⟨ownQueue, otherQueues, ownPost, ownForced, -, -⟩, qualified, faulted, idles, drains, moves⟩ := turned
  have asWas : ∀ k, k ≠ l → LaneAsWas k t u := fun k other => by
    obtain ⟨otherHead, otherLane⟩ := otherLanes k other
    exact ⟨otherHead, otherLane, otherQueues k other, others k other⟩
  have apart : ∀ k : Lane, k.val < l.val + 1 → k ≠ l → k.val < l.val := fun k low other =>
    Nat.lt_of_le_of_ne (Nat.le_of_lt_succ low) fun e => other (Fin.ext e)
  rw [faults] at faulted idles drains moves ownQueue
  rw [qualifies] at qualified idles
  refine ⟨turnFrame.trans frame, fun k high => ?_, fun k low => ?_, fun k => ?_, ownPost.trans post, fun k set => keeps k (flags k set),
    forced.trans ownForced (keeps _), fun quiet => ?_, fun k low f asks => ?_⟩
  · exact (ahead k (Nat.le_of_succ_le high)).trans (asWas k fun e => by rw [e] at high; exact absurd high (Nat.not_succ_le_self _))
  · by_cases same : k = l
    · subst same
      refine ⟨fun q => ?_, fun f => ?_, fun q f => ?_, fun r f found open_ => ?_⟩
      · obtain ⟨newHead, newLane⟩ := qualified q
        exact ⟨by rw [newHead, head], by rw [newLane, lane, takes, set]⟩
      · obtain ⟨newHead, raised, taken⟩ := faulted f
        refine ⟨by rw [newHead, head], raised, taken.of_running lane pos set, ?_⟩
        rcases ownQueue with spoilt | ⟨quiet, -⟩
        · rw [spoilt, queue]
        · exact absurd f quiet
      · obtain ⟨newHead, newLane⟩ := idles q f
        exact ⟨newHead.trans head, newLane.trans lane⟩
      · have share := shareOf_congr (lanes k r (slicingRec_mem found)) (kept_pst frame rfl rfl) crumb r.cutsDone
        rw [own r (faults.2 f) (cut.trans found) open_, share, crumb]
    · exact (behind k (apart k low same)).lasts (asWas k same) keeps
  · by_cases same : k = l
    · subst same
      rcases ownQueue with spoilt | ⟨-, stays⟩
      · exact .inr (by rw [spoilt, queue])
      · exact .inl (stays.trans queue)
    · rw [otherQueues k same]
      exact queues k
  · have before := still fun k low => quiet k (Nat.lt_succ_of_lt low)
    rw [moves ?_, before]
    rintro ⟨f, off, serves, going⟩
    refine quiet l (Nat.lt_succ_self _) f ⟨set ▸ off, ?_, before ▸ going⟩
    unfold Serves at serves ⊢
    rwa [lane] at serves
  · rcases line with ⟨same, none⟩ | ⟨lc, flag, -⟩
    · by_cases mine : k = l
      · subst mine
        rw [← same]
        obtain ⟨off, serves, going⟩ := asks
        refine drains f ⟨set.symm ▸ off, ?_, same.symm ▸ going⟩
        unfold Serves at serves ⊢
        rwa [lane]
      · exact absurd asks (none k (apart k low mine) f)
    · have quiet : ¬AsksDrain l t := fun ⟨_, _, going⟩ => by
        rw [lc] at going
        rcases going with starting | running
        · exact nomatch starting
        · exact nomatch running
      exact ⟨(moves fun h => quiet h.2).trans lc, keeps _ flag⟩

/-- Heads that have had their turns, none bringing the line home. -/
theorem turning_end {before : State} (lanes : ∀ k, ∀ r ∈ s.queue k, r.lane = k) : ∀ n ≤ 4,
    (∀ k : Lane, k.val < n → Faults before k s → ¬BringsHome k s) → Turning before n s (turns before n s) := by
  intro n
  induction n with
  | zero => exact fun _ _ => turning_start before s
  | succ n ih =>
    intro low away
    have step := turns_succ before ⟨n, low⟩ s
    have earlier := ih (Nat.le_of_succ_le low) fun k few => away k (Nat.lt_succ_of_lt few)
    exact step ▸ earlier.next (l := ⟨n, low⟩) (away ⟨n, low⟩ (Nat.lt_succ_self n)) lanes

/-! ### The records and the crumb through all turns -/

theorem turns_suspects (before s : State) : ∀ n ≤ 4, (∀ k, ((turns before n s).queue k).map Rec.suspect = (s.queue k).map Rec.suspect) ∧
    (turns before n s).trk.post = s.trk.post := by
  intro n
  induction n with
  | zero => exact fun _ => ⟨fun _ => rfl, rfl⟩
  | succ n ih =>
    intro low
    obtain ⟨queues, post⟩ := ih (Nat.le_of_succ_le low)
    have spoils := takeQualification_spoils before ⟨n, low⟩ (turns before n s)
    rw [← turns_succ before ⟨n, low⟩ s] at spoils
    obtain ⟨own, others, samePost, -⟩ := spoils
    refine ⟨fun k => (Eq.trans ?_ (queues k)), samePost.trans post⟩
    by_cases mine : k = ⟨n, low⟩
    · subst mine
      rcases own with spoilt | ⟨-, same⟩
      · rw [spoilt, List.map_map]
        refine List.map_congr_left fun r _ => ?_
        obtain ⟨-, -, -, -, suspect⟩ := bladeFaulted_kept r
        exact suspect
      · rw [same]
    · rw [others k mine]

theorem turns_forced (before s : State) : ∀ n ≤ 4, ForcedRaised s (turns before n s) := by
  intro n
  induction n with
  | zero => exact fun _ e he _ new => absurd he new
  | succ n ih =>
    intro low
    obtain ⟨-, -, -, forced, -⟩ := takeQualification_spoils before ⟨n, low⟩ (turns before n s)
    have flags : ∀ t : State, t.flag .crumbForced = true → (takeQualification before ⟨n, low⟩ t).flag .crumbForced = true := fun t set =>
      (takeQualification_acts (sure := False) t before ⟨n, low⟩).keeps flag_act set
    rw [turns_succ before ⟨n, low⟩ s]
    exact (ih (Nat.le_of_succ_le low)).trans forced (flags _)

end Sys2Proof.Machine
end

section
/-! PROOFS. A blade fault at a window end that brings a STARTING line home (R17, R77, R80, R84, R179). -/

namespace Sys2Proof.Machine

variable {s t u z : State}

/-! ### The reference at rest (R17) -/

/-- What an entry to IDLE leaves of SRU and of the held demand. -/
structure ReferenceRests (s u : State) : Prop where
  lines : SameLines s.sru u.sru
  slip : u.sru.slipActive = s.sru.slipActive
  state : u.sru.state = .idle
  same : s.sru.state = .idle → u.sru = s.sru
  moved : s.sru.state ≠ .idle → u.sru.selected = .pacer ∧ u.sru.holdover = none ∧ u.lc.held = none ∧
    EstimateHolds s.lc.demand u.sru

theorem enterIdle_rests (s : State) : ReferenceRests s (enterIdle s) := by
  unfold enterIdle
  split
  · next idle => exact ⟨⟨rfl, rfl, rfl, rfl, rfl, rfl, rfl⟩, rfl, idle, fun _ => rfl, fun other => absurd idle other⟩
  · next moving =>
    have estimate := setReferenceState_holds .idle .pacer (s.onSru fun x => { x with holdover := none, frozen := 0 })
    refine ⟨⟨rfl, rfl, rfl, rfl, rfl, rfl, rfl⟩, rfl, rfl, fun idle => absurd idle moving, fun _ => ⟨rfl, rfl, ?_, estimate⟩⟩
    rw [setReferenceState_lc]
    exact if_neg moving

theorem ReferenceRests.of_frame (h : ReferenceRests s t) (sru : u.sru = t.sru) (lc : u.lc = t.lc) : ReferenceRests s u := by
  obtain ⟨lines, slip, state, same, moved⟩ := h
  refine ⟨sru ▸ lines, sru ▸ slip, sru ▸ state, fun idle => sru.trans (same idle), fun moving => ?_⟩
  rw [sru, lc]
  exact moved moving

/-- Only SRU and the demand tell where the reference came from. -/
theorem ReferenceRests.of_start (h : ReferenceRests t u) (sru : t.sru = s.sru) (demand : t.lc.demand = s.lc.demand) :
    ReferenceRests s u := by
  obtain ⟨lines, slip, state, same, moved⟩ := h
  rw [sru] at lines slip same moved
  rw [demand] at moved
  exact ⟨lines, slip, state, same, moved⟩

theorem enterReady_rests (cause : StopCause) (s : State) : ReferenceRests s (enterReady cause s) := by
  have frame := headsAtReady_frame (enterIdle (lineToReady cause s))
  have begun : (lineToReady cause s).sru = s.sru := kept_sru (b := { lp := true, lc := true }) (by simp [lineToReady]) rfl rfl
  have demand : (lineToReady cause s).lc.demand = s.lc.demand := by rw [lineToReady_lc]
  rw [enterReady_eq]
  exact ((enterIdle_rests (lineToReady cause s)).of_frame (kept_sru frame rfl rfl) (kept_lc frame rfl rfl)).of_start begun demand

/-! ### The blade fault that brings the line home -/

/-- A lane fault that brings the line home, before the entry to READY. -/
structure FaultedHome (l : Lane) (s u : State) : Prop where
  frame : SameBut { lp := true, trk := true, hd := true, crm := true } s u
  head : u.head l = { s.head l with blade := .fault, spinup := none }
  others : OtherLanesKept l s u
  taken : FaultTaken .blade false l s u
  raised : u.flag .bladeFault = true
  flags : ∀ k, s.flag k = true → u.flag k = true

theorem bladeFault_home {l : Lane} (home : BringsHome l s) : ∃ m, FaultedHome l s m ∧ bladeFault l s = enterReady .laneFault m := by
  obtain ⟨⟨off, serves, -⟩, starting, empty⟩ := home
  obtain ⟨spoilFrame, ⟨head, others, flags⟩, lane, own, queues, post, raised, -⟩ := spoilBlade_spoilt l s
  rw [bladeFault_eq]
  generalize spoilBlade l s = v at *
  obtain ⟨m, ⟨taken, heads, otherLanes, frame, keeps⟩, out, -⟩ := laneFault_eq .blade false l v
  have lc : m.lc = s.lc := (kept_lc frame rfl rfl).trans (kept_lc spoilFrame rfl rfl)
  have set : m.set = s.set := (kept_settings frame rfl).trans (kept_settings spoilFrame rfl)
  have count : v.tableCount = s.tableCount := tableCount_of_lengths (fun k => by
    by_cases same : k = l
    · rw [same, own, List.length_map]
    · rw [queues k same]) (by rw [post])
  have headOf : ∀ k, m.head k = v.head k := fun k => by rw [State.head, heads]; rfl
  refine ⟨m, ⟨(frame.widen fun _ => rfl).trans spoilFrame, (headOf l).trans head, fun k other => ?_, ?_, keeps _ raised,
    fun k set => keeps k (flags k set)⟩, ?_⟩
  · obtain ⟨otherHead, otherLane⟩ := otherLanes k other
    obtain ⟨firstHead, firstLane⟩ := others k other
    exact ⟨otherHead.trans firstHead, otherLane.trans firstLane⟩
  · exact taken.of_running (lane l) (congrArg Sru.pos (kept_sru spoilFrame rfl rfl)) (kept_settings spoilFrame rfl)
  · have goes : GoesOut false l v := by
      rw [goesOut_iff]
      unfold Serves at serves ⊢
      rwa [lane]
    rw [out goes, askNarrowing, set, if_neg (by rw [off]; decide)]
    exact requestDrain_readies (by rw [lc, starting]) ((tableCount_of_trk (kept_trk frame rfl)).trans (count.trans empty))

/-! ### Lanes and blades on the way home -/

/-- A lane and its blade once the head has had its turn or not. -/
structure Midway (faulted : Prop) (c d : LaneCtl) (b e : BladeState) : Prop where
  parked : c.state = .parked → d.state = .parked
  parks : d.state = .parked → c.state = .parked ∨ (c.state = .trial ∧ faulted)
  target : d.target = c.target
  notes : ¬faulted → d.trialFails = c.trialFails ∧ d.lastFault = c.lastFault
  turning : b = .spinup ∨ b = .running → (e = .spinup ∨ e = .running) ∨ (faulted ∧ e = .fault)
  still : b ≠ .spinup → b ≠ .running → e = b

theorem midway_same (faulted : Prop) {c d : LaneCtl} {b e : BladeState} (lane : d = c) (blade : e = b) : Midway faulted c d b e := by
  subst lane blade
  exact ⟨id, .inl, rfl, fun _ => ⟨rfl, rfl⟩, .inl, fun _ _ => rfl⟩

theorem midway_qualified (faulted : Prop) (c : LaneCtl) (takes : Bool) (n : Nat) :
    Midway faulted c (c.qualifiedUnder takes n) .spinup .running := by
  unfold LaneCtl.qualifiedUnder
  split
  · next idle => exact ⟨fun parked => (nomatch idle.1.symm.trans parked), nofun, rfl, fun _ => ⟨rfl, rfl⟩, fun _ => .inl (.inr rfl),
      fun other => absurd rfl other⟩
  · split
    · exact ⟨id, .inl, rfl, fun _ => ⟨rfl, rfl⟩, fun _ => .inl (.inr rfl), fun other => absurd rfl other⟩
    · exact ⟨id, .inl, rfl, fun _ => ⟨rfl, rfl⟩, fun _ => .inl (.inr rfl), fun other => absurd rfl other⟩

theorem midway_faulted {faulted : Prop} {l : Lane} (h : faulted) (taken : FaultTaken .blade false l s u) :
    Midway faulted (s.lane l) (u.lane l) .running .fault := by
  obtain ⟨-, target, -, running, trial, down, parked, idle⟩ := taken
  refine ⟨fun was => (parked was).1, fun now => ?_, target, fun no => absurd h no, fun _ => .inr ⟨h, rfl⟩, fun _ other => absurd rfl other⟩
  cases was : (s.lane l).state with
  | running => exact nomatch now.symm.trans (running was).1
  | trial => exact .inr ⟨rfl, h⟩
  | down => exact nomatch now.symm.trans (down was).1
  | parked => exact .inl rfl
  | idle =>
    obtain ⟨-, stays⟩ := idle was
    rw [if_neg (by simp)] at stays
    exact nomatch now.symm.trans stays

theorem HeadClassed.midway {before : State} {l : Lane} (h : HeadClassed before l s u) :
    Midway (Faults before l s) (s.lane l) (u.lane l) (s.head l).blade (u.head l).blade := by
  obtain ⟨qualifies, faults, idles, -⟩ := h
  by_cases hq : Qualifies l s
  · obtain ⟨head, lane⟩ := qualifies hq
    rw [head, lane, hq.1]
    exact midway_qualified ..
  · by_cases hf : Faults before l s
    · obtain ⟨head, -, taken, -⟩ := faults hf
      rw [head, hf.1]
      exact midway_faulted hf taken
    · obtain ⟨head, lane⟩ := idles hq hf
      exact midway_same _ lane (by rw [head])

/-! ### Home -/

/-- A lane and its head as a STARTING line's way home leaves them. -/
structure RestedHome (faulted : Prop) (c d : LaneCtl) (b e : BladeState) : Prop where
  state : d.state = .idle ∨ d.state = .parked
  parked : c.state = .parked → d.state = .parked
  parks : d.state = .parked → c.state = .parked ∨ (c.state = .trial ∧ faulted)
  target : d.target = c.target
  trial : d.trialLeft = 0 ∧ d.trialList = [] ∧ d.retrial = none
  notes : ¬faulted → d.trialFails = c.trialFails ∧ d.lastFault = c.lastFault
  turning : b = .spinup ∨ b = .running → e = .stopped ∨ (faulted ∧ e = .fault)
  still : b ≠ .spinup → b ≠ .running → e = b

theorem Midway.rests {faulted : Prop} {c d d' : LaneCtl} {b e e' : BladeState} (h : Midway faulted c d b e) (rest : LaneAtRest d d')
    (blade : e' = if e = .spinup ∨ e = .running then .stopped else e) : RestedHome faulted c d' b e' := by
  obtain ⟨parked, parks, target, notes, turning, still⟩ := h
  obtain ⟨state, sameTarget, left, list, retrial, fails, fault⟩ := rest
  refine ⟨?_, fun was => ?_, fun now => parks ?_, sameTarget.trans target, ⟨left, list, retrial⟩, fun no => ?_, fun moving => ?_, fun a b' => ?_⟩
  · rw [state]
    split
    · exact .inr rfl
    · exact .inl rfl
  · rw [state, if_pos (parked was)]
  · rw [state] at now
    split at now
    · next yes => exact yes
    · exact nomatch now
  · obtain ⟨sameFails, sameFault⟩ := notes no
    exact ⟨fails.trans sameFails, fault.trans sameFault⟩
  · rcases turning moving with runs | ⟨f, fault⟩
    · exact .inl (by rw [blade, if_pos runs])
    · exact .inr ⟨f, by rw [blade, fault]; rfl⟩
  · rw [blade, still a b', if_neg (not_or.2 ⟨a, b'⟩)]

/-- What the turns of a window end leave of a STARTING line that a blade fault brings home. -/
structure CameHome (before s u : State) : Prop where
  frame : SameBut { lp := true, sru := true, lc := true, trk := true, hd := true, crm := true } s u
  reference : ReferenceRests s u
  lc : u.lc = { s.lc with
    held := u.lc.held, state := .ready, cause := .laneFault, startLimit := none, silence := none }
  line : u.flag .lineState = true
  raised : u.flag .bladeFault = true
  flags : ∀ k, s.flag k = true → u.flag k = true
  culprit : ∃ l, Faults before l s ∧ Serves l s ∧ (u.head l).blade = .fault ∧ (u.lane l).lastFault = some (.blade, s.pos)
  lanes : ∀ l, RestedHome (Faults before l s) (s.lane l) (u.lane l) (s.head l).blade (u.head l).blade
  monitors : ∀ l, (u.head l).mon = (s.head l).mon

/-- The first lane of some. -/
theorem first_lane {p : Lane → Prop} (h : ∃ l, p l) : ∃ l, p l ∧ ∀ k : Lane, k.val < l.val → ¬p k := by
  classical
  obtain ⟨l, hl⟩ := h
  have some : ∃ n, ∃ low : n < 4, p ⟨n, low⟩ := ⟨l.val, l.isLt, hl⟩
  obtain ⟨low, found⟩ := Nat.find_spec some
  exact ⟨⟨Nat.find some, low⟩, found, fun k few hk => Nat.find_min some few ⟨k.isLt, hk⟩⟩

theorem Turning.monitor {before : State} {n : Nat} (h : Turning before n s u) (l : Lane) : (u.head l).mon = (s.head l).mon := by
  by_cases low : l.val < n
  · obtain ⟨qualifies, faults, idles, -⟩ := h.behind l low
    by_cases hq : Qualifies l s
    · obtain ⟨head, -⟩ := qualifies hq
      rw [head]
    · by_cases hf : Faults before l s
      · obtain ⟨head, -⟩ := faults hf
        rw [head]
      · obtain ⟨head, -⟩ := idles hq hf
        rw [head]
  · rw [(h.ahead l (Nat.le_of_not_lt low)).head]

/-- Blades that an entry to READY has stopped have no turns left. -/
theorem turns_resting {before : State} {n : Nat} (rest : ∀ l, (u.head l).blade ≠ .spinup ∧ (u.head l).blade ≠ .running)
    (at_ : turns before n s = u) : ∀ m, n ≤ m → m ≤ 4 → turns before m s = u := by
  intro m low
  induction m, low using Nat.le_induction with
  | base => exact fun _ => at_
  | succ m _ ih =>
    intro high
    obtain ⟨notSpinup, notRunning⟩ := rest ⟨m, high⟩
    have step := turns_succ before ⟨m, high⟩ s
    rw [show turns before (⟨m, high⟩ : Lane).val s = u from ih (Nat.le_of_succ_le high)] at step
    rw [takeQualification_idles (fun q => notSpinup q.1) fun f => notRunning f.1] at step
    exact step

/-- A blade fault's way home from turns that have left the line as it was. -/
theorem cameHome_of {before : State} {l : Lane} (turned : Turning before l.val s t) (line : t.lc = s.lc)
    (faulted : Faults before l s) (brings : BringsHome l s) : CameHome before s (takeQualification before l t) ∧
      ∀ k, ((takeQualification before l t).head k).blade ≠ .spinup ∧ ((takeQualification before l t).head k).blade ≠ .running := by
  have monitors := turned.monitor
  have count := turned.tableCount
  obtain ⟨frame, ahead, behind, -, -, flags, -⟩ := turned
  obtain ⟨head, lane, -⟩ := ahead l (Nat.le_refl _)
  have set : t.set = s.set := kept_settings frame rfl
  have pos : t.pos = s.pos := congrArg Sru.pos (kept_sru frame rfl rfl)
  have faults : Faults before l t := by
    unfold Faults
    rw [head]
    exact faulted
  obtain ⟨⟨off, serves, moves⟩, starting, empty⟩ := brings
  have home : BringsHome l t := by
    refine ⟨⟨set ▸ off, ?_, line ▸ moves⟩, line ▸ starting, count.trans empty⟩
    unfold Serves at serves ⊢
    rwa [lane]
  rw [takeQualification_faults faults]
  obtain ⟨m, ⟨faultFrame, newHead, others, taken, raised, keeps⟩, same⟩ := bladeFault_home home
  rw [same]
  have ready := enterReady_taken .laneFault m
  have rests := enterReady_rests .laneFault m
  have lasts := lasts_enterReady m .laneFault
  obtain ⟨held, lc⟩ := enterReady_lc .laneFault m
  generalize enterReady .laneFault m = u at *
  obtain ⟨readyFrame, -, -, -, -, -, -, lineFlag, lanes⟩ := ready
  have midLc : m.lc = s.lc := (kept_lc faultFrame rfl rfl).trans line
  have midSru : m.sru = s.sru := (kept_sru faultFrame rfl rfl).trans (kept_sru frame rfl rfl)
  have midway : ∀ k, Midway (Faults before k s) (s.lane k) (m.lane k) (s.head k).blade (m.head k).blade := fun k => by
    by_cases mine : k = l
    · subst mine
      rw [newHead, faulted.1, ← lane]
      exact midway_faulted faulted taken
    · obtain ⟨otherHead, otherLane⟩ := others k mine
      by_cases low : k.val < l.val
      · rw [otherHead, otherLane]
        exact (behind k low).midway
      · have as := ahead k (Nat.le_of_not_lt low)
        exact midway_same _ (otherLane.trans as.lane) (by rw [otherHead, as.head])
  have mons : ∀ k, (m.head k).mon = (s.head k).mon := fun k => by
    by_cases mine : k = l
    · subst mine
      rw [newHead, head]
    · obtain ⟨otherHead, -⟩ := others k mine
      rw [otherHead]
      exact monitors k
  refine ⟨⟨?_, rests.of_start midSru (by rw [midLc]), ?_, lineFlag, lasts.flags _ raised, fun k set => lasts.flags k (keeps k (flags k set)),
    ⟨l, faulted, serves, ?_, ?_⟩, fun k => ?_, fun k => ?_⟩, fun k => ?_⟩
  · exact (readyFrame.widen fun _ => rfl).trans ((faultFrame.widen fun _ => rfl).trans (frame.widen fun _ => rfl))
  · rw [lc, midLc]
  · obtain ⟨-, blade⟩ := lanes l
    rw [blade, newHead]
    rfl
  · obtain ⟨⟨-, -, -, -, -, -, noted⟩, -⟩ := lanes l
    obtain ⟨fault, -⟩ := taken
    rw [noted, fault, pos]
  · obtain ⟨rest, blade⟩ := lanes k
    exact (midway k).rests rest blade
  · have same : (u.head k).mon = (m.head k).mon := congrFun (congrArg Steady.blades lasts.steady) k
    exact same.trans (mons k)
  · obtain ⟨-, blade⟩ := lanes k
    rw [blade]
    split
    · exact ⟨nofun, nofun⟩
    · next rest => exact not_or.1 rest

theorem turns_home {before : State} (lanes : ∀ k, ∀ r ∈ s.queue k, r.lane = k) (home : ∃ l, Faults before l s ∧ BringsHome l s) :
    CameHome before s (turns before 4 s) := by
  obtain ⟨l, ⟨faulted, brings⟩, earlier⟩ := first_lane home
  have turned := turning_end lanes l.val (Nat.le_of_lt l.isLt) fun k low f b => earlier k low ⟨f, b⟩
  have line : (turns before l.val s).lc = s.lc := turned.still fun k low f asks => by
    obtain ⟨-, starting, empty⟩ := brings
    exact earlier k low ⟨f, asks, starting, empty⟩
  obtain ⟨came, rest⟩ := cameHome_of turned line faulted brings
  rw [← turns_succ] at came rest
  rw [turns_resting rest rfl 4 l.isLt (Nat.le_refl 4)]
  exact came

end Sys2Proof.Machine
end

section
/-! PROOFS. The monitors, the window and the demand through the turns and the settling of a window end (R2, R72, R183). -/

namespace Sys2Proof.Machine

variable {s t u : State}

/-! ### The line monitors and the window in progress (R2) -/

theorem sameLines_refl (x : Sru) : SameLines x x := ⟨rfl, rfl, rfl, rfl, rfl, rfl, rfl⟩

theorem SameLines.trans {x y z : Sru} (h : SameLines x y) (k : SameLines y z) : SameLines x z :=
  ⟨k.w.trans h.w, k.m.trans h.m, k.incW.trans h.incW, k.incM.trans h.incM, k.windowMs.trans h.windowMs,
    k.windowLeft.trans h.windowLeft, k.pos.trans h.pos⟩

theorem sameLines_of_sru (h : u.sru = s.sru) : SameLines s.sru u.sru := h ▸ sameLines_refl _

theorem requestDrain_lines (cause : StopCause) (s : State) : SameLines s.sru (requestDrain cause s).sru := by
  have drains : SameLines s.sru (enterDraining cause s).sru :=
    sameLines_of_sru (kept_sru (enterDraining_without (b := { lp := true, lc := true }) s cause rfl rfl) rfl rfl)
  unfold requestDrain
  split
  · exact drains
  · split
    · exact (enterReady_rests cause s).lines
    · exact drains
  · exact sameLines_refl _

theorem stopIdleBlades_lines (s : State) : SameLines s.sru (forLanes stopIdleBlade s).sru :=
  sameLines_of_sru (kept_sru (b := { hd := true }) (without_forLanes s _ fun l t => stopIdleBlade_without t l rfl) rfl rfl)

theorem settleLine_lines (before s : State) : SameLines s.sru (settleLine before s).sru := by
  unfold settleLine
  have blades := stopIdleBlades_lines s
  generalize forLanes stopIdleBlade s = a at blades
  have noLanes : SameLines a.sru (checkNoLanes before a).sru := by
    unfold checkNoLanes
    split
    · exact requestDrain_lines .noLanes a
    · exact sameLines_refl _
  generalize checkNoLanes before a = b at noLanes
  have starts : SameLines b.sru (settleStart b).sru :=
    sameLines_of_sru (kept_sru (settleStart_without (b := { lp := true, lc := true }) b rfl rfl) rfl rfl)
  generalize settleStart b = c at starts
  have drains : SameLines c.sru (settleDrain c).sru := by
    unfold settleDrain
    split
    · exact (enterReady_rests _ c).lines
    · exact sameLines_refl _
  exact ((blades.trans noLanes).trans starts).trans drains

theorem refresh_lines (s : State) : SameLines s.sru (refresh s).sru := ⟨rfl, rfl, rfl, rfl, rfl, rfl, rfl⟩

theorem settleGrants_lines (n : Nat) (s : State) : SameLines s.sru (settleGrants n s).sru := by
  unfold settleGrants
  have retrials : SameLines s.sru (forLanes settleRetrial s).sru :=
    sameLines_of_sru (kept_sru (b := { hd := true }) (without_forLanes s _ fun l t => settleRetrial_without t l rfl) rfl rfl)
  generalize forLanes settleRetrial s = a at retrials
  have grants : SameLines (refresh a).sru (settleGrant n (refresh a)).sru :=
    sameLines_of_sru (kept_sru (settleGrant_without (b := { trk := true, arb := true }) (refresh a) n rfl rfl) rfl rfl)
  have fresh := refresh_lines a
  generalize settleGrant n (refresh a) = c at grants
  have changes : SameLines c.sru (settleChangeover c).sru :=
    sameLines_of_sru (kept_sru (settleChangeover_without (b := { arb := true }) c rfl) rfl rfl)
  exact ((retrials.trans fresh).trans grants).trans changes

theorem settleBlocks_lines (n : Nat) (s : State) : SameLines s.sru (settleBlocks n s).sru := by
  unfold settleBlocks
  have blades := stopIdleBlades_lines s
  generalize forLanes stopIdleBlade s = a at blades
  refine blades.trans (sameLines_of_sru ?_)
  have frame : SameBut { hd := true, arb := true, tie := true, crm := true } a (settlePurge n (settleChangeover (settleReindex a))) := by
    simp [SameBut]
  exact kept_sru frame rfl rfl

/-- A settling leaves the line monitors, the increments, the window in progress and the position. -/
theorem settle_lines (before : State) (n : Nat) (s : State) : SameLines s.sru (settle before n s).sru := by
  rw [settle_eq]
  have line := settleLine_lines before s
  generalize settleLine before s = a at line
  have blocks := settleBlocks_lines n a
  generalize settleBlocks n a = b at blocks
  have grants := settleGrants_lines n b
  generalize settleGrants n b = c at grants
  have fresh := refresh_lines c
  generalize refresh c = d at fresh
  have gates : SameLines d.sru (evaluateGates d).sru :=
    sameLines_of_sru (kept_sru (evaluateGates_without (b := { lp := true, trk := true }) d rfl rfl) rfl rfl)
  exact (((line.trans blocks).trans grants).trans fresh).trans gates

/-! ### The turns of the heads -/

/-- The monitors, the window in progress and the demand stand. -/
structure MonitorsStand (s u : State) : Prop where
  lines : SameLines s.sru u.sru
  blades : ∀ k, (u.head k).mon = (s.head k).mon
  demand : u.lc.demand = s.lc.demand

theorem MonitorsStand.trans (h : MonitorsStand s t) (k : MonitorsStand t u) : MonitorsStand s u :=
  ⟨h.lines.trans k.lines, fun l => (k.blades l).trans (h.blades l), k.demand.trans h.demand⟩

theorem monitorsStand_of_lasts (lines : SameLines s.sru u.sru) (lasts : Lasts s u) : MonitorsStand s u :=
  ⟨lines, fun l => congrFun (congrArg Steady.blades lasts.steady) l, congrArg Steady.demand lasts.steady⟩

theorem BladeTurned.monitors {l : Lane} {b : BladeState} (h : BladeTurned l b s u) (k : Lane) : (u.head k).mon = (s.head k).mon := by
  by_cases mine : k = l
  · subst mine
    rw [h.head]
  · obtain ⟨head, -⟩ := h.others k mine
    rw [head]

theorem takeQualification_monitors (before : State) (l : Lane) (s : State) : MonitorsStand s (takeQualification before l s) := by
  by_cases hq : Qualifies l s
  · have frame : SameBut { lp := true, hd := true } s (bladeQualified l s) := bladeQualified_without s l rfl rfl
    rw [takeQualification_qualifies hq]
    obtain ⟨turned, -⟩ := bladeQualified_turned l s
    exact ⟨sameLines_of_sru (kept_sru frame rfl rfl), turned.monitors, congrArg Lc.demand (kept_lc frame rfl rfl)⟩
  · by_cases hf : Faults before l s
    · rw [takeQualification_faults hf, bladeFault_eq]
      obtain ⟨spoilFrame, turned, -⟩ := spoilBlade_spoilt l s
      have spoils : MonitorsStand s (spoilBlade l s) :=
        ⟨sameLines_of_sru (kept_sru spoilFrame rfl rfl), turned.monitors, congrArg Lc.demand (kept_lc spoilFrame rfl rfl)⟩
      refine spoils.trans ?_
      generalize spoilBlade l s = v
      obtain ⟨m, ⟨-, heads, -, frame, -⟩, out, inside⟩ := laneFault_eq .blade false l v
      have noted : MonitorsStand v m :=
        ⟨sameLines_of_sru (kept_sru frame rfl rfl), fun k => by rw [State.head, heads]; rfl, congrArg Lc.demand (kept_lc frame rfl rfl)⟩
      refine noted.trans ?_
      by_cases goes : GoesOut false l v
      · rw [out goes, askNarrowing]
        split
        · exact ⟨sameLines_refl _, fun _ => rfl, rfl⟩
        · exact monitorsStand_of_lasts (requestDrain_lines _ m) (lasts_requestDrain m _)
      · rw [inside goes]
        exact ⟨sameLines_refl _, fun _ => rfl, rfl⟩
    · rw [takeQualification_idles hq hf]
      exact ⟨sameLines_refl _, fun _ => rfl, rfl⟩

theorem turns_monitors (before s : State) : MonitorsStand s (turns before 4 s) :=
  forLanes_induction (P := MonitorsStand s) (fun l t h => h.trans (takeQualification_monitors before l t))
    ⟨sameLines_refl _, fun _ => rfl, rfl⟩

end Sys2Proof.Machine
end

section
/-! PROOFS. A window end as a whole: the steps in order, and its monitors after the settling (R2 to R6). -/

namespace Sys2Proof.Machine

variable {s t u : State}

/-! ### The steps in order (R2, log entry 9) -/

/-- SRU's part of a window end, the monitors classed before it. -/
def windowReferred (s : State) : State := selectWindow s.sru.estimate (classAll s)

/-- A window end before the blocks settle. -/
def windowEnded (s : State) : State := beginWindow (turns s 4 (windowReferred s))

theorem windowEnd_effect (on : s.powered = true) : Effect .windowEnd s (windowEnded s) := by
  show execWindowEnd s = _
  unfold execWindowEnd whenPowered
  rw [if_pos on]
  rfl

theorem selectWindow_lc (est : Nat) (s : State) : ∃ held, (selectWindow est s).lc = { s.lc with held := held } := by
  obtain ⟨-, -, -, -, -, -, kept, switched, lost⟩ := windowSelected est s
  by_cases stays : SelectionKept s.sru s.sru.choose
  · obtain ⟨-, -, -, -, -, -, lc⟩ := kept stays
    exact ⟨_, lc⟩
  · simp only [SelectionKept, not_or, not_exists, not_and, not_not] at stays
    obtain ⟨moving, other, loses⟩ := stays
    cases choice : s.sru.choose with
    | some y =>
      obtain ⟨-, -, -, -, -, -, -, lc⟩ := switched y moving choice (other y choice)
      exact ⟨_, lc⟩
    | none =>
      obtain ⟨-, -, -, -, -, -, lc⟩ := lost (loses choice) choice
      exact ⟨_, lc⟩

theorem turns_frame (before s : State) :
    SameBut { lp := true, sru := true, lc := true, trk := true, hd := true, crm := true } s (turns before 4 s) :=
  without_forLanes s _ fun l t => takeQualification_without t before l rfl rfl rfl rfl rfl rfl

theorem windowReferred_frame (s : State) :
    SameBut { lp := true, sru := true, lc := true, trk := true, hd := true, tot := true, nv := true } s (windowReferred s) :=
  ((windowSelected s.sru.estimate (classAll s)).frame.widen fun _ => rfl).trans ((classAll_frame s).widen fun _ => rfl)

theorem beginWindow_frame (s : State) : SameBut { sru := true } s (beginWindow s) := rfl

theorem windowEnded_frame (s : State) :
    SameBut { lp := true, sru := true, lc := true, trk := true, hd := true, crm := true, tot := true, nv := true } s (windowEnded s) :=
  ((beginWindow_frame _).widen fun _ => rfl).trans
    (((turns_frame s (windowReferred s)).widen fun _ => rfl).trans ((windowReferred_frame s).widen fun _ => rfl))

/-! ### The monitors (R2 to R6) -/

/-- What a window end leaves of the monitors, of the window in progress and of the demand. -/
structure MonitorsClassed (s u : State) : Prop where
  w : u.sru.w = s.sru.w.windowEnd s.set (lineNominal s.lc.demand s.sru.windowMs s.set.scaleW) s.sru.windowMs
  m : u.sru.m = s.sru.m.windowEnd s.set (lineNominal s.lc.demand s.sru.windowMs s.set.scaleM) s.sru.windowMs
  blades : ∀ l, (u.head l).mon = (s.head l).mon.windowEnd s.set (s.bladeNominal l)
  windowMs : u.sru.windowMs = s.set.windowMs
  windowLeft : u.sru.windowLeft = s.set.windowMs
  demand : u.lc.demand = s.lc.demand

theorem windowTurned_stands (s : State) : MonitorsStand (classAll s) (turns s 4 (windowReferred s)) := by
  refine MonitorsStand.trans ?_ (turns_monitors s (windowReferred s))
  obtain ⟨frame, lines, -⟩ := windowSelected s.sru.estimate (classAll s)
  obtain ⟨held, lc⟩ := selectWindow_lc s.sru.estimate (classAll s)
  have heads : (windowReferred s).hd = (classAll s).hd := kept_hd frame rfl
  have demand : (windowReferred s).lc.demand = (classAll s).lc.demand := by
    rw [windowReferred, lc]
  exact ⟨lines, fun k => by rw [State.head, heads]; rfl, demand⟩

theorem windowEnded_classed (s : State) : MonitorsClassed s (windowEnded s) := by
  obtain ⟨⟨w, m, -⟩, blades, demand⟩ := windowTurned_stands s
  have set : (turns s 4 (windowReferred s)).set = s.set :=
    (kept_settings (turns_frame s (windowReferred s)) rfl).trans (kept_settings (windowReferred_frame s) rfl)
  unfold windowEnded
  generalize turns s 4 (windowReferred s) = v at *
  refine ⟨w, m, fun l => (blades l).trans ?_, by rw [← set]; rfl, by rw [← set]; rfl, demand⟩
  rw [classAll_head]

theorem MonitorsClassed.settled (h : MonitorsClassed s u) (before : State) (n : Nat) : MonitorsClassed s (settle before n u) := by
  have lines := settle_lines before n u
  have lasts := lasts_settle (s := u) before n
  generalize settle before n u = v at *
  obtain ⟨sameW, sameM, -, -, windowMs, windowLeft, -⟩ := lines
  obtain ⟨steady, -⟩ := lasts
  obtain ⟨w, m, blades, ms, left, demand⟩ := h
  exact ⟨sameW.trans w, sameM.trans m, fun l => (congrFun (congrArg Steady.blades steady) l).trans (blades l),
    windowMs.trans ms, windowLeft.trans left, (congrArg Steady.demand steady).trans demand⟩

theorem MonitorsClassed.steps (h : MonitorsClassed s u) :
    MonitorStep s.set (s.lc.demand * s.sru.windowMs * s.set.scaleW / 10000000) s.sru.w.mon u.sru.w.mon ∧
    MonitorStep s.set (s.lc.demand * s.sru.windowMs * s.set.scaleM / 10000000) s.sru.m.mon u.sru.m.mon ∧
    ∀ l, MonitorStep s.set (s.bladeNominal l) (s.head l).mon (u.head l).mon := by
  obtain ⟨w, m, blades, -⟩ := h
  refine ⟨?_, ?_, fun l => ?_⟩
  · rw [w]
    exact windowEnd_steps ..
  · rw [m]
    exact windowEnd_steps ..
  · rw [blades]
    exact windowEnd_steps ..

theorem MonitorsClassed.histories (h : MonitorsClassed s u) (few : s.sru.w.history.length ≤ 8) (few' : s.sru.m.history.length ≤ 8) :
    u.sru.w.history = (if s.sru.w.history.length < 8 then s.sru.w.history else s.sru.w.history.tail)
      ++ [⟨s.sru.w.mon.count, s.sru.windowMs⟩] ∧
    u.sru.m.history = (if s.sru.m.history.length < 8 then s.sru.m.history else s.sru.m.history.tail)
      ++ [⟨s.sru.m.mon.count, s.sru.windowMs⟩] := by
  obtain ⟨w, m, -⟩ := h
  refine ⟨?_, ?_⟩
  · rw [w]
    exact joinHistory_eq _ few
  · rw [m]
    exact joinHistory_eq _ few'

end Sys2Proof.Machine
end

section
/-! PROOFS. Heads, records and crumb shares of a window end, told from the state before it (R63, R72, R73, R77, R131). -/

namespace Sys2Proof.Machine

variable {s t u z : State}

/-! ### What SRU's part leaves alone -/

/-- A state that differs in SRU, the held demand, the suspect marks and the monitors alone, as far as the heads' turns see it. -/
structure ReferredOnly (s z : State) : Prop where
  heads : ∀ l, (z.head l).blade = (s.head l).blade ∧ (z.head l).spinup = (s.head l).spinup
  lane : ∀ l, z.lane l = s.lane l
  crm : z.crm = s.crm
  pst : z.pst = s.pst
  pos : z.pos = s.pos
  lc : ∃ held, z.lc = { s.lc with held := held }
  records : OnlySuspects s z

theorem windowReferred_only (s : State) : ReferredOnly s (windowReferred s) := by
  have whole := windowReferred_frame s
  have selected := windowSelected s.sru.estimate (classAll s)
  have lc := selectWindow_lc s.sru.estimate (classAll s)
  unfold windowReferred at whole ⊢
  generalize selectWindow s.sru.estimate (classAll s) = z at *
  obtain ⟨frame, lines, records, -⟩ := selected
  have hd := kept_hd frame rfl
  have head : ∀ l, z.head l = (classAll s).head l := fun l => by rw [State.head, hd]; rfl
  refine ⟨fun l => ?_, fun l => ?_, kept_crm whole rfl, kept_pst whole rfl rfl, lines.pos, lc, records⟩
  · rw [head, classAll_head]
    exact ⟨rfl, rfl⟩
  · rw [State.lane, hd]
    exact classAll_lane l s

theorem OnlySuspects.tableCount (h : OnlySuspects s z) : z.tableCount = s.tableCount := by
  obtain ⟨g, -, post, queues⟩ := h
  exact tableCount_of_lengths (fun l => by rw [queues l, List.length_map]) (by rw [post, List.length_map])

theorem OnlySuspects.lanes (h : OnlySuspects s z) (lanes : ∀ k, ∀ r ∈ s.queue k, r.lane = k) : ∀ k, ∀ r ∈ z.queue k, r.lane = k := by
  obtain ⟨g, mark, -, queues⟩ := h
  intro k r hr
  rw [queues k] at hr
  obtain ⟨x, hx, rfl⟩ := List.mem_map.1 hr
  obtain ⟨b, marked⟩ := mark x
  rw [marked]
  exact lanes k x hx

/-- The record being cut differs by its suspect mark alone. -/
theorem slicingRec_marked {g : Rec → Rec} {l : Lane} (mark : ∀ r, ∃ b, g r = { r with suspect := b })
    (queue : z.queue l = (s.queue l).map g) : z.slicingRec l = (s.slicingRec l).map g := by
  have same : ((fun r : Rec => r.state == .slicing) ∘ g) = fun r : Rec => r.state == .slicing := funext fun r => by
    obtain ⟨b, marked⟩ := mark r
    simp [marked]
  rw [State.slicingRec, State.slicingRec, queue, List.find?_map, same]

/-! ### One head (R72, R73, R77) -/

theorem bladeFaulted_marks (r : Rec) :
    (r.state = .measuring ∨ r.state = .planned ∨ r.state = .slicing → Reason.blade ∈ r.bladeFaulted.reasons) ∧
    (r.state = .planned → r.bladeFaulted.plan = none) ∧
    (r.state = .slicing → r.bladeFaulted.slicingEnded = true ∧ r.bladeFaulted.plan = r.plan) := by
  have noted : Reason.blade ∈ (r.addReason .blade).reasons := by
    unfold Rec.addReason
    split
    · assumption
    · simp
  have plan : (r.addReason .blade).plan = r.plan := by rw [addReason_eq]
  unfold Rec.bladeFaulted Rec.withdraw
  cases state : r.state with
  | measuring => exact ⟨fun _ => noted, nofun, nofun⟩
  | planned => exact ⟨fun _ => noted, fun _ => rfl, nofun⟩
  | slicing => exact ⟨fun _ => noted, nofun, fun _ => ⟨rfl, plan⟩⟩
  | _ => exact ⟨by simp, nofun, nofun⟩

theorem takesLanes_iff (x : LineState) : x.takesLanes = true ↔ x = .starting ∨ x = .running ∨ x = .draining := by
  cases x <;> simp [LineState.takesLanes]

/-- A head's turn, told from the state before the window end. -/
theorem HeadClassed.bladeClassed {l : Lane} (h : HeadClassed s l z u) (only : ReferredOnly s z)
    (mon : (u.head l).mon = (z.head l).mon) (lanes : ∀ r ∈ s.queue l, r.lane = l) : BladeClassed l s u := by
  obtain ⟨qualifies, faults, idles, share⟩ := h
  obtain ⟨heads, lane, crm, pst, pos, ⟨held, lc⟩, g, mark, -, queues⟩ := only
  obtain ⟨blade, spinup⟩ := heads l
  have takes := takesLanes_iff s.lc.state
  have set : z.set = s.set := congrArg Pst.settings pst
  unfold Qualifies at qualifies idles
  unfold Faults at faults idles share
  unfold BladeClassed
  dsimp only
  rw [blade, ← mon] at qualifies faults idles share
  refine ⟨fun q => ?_, fun q f => ?_, fun f => ?_⟩
  · obtain ⟨newHead, newLane⟩ := qualifies q
    refine ⟨by rw [newHead], by rw [newHead], ?_⟩
    rw [newLane, lane, lc, set, LaneCtl.qualifiedUnder]
    simp only [takes]
  · obtain ⟨newHead, newLane⟩ := idles q f
    exact ⟨by rw [newHead, blade], by rw [newHead, spinup], by rw [newLane, lane]⟩
  · obtain ⟨newHead, raised, taken, queue⟩ := faults f
    have whole := taken
    obtain ⟨-, -, change, -⟩ := whole
    refine ⟨by rw [newHead], raised, taken.of_running (lane l) pos set, fun r hr => ?_, fun r found open_ => ?_⟩
    · obtain ⟨b, marked⟩ := mark r
      refine ⟨(g r).bladeFaulted, ?_, ?_⟩
      · rw [queue, queues]
        exact List.mem_map_of_mem (List.mem_map_of_mem hr)
      · have kept := bladeFaulted_kept (g r)
        have marks := bladeFaulted_marks (g r)
        obtain ⟨loaf, -, state, cuts, -⟩ := kept
        obtain ⟨noted, withdrawn, ended⟩ := marks
        rw [marked] at *
        exact ⟨loaf, state, cuts, noted, withdrawn, ended⟩
    · obtain ⟨b, marked⟩ := mark r
      have cut : z.slicingRec l = some (g r) := by
        rw [slicingRec_marked mark (queues l), State.slicingRec, found]
        rfl
      have estimate := share (g r) f cut (by rw [marked]; exact open_)
      have mine := lanes r (slicingRec_mem found)
      subst mine
      rw [estimate, marked, crm]
      unfold shareOf
      rw [State.profile, pst, crm]
      rfl

/-! ### The shares, head by head (R63, R131) -/

/-- What a head's turn makes of CRM, `cut` being the record in its blade. -/
structure ShareTaken (s : State) (faulted : Prop) (cut : Option Rec) (c d : Crm) : Prop where
  handed : ∀ r, faulted → cut = some r → r.slicingEnded = false → SlicingEnds s r r.cutsDone c d
  unhanded : ¬faulted ∨ (∀ r, cut = some r → r.slicingEnded = true) → d = c

theorem SlicingEnds.congr {r : Rec} {n : Nat} {c d : Crm} (h : SlicingEnds t r n c d) (pst : t.pst = s.pst) : SlicingEnds s r n c d := by
  obtain ⟨m, first, second⟩ := h
  have profile : t.profile r.slot = s.profile r.slot := by rw [State.profile, State.profile, pst]
  rw [profile] at first
  exact ⟨m, first.congr pst, second.congr pst⟩

theorem SlicingEnds.unmarked {r : Rec} {b : Bool} {n : Nat} {c d : Crm} (h : SlicingEnds s { r with suspect := b } n c d) :
    SlicingEnds s r n c d := h

/-- A head's turn hands its shares on, whether the line comes home in the turns or not. -/
theorem turns_shareTaken {before : State} (lanes : ∀ k, ∀ r ∈ s.queue k, r.lane = k) (l : Lane) :
    ShareTaken s (Faults before l s) (s.slicingRec l) (turns before l.val s).crm (turns before (l.val + 1) s).crm := by
  have spoils := takeQualification_spoils before l (turns before l.val s)
  rw [← turns_succ] at spoils
  generalize turns before (l.val + 1) s = u at spoils
  obtain ⟨-, -, -, -, cut, uncut⟩ := spoils
  by_cases home : ∃ l, Faults before l s ∧ BringsHome l s
  · obtain ⟨k, -, -, -, empty⟩ := home
    have count : (turns before l.val s).tableCount = 0 := by
      obtain ⟨queues, post⟩ := turns_suspects before s l.val (Nat.le_of_lt l.isLt)
      refine (tableCount_of_lengths (s := s) (fun k => ?_) (by rw [post])).trans empty
      have same := congrArg List.length (queues k)
      rwa [List.length_map, List.length_map] at same
    have none : ∀ v : State, v.tableCount = 0 → v.slicingRec l = none := fun v nothing =>
      Option.eq_none_iff_forall_ne_some.2 fun r found => by
        have standing := mem_records_of_queue v (slicingRec_mem found)
        rw [records_eq_nil nothing] at standing
        exact nomatch standing
    refine ⟨fun r _ found => (nomatch (none s empty).symm.trans found), fun _ => uncut (.inr fun r found => ?_)⟩
    exact nomatch (none _ count).symm.trans found
  · have turned := turning_end lanes l.val (Nat.le_of_lt l.isLt) fun k _ f b => home ⟨k, f, b⟩
    generalize turns before l.val s = t at *
    obtain ⟨frame, ahead, -⟩ := turned
    obtain ⟨head, -, queue, -⟩ := ahead l (Nat.le_refl _)
    have faults : Faults before l t ↔ Faults before l s := by unfold Faults; rw [head]
    have same : t.slicingRec l = s.slicingRec l := by rw [State.slicingRec, queue]; rfl
    rw [faults, same] at cut uncut
    refine ⟨fun r f found open_ => ?_, uncut⟩
    obtain ⟨ends, -⟩ := cut f r found open_
    exact ends.congr (kept_pst frame rfl rfl)

theorem ShareTaken.unmarked {faulted : Prop} {l : Lane} {c d : Crm} (h : ShareTaken z faulted (z.slicingRec l) c d)
    (only : ReferredOnly s z) : ShareTaken s faulted (s.slicingRec l) c d := by
  obtain ⟨cut, uncut⟩ := h
  obtain ⟨-, -, -, pst, -, -, g, mark, -, queues⟩ := only
  have found := slicingRec_marked mark (queues l)
  refine ⟨fun r f given open_ => ?_, fun quiet => uncut (quiet.imp_right fun ended r given => ?_)⟩
  · obtain ⟨b, marked⟩ := mark r
    have ends := cut (g r) f (by rw [found, given]; rfl) (by rw [marked]; exact open_)
    rw [marked] at ends
    exact (ends.congr pst).unmarked
  · rw [found] at given
    obtain ⟨x, hx, rfl⟩ := Option.map_eq_some_iff.1 given
    obtain ⟨b, marked⟩ := mark x
    rw [marked]
    exact ended x hx

end Sys2Proof.Machine
end

section
/-! PROOFS. The window end against R13, R16, R21, R22, R80 and R179, the line coming home or not. -/

namespace Sys2Proof.Machine

variable {s t u v z : State}

/-! ### Faults, drains and the way home, told from the states before and after -/

/-- A RUNNING blade whose monitor loses its qualification. -/
def BladeLost (l : Lane) (s u : State) : Prop :=
  (s.head l).blade = .running ∧ (s.head l).mon.qualified = true ∧ (u.head l).mon.qualified = false

/-- A lane in service whose fault asks a moving line for a drain. -/
def LossDrains (s u : State) : Prop :=
  s.set.narrowing = false ∧ (∃ l, BladeLost l s u ∧ Serves l s) ∧ (s.lc.state = .starting ∨ s.lc.state = .running)

/-- The drain of a STARTING line over an empty table. -/
def LossHome (s u : State) : Prop := LossDrains s u ∧ s.lc.state = .starting ∧ s.tableCount = 0

theorem ReferredOnly.set (only : ReferredOnly s z) : z.set = s.set := congrArg Pst.settings only.pst

theorem ReferredOnly.faults (only : ReferredOnly s z) (mon : ∀ l, (u.head l).mon = (z.head l).mon) (l : Lane) :
    Faults s l z ↔ BladeLost l s u := by
  obtain ⟨blade, -⟩ := only.heads l
  rw [Faults, BladeLost, blade, mon]

theorem ReferredOnly.serves (only : ReferredOnly s z) (l : Lane) : Serves l z ↔ Serves l s := by
  rw [Serves, Serves, only.lane]

theorem ReferredOnly.asks (only : ReferredOnly s z) (l : Lane) :
    AsksDrain l z ↔ s.set.narrowing = false ∧ Serves l s ∧ (s.lc.state = .starting ∨ s.lc.state = .running) := by
  obtain ⟨held, lc⟩ := only.lc
  rw [AsksDrain, only.set, only.serves, lc]

theorem ReferredOnly.drains (only : ReferredOnly s z) (mon : ∀ l, (u.head l).mon = (z.head l).mon) :
    (∃ l, Faults s l z ∧ AsksDrain l z) ↔ LossDrains s u := by
  simp only [only.faults mon, only.asks]
  exact ⟨fun ⟨l, lost, off, serves, moves⟩ => ⟨off, ⟨l, lost, serves⟩, moves⟩,
    fun ⟨off, ⟨l, lost, serves⟩, moves⟩ => ⟨l, lost, off, serves, moves⟩⟩

theorem ReferredOnly.home (only : ReferredOnly s z) (mon : ∀ l, (u.head l).mon = (z.head l).mon) :
    (∃ l, Faults s l z ∧ BringsHome l z) ↔ LossHome s u := by
  obtain ⟨held, lc⟩ := only.lc
  unfold BringsHome LossHome
  rw [← only.drains mon, only.records.tableCount, lc]
  exact ⟨fun ⟨l, lost, asks, starting, empty⟩ => ⟨⟨l, lost, asks⟩, starting, empty⟩,
    fun ⟨⟨l, lost, asks⟩, starting, empty⟩ => ⟨l, lost, asks, starting, empty⟩⟩

/-! ### The turns in sum -/

/-- What the heads' turns leave of SRU's part of a window end. -/
structure WindowTurned (s z v : State) : Prop where
  only : ReferredOnly s z
  monitors : ∀ l, (v.head l).mon = (z.head l).mon
  nv : v.nv = z.nv
  tot : v.tot = z.tot
  flags : ∀ k, z.flag k = true → v.flag k = true
  post : v.trk.post = z.trk.post
  queues : ∀ l, (v.queue l).map Rec.suspect = (z.queue l).map Rec.suspect
  forced : ForcedRaised s v
  away : ¬LossHome s v → Turning s 4 z v
  home : LossHome s v → CameHome s z v

theorem windowReferred_turned (lanes : ∀ k, ∀ r ∈ s.queue k, r.lane = k) :
    WindowTurned s (windowReferred s) (turns s 4 (windowReferred s)) := by
  have only := windowReferred_only s
  have lanes' := only.records.lanes lanes
  have frame := turns_frame s (windowReferred s)
  have mon := (turns_monitors s (windowReferred s)).blades
  obtain ⟨queues, post⟩ := turns_suspects s (windowReferred s) 4 (Nat.le_refl 4)
  have forced := turns_forced s (windowReferred s) 4 (Nat.le_refl 4)
  have acts : Acts False (windowReferred s) (turns s 4 (windowReferred s)) :=
    forLanes_acts _ fun l t => takeQualification_acts t s l
  have away := turning_end (before := s) lanes' 4 (Nat.le_refl 4)
  have home := turns_home (before := s) lanes'
  generalize windowReferred s = z at *
  generalize turns s 4 z = v at *
  exact ⟨only, mon, kept_nv frame rfl, kept_tot frame rfl, fun k set => acts.keeps flag_act set, post, queues,
    forced.congr only.crm.symm rfl id, fun off => away fun k _ f b => off ((only.home mon).1 ⟨k, f, b⟩),
    fun on => home ((only.home mon).2 on)⟩

/-! ### The reference after the turns (R11, R13, R16, R21, R22) -/

theorem SlipChecked.congr {pct : Nat} {was : Bool} {x y : Sru} {p q : Prop} (h : SlipChecked pct was x p) (lines : SameLines x y)
    (slip : y.slipActive = x.slipActive) (raised : p → q) : SlipChecked pct was y q := by
  obtain ⟨full, few, off⟩ := h
  obtain ⟨w, m, incW, incM, -⟩ := lines
  unfold SlipChecked
  rw [w, m, incW, incM, slip]
  refine ⟨fun a b c d => ?_, few, off⟩
  obtain ⟨apart, due⟩ := full a b c d
  exact ⟨apart, fun disagree clear => raised (due disagree clear)⟩

theorem WindowTurned.reference (h : WindowTurned s z v) (estimate : EstimateHolds z.lc.demand z.sru) :
    SameLines z.sru v.sru ∧ v.sru.slipActive = z.sru.slipActive ∧ EstimateHolds z.lc.demand v.sru := by
  by_cases home : LossHome s v
  · obtain ⟨-, ⟨lines, slip, -, same, moved⟩, -⟩ := h.home home
    refine ⟨lines, slip, ?_⟩
    by_cases idle : z.sru.state = .idle
    · rw [same idle]
      exact estimate
    · obtain ⟨-, -, -, holds⟩ := moved idle
      exact holds
  · rw [kept_sru (h.away home).frame rfl rfl]
    exact ⟨sameLines_refl _, rfl, estimate⟩

theorem WindowTurned.suspects (h : WindowTurned s z v) {m : Bool} (marks : SuspectsBy m t z) : SuspectsBy m t v :=
  marks.then (by rw [h.post]) h.queues

end Sys2Proof.Machine
end

section
/-! PROOFS. WINDOW_END (O17). -/

namespace Sys2Proof.Machine

variable {s t u v z : State}

/-! ### The reference's clauses (R13, R14, R19 to R22) -/

theorem WindowTurned.kept (turned : WindowTurned s z v) {est : Nat} (selected : WindowSelected est (classAll s) z)
    (kept : SelectionKept s.sru (classAll s).sru.choose) : v.nv = s.nv ∧ v.tot = s.tot ∧ SuspectsBy false s v ∧
    (¬LossHome s v → v.sru.state = s.sru.state ∧ v.sru.selected = s.sru.selected ∧ v.sru.holdover = s.sru.holdover) := by
  obtain ⟨nv, tot, marks, state, source, timer, -⟩ := selected.kept kept
  refine ⟨turned.nv.trans nv, turned.tot.trans tot, turned.suspects marks, fun away => ?_⟩
  rw [kept_sru (turned.away away).frame rfl rfl]
  exact ⟨state, source, timer⟩

theorem WindowTurned.switched (turned : WindowTurned s z v) {est : Nat} (selected : WindowSelected est (classAll s) z) (y : LineSource)
    (moving : s.sru.state ≠ .idle) (chosen : (classAll s).sru.choose = some y) (other : s.sru.selected ≠ .encoder y) :
    v.flag .refState = true ∧ v.nv = s.nv ∧ v.tot = s.tot ∧
    SuspectsBy (decide (s.sru.settings.hitless = false ∨ s.flag .slip = true)) s v ∧
    (¬LossHome s v → v.sru.state = .track ∧ v.sru.selected = .encoder y ∧ v.sru.holdover = none) := by
  obtain ⟨flag, nv, tot, marks, state, source, timer, -⟩ := selected.switched y moving chosen other
  refine ⟨turned.flags _ flag, turned.nv.trans nv, turned.tot.trans tot, turned.suspects marks, fun away => ?_⟩
  rw [kept_sru (turned.away away).frame rfl rfl]
  exact ⟨state, source, timer⟩

theorem WindowTurned.lost (turned : WindowTurned s z v) (selected : WindowSelected s.sru.estimate (classAll s) z)
    (track : s.sru.state = .track) (none : (classAll s).sru.choose = none) :
    v.flag .refState = true ∧ LossCounted s v ∧ SuspectsBy (decide (s.set.holdoverMs = 0)) s v ∧
    (¬LossHome s v → v.sru.selected = .pacer ∧
      (s.set.holdoverMs ≠ 0 → v.sru.state = .holdover ∧ v.sru.frozen = s.sru.estimate ∧ v.sru.holdover = some s.set.holdoverMs) ∧
      (s.set.holdoverMs = 0 → v.sru.state = .crawl)) := by
  obtain ⟨flag, counted, marks, source, holds, crawls, -⟩ := selected.lost track none
  refine ⟨turned.flags _ flag, counted.congr turned.nv turned.tot, turned.suspects marks, fun away => ?_⟩
  rw [kept_sru (turned.away away).frame rfl rfl]
  exact ⟨source, holds, crawls⟩

/-! ### The line and the heads (R72, R73, R77, R80, R179) -/

/-- The demand that the reference holds after the selection. -/
theorem windowSelected_held {est : Nat} (selected : WindowSelected est (classAll s) z) :
    (SelectionKept s.sru (classAll s).sru.choose → z.lc.held = s.lc.held) ∧
    (∀ y, s.sru.state ≠ .idle → (classAll s).sru.choose = some y → s.sru.selected ≠ .encoder y →
      z.lc.held = if s.sru.state = .track then s.lc.held else none) ∧
    (s.sru.state = .track → (classAll s).sru.choose = none →
      z.lc.held = if s.set.holdoverMs = 0 then none else some s.lc.demand) := by
  refine ⟨fun kept => ?_, fun y moving chosen other => ?_, fun track none => ?_⟩
  · obtain ⟨-, -, -, -, -, -, lc⟩ := selected.kept kept
    rw [lc]
    rfl
  · obtain ⟨-, -, -, -, -, -, -, lc⟩ := selected.switched y moving chosen other
    rw [lc]
    rfl
  · obtain ⟨-, -, -, -, -, -, lc⟩ := selected.lost track none
    rw [lc]
    rfl

theorem WindowTurned.line (turned : WindowTurned s z v) (away : ¬LossHome s v) :
    (¬LossDrains s v → v.lc = { s.lc with held := z.lc.held }) ∧
    (LossDrains s v → v.flag .lineState = true ∧ v.lc = { s.lc with
      held := z.lc.held, state := .draining, cause := .laneFault, startLimit := none, silence := none }) := by
  have drains := turned.only.drains turned.monitors
  obtain ⟨held, lc⟩ := turned.only.lc
  obtain ⟨-, -, -, -, -, -, -, still, drained⟩ := turned.away away
  refine ⟨fun quiet => ?_, fun due => ?_⟩
  · rw [still fun k _ f asks => quiet (drains.1 ⟨k, f, asks⟩), lc]
  · obtain ⟨k, f, asks⟩ := drains.2 due
    obtain ⟨same, flag⟩ := drained k k.isLt f asks
    refine ⟨flag, ?_⟩
    rw [same, lc]
    rfl

theorem WindowTurned.heads (turned : WindowTurned s z v) (lanes : ∀ k, ∀ r ∈ s.queue k, r.lane = k) (away : ¬LossHome s v) (l : Lane) :
    BladeClassed l s v :=
  ((turned.away away).behind l l.isLt).bladeClassed turned.only (turned.monitors l) (lanes l)

/-- A lane of a line that a blade fault brings home. -/
theorem RestedHome.clauses {faulted : Prop} {c d : LaneCtl} {b e : BladeState} (h : RestedHome faulted c d b e) :
    (d.state = .idle ∨ d.state = .parked) ∧ (c.state = .parked → d.state = .parked) ∧
    (d.state = .parked → c.state = .parked ∨ (c.state = .trial ∧ faulted)) ∧
    d.target = c.target ∧ d.trialLeft = 0 ∧ d.trialList = [] ∧ d.retrial = none ∧
    (¬faulted → d.trialFails = c.trialFails ∧ d.lastFault = c.lastFault) ∧
    (b = .spinup ∨ b = .running → e = .stopped ∨ (faulted ∧ e = .fault)) ∧
    (b ≠ .spinup → b ≠ .running → e = b) := by
  obtain ⟨rests, parked, parks, target, ⟨left, list, retrial⟩, notes, turning, still⟩ := h
  exact ⟨rests, parked, parks, target, left, list, retrial, notes, turning, still⟩

theorem WindowTurned.cameHome (turned : WindowTurned s z v) (moves : z.sru.state = .idle ↔ s.sru.state = .idle) (home : LossHome s v) :
    v.flag .lineState = true ∧ v.flag .bladeFault = true ∧ v.sru.state = .idle ∧
    (s.sru.state ≠ .idle → v.sru.selected = .pacer ∧ v.sru.holdover = none ∧ v.lc.held = none) ∧
    v.lc = { s.lc with held := v.lc.held, state := .ready, cause := .laneFault, startLimit := none, silence := none } ∧
    (∃ l, BladeLost l s v ∧ Serves l s ∧ (v.head l).blade = .fault ∧ (v.lane l).lastFault = some (.blade, s.pos)) ∧
    ∀ l, RestedHome (BladeLost l s v) (s.lane l) (v.lane l) (s.head l).blade (v.head l).blade := by
  obtain ⟨-, ⟨-, -, idle, -, moved⟩, lc, line, raised, -, ⟨l, faulted, serves, blade, noted⟩, rested, -⟩ := turned.home home
  have faults := turned.only.faults turned.monitors
  obtain ⟨held, referred⟩ := turned.only.lc
  refine ⟨line, raised, idle, fun moving => ?_, ?_, ⟨l, (faults l).1 faulted, (turned.only.serves l).1 serves, blade, ?_⟩, fun k => ?_⟩
  · obtain ⟨source, timer, demand, -⟩ := moved fun rest => moving (moves.1 rest)
    exact ⟨source, timer, demand⟩
  · rw [referred] at lc
    exact lc
  · rw [noted, turned.only.pos]
  · have rest := rested k
    obtain ⟨sameBlade, -⟩ := turned.only.heads k
    rwa [faults, turned.only.lane, sameBlade] at rest

end Sys2Proof.Machine
end

section
/-! PROOFS. WINDOW_END (O17): the clauses put together. -/

namespace Sys2Proof.Machine

variable {s t u v z : State}

/-- The slip check and the estimate after the turns, with the increments in force (R11, R16). -/
theorem WindowTurned.checked (turned : WindowTurned s z v) {est : Nat} (selected : WindowSelected est (classAll s) z)
    (increments : v.sru.incW = s.sru.incW ∧ v.sru.incM = s.sru.incM) :
    SlipChecked s.set.slipPct s.sru.slipActive { v.sru with incW := s.sru.incW, incM := s.sru.incM } (v.flag .slip = true) ∧
    EstimateHolds s.lc.demand { v.sru with incW := s.sru.incW, incM := s.sru.incM } := by
  obtain ⟨incW, incM⟩ := increments
  have same : ({ v.sru with incW := s.sru.incW, incM := s.sru.incM } : Sru) = v.sru := by rw [← incW, ← incM]
  obtain ⟨held, lc⟩ := turned.only.lc
  have demand : z.lc.demand = s.lc.demand := by rw [lc]
  have estimate := selected.estimate
  obtain ⟨lines, slip, renewed⟩ := turned.reference (demand ▸ estimate)
  rw [same]
  exact ⟨selected.slip.congr lines slip (turned.flags _), demand ▸ renewed⟩

theorem windowEnded_increments (s : State) :
    (windowEnded s).sru.incW = s.sru.incW ∧ (windowEnded s).sru.incM = s.sru.incM := by
  have stands := windowTurned_stands s
  unfold windowEnded
  generalize turns s 4 (windowReferred s) = v at stands
  obtain ⟨⟨-, -, incW, incM, -⟩, -⟩ := stands
  exact ⟨incW, incM⟩

/-- CRM's values from head to head. -/
theorem windowReferred_shares (lanes : ∀ k, ∀ r ∈ s.queue k, r.lane = k) :
    ∃ c : Nat → Crm, c 0 = s.crm ∧ c 4 = (turns s 4 (windowReferred s)).crm ∧
      ∀ l : Lane, ShareTaken s (BladeLost l s (turns s 4 (windowReferred s))) (s.slicingRec l) (c l.val) (c (l.val + 1)) := by
  have turned := windowReferred_turned lanes
  refine ⟨fun n => (turns s n (windowReferred s)).crm, turned.only.crm, rfl, fun l => ?_⟩
  rw [← turned.only.faults turned.monitors]
  exact (turns_shareTaken (turned.only.records.lanes lanes) l).unmarked turned.only

/-- The monitors, the history, the next window and the frame after the settling. -/
theorem windowEnd_monitors (on : s.powered = true) (few : s.sru.w.history.length ≤ 8) (few' : s.sru.m.history.length ≤ 8) :
    ∃ t, exec .windowEnd s = .next t ∧
      MonitorStep s.set (s.lc.demand * s.sru.windowMs * s.set.scaleW / 10000000) s.sru.w.mon t.sru.w.mon ∧
      MonitorStep s.set (s.lc.demand * s.sru.windowMs * s.set.scaleM / 10000000) s.sru.m.mon t.sru.m.mon ∧
      (∀ l, MonitorStep s.set (s.bladeNominal l) (s.head l).mon (t.head l).mon) ∧
      t.sru.w.history = (if s.sru.w.history.length < 8 then s.sru.w.history else s.sru.w.history.tail)
        ++ [⟨s.sru.w.mon.count, s.sru.windowMs⟩] ∧
      t.sru.m.history = (if s.sru.m.history.length < 8 then s.sru.m.history else s.sru.m.history.tail)
        ++ [⟨s.sru.m.mon.count, s.sru.windowMs⟩] ∧
      t.sru.windowMs = s.set.windowMs ∧ t.sru.windowLeft = s.set.windowMs ∧ t.lc.demand = s.lc.demand ∧
      SameBut { lp := true, sru := true, lc := true, trk := true, hd := true, arb := true, tie := true, crm := true, tot := true, nv := true } s t := by
  have effect := windowEnd_effect on
  have classed := (windowEnded_classed s).settled s (windowEnded s).pos
  have frame := windowEnded_frame s
  generalize windowEnded s = u at *
  have settled := settle_frame s u.pos u
  generalize reached : settle s u.pos u = t at classed settled
  obtain ⟨w, m, blades⟩ := classed.steps
  obtain ⟨historyW, historyM⟩ := classed.histories few few'
  exact ⟨t, reached ▸ effect, w, m, blades, historyW, historyM, classed.windowMs, classed.windowLeft, classed.demand,
    (settled.widen fun _ => rfl).trans (frame.widen fun _ => rfl)⟩

/-- Settles O17: the monitors class by their windows; SRU's selection is kept, switched or lost; the heads take their turns, a
fault bringing the line home or leaving it moving. -/
theorem windowEndClasses : Obligations.WindowEndClasses := by
  refine ⟨fun s on few few' => windowEnd_monitors on few few', fun s on lanes => ?_⟩
  have selected := windowSelected s.sru.estimate (classAll s)
  have turned := windowReferred_turned lanes
  have chosen := choose_chosen (classAll s).sru
  have effect := windowEnd_effect on
  have frame := windowEnded_frame s
  have classed := windowEnded_classed s
  have increments := windowEnded_increments s
  obtain ⟨c, first, last, shares⟩ := windowReferred_shares lanes
  change WindowSelected s.sru.estimate (classAll s) (windowReferred s) at selected
  unfold windowEnded at effect frame classed increments
  generalize windowReferred s = z at *
  generalize turns s 4 z = v at *
  obtain ⟨keeps, switches, loses⟩ := windowSelected_held selected
  obtain ⟨w, m, blades⟩ := classed.steps
  obtain ⟨slip, estimate⟩ := turned.checked selected increments
  obtain ⟨full, few, off⟩ := slip
  obtain ⟨ofW, ofM, ofPacer⟩ := estimate
  refine ⟨beginWindow v, (classAll s).sru.choose, effect, frame, w, m, blades, ?_,
    turned.kept selected, fun y ⟨moving, choice, other⟩ => turned.switched selected y moving choice other,
    fun ⟨track, gone⟩ => turned.lost selected track gone, fun away => ?_, fun home => ?_,
    full, few, off, ofW, ofM, ofPacer, turned.forced, c, first, last, fun l => ?_⟩
  · rw [classed.w, classed.m]
    exact chosen
  · obtain ⟨still, drained⟩ := turned.line away
    exact ⟨_, keeps, fun y ⟨moving, choice, other⟩ => switches y moving choice other, fun ⟨track, gone⟩ => loses track gone, still, drained,
      turned.heads lanes away⟩
  · obtain ⟨line, raised, idle, moved, lc, culprit, rested⟩ := turned.cameHome selected.moves home
    exact ⟨line, raised, idle, moved, lc, culprit, fun l => (rested l).clauses⟩
  · obtain ⟨handed, unhanded⟩ := shares l
    exact ⟨handed, unhanded⟩

end Sys2Proof.Machine
end
